-- ==== Sys2Proof/Word.lean ====
section
/-! DEFINITION. The word types of FX-4: bytes, 32-bit register words, angles and identifiers. -/

namespace Sys2Proof

/-- One byte of a structure, record or message. -/
abbrev Byte := BitVec 8

/-- A set-up register word (R7), a descriptor word, a fuse word. -/
abbrev Word32 := BitVec 32

/-- A step angle: bits [31:16] count steps, bits [15:0] give the phase within a step. -/
abbrev Angle := BitVec 32

/-- A memory address on the master side of the Host Access Port. -/
abbrev Addr := BitVec 64

end Sys2Proof
end

