-- ==== Sys2Proof/Config.lean ====
section
/-! DEFINITION. What the integrator fixes when the block is generated (R18), and the values the spec leaves open. Each free
value is an opaque constant: nothing can evaluate it, so a statement holds whatever it is. -/

namespace Sys2Proof

/-- The integration parameters that FX_BUILD reports (R18). -/
structure Build where
  tiles : Nat
  hubs : Nat
  ports : Nat
  rails : Nat
deriving DecidableEq, Repr

/-- The reference configuration, Aflux A7: 128 tile agents, 2 hubs, 184 Phase Link ports, 12 rails. FX_BUILD reads 0x0CB8_0280.
DESIGN CHOICE (log 5). -/
def Config.aflux : Build := ⟨128, 2, 184, 12⟩

/-- FREE VALUE. Which of the free master tags FX-4 issues next (R44 fixes only that it is neither outstanding nor quarantined).
DESIGN CHOICE (log 2). -/
opaque Config.tagPick : Nat → Nat

/-- FREE VALUE. Whether a toggle that comes less than 40 ns after the previous one is lost (R37 says it may be).
DESIGN CHOICE (log 2). -/
opaque Config.toggleLost : Nat → Bool

/-- FREE VALUE. The private key of the reports as a function of the fuse map's words (R306 says that it is derived from them, and not how).
DESIGN CHOICE (log 2). -/
opaque Config.signingKey : List Nat → Nat

/-- FREE VALUE. The temperature of an event or of an observer node where the spec names none: no sensor has a value used yet
(R241: before Sizing there is none), in 0.0625 °C. DESIGN CHOICE (log 2). -/
opaque Config.noTemp : Nat → Int

/-- FREE VALUE. The 9 check bits over 128 data bits (R17, R41): the spec gives the code's properties and not its matrix.
DESIGN CHOICE (log 2). -/
opaque Config.checkBits : BitVec 128 → BitVec 9

/-- FREE VALUE. The boot ROM image of the tile agents' control cores (R392): the spec gives its use and not its bytes.
DESIGN CHOICE (log 2). -/
opaque Config.bootImage : List Byte

/-- FREE VALUE. Lerfikin's image key, X and Y (R353): the spec says that the boot ROM holds its digest, and not which key it is.
DESIGN CHOICE (log 2). -/
opaque Config.imageKey : Nat × Nat

/-- FREE VALUE. ATTR[1] of the master requests, no snoop: the spec gives the bit and not its value. DESIGN CHOICE (log 2). -/
opaque Config.noSnoop : Bool

end Sys2Proof
end

