-- ==== Sys2Proof/Syntax.lean ====
section
/-! DEFINITION. The commands of FX-4, one constructor for each row of spec/opcode_table.json in the table's order, with what the
world outside the block supplies to each as its operands. -/

namespace Sys2Proof

/-- What CHK shows of the beats of a transaction (R51). -/
inductive Chk where
  /-- Every beat is good. -/
  | good
  /-- A single-bit error was corrected. -/
  | corrected
  /-- A beat had a double-bit error. -/
  | bad
deriving DecidableEq, Repr

/-- A response transaction on HAP_MS (R43): how many beats passed, and whether the last of them carries LAST.
DESIGN CHOICE (log 9). -/
structure MasterResp where
  tag : BitVec 8
  beats : Nat
  last : Bool
  status : BitVec 3
  data : List Byte
  chk : Chk
deriving DecidableEq, Repr

/-- A request on HAP_SQ (R48). -/
structure SlaveReq where
  type : BitVec 2
  tag : BitVec 8
  addr : BitVec 16
  len : BitVec 3
  be : BitVec 32
  data : BitVec 256
  sec : Bool
  chk : Chk
deriving DecidableEq, Repr

/-- What the reads of a structure in memory give: its bytes, with a note whether a response carried a corrected single-bit error,
or the status of the first failed read. -/
inductive MemRead where
  | data (bs : List Byte) (corr : Bool)
  | fail (status : BitVec 4)
deriving DecidableEq, Repr

/-- An oscillator that R63 judges. -/
inductive Osc where
  | rc | tl | xtal | pll
deriving DecidableEq, Repr

/-- What FX-4 takes from a Timing Link frame (R73): the time field, the flags and the CRC. -/
structure TlFrame where
  time : BitVec 64
  flags : Byte
  crc : BitVec 16
deriving DecidableEq, Repr

/-- A reference source. -/
inductive Src where
  | rc | xtal | tl
deriving DecidableEq, Repr

/-- One sample of the straps (R381). -/
structure Straps where
  bootSrc : Nat := 0
  clkMode : Nat := 0
  role : Bool := false
deriving DecidableEq, Repr

/-- A ring frame of a tile image (R392): 12 bytes of the image at their byte offset, or the close with the length and the CRC-32. -/
inductive RingFrame where
  | data (offset : Nat) (bytes : List Byte)
  | close (len crc : Nat)
deriving DecidableEq, Repr

/-- What the hub finds when a domain completes: lanes that failed training (step 3), and the ring censuses of the two hubs in ring
order with their latencies in hub cycles (step 7). DESIGN CHOICE (log 9). -/
structure ReleaseObs where
  lanes0 : Nat := 0
  lanes1 : Nat := 0
  census0 : List Nat := []
  census1 : List Nat := []
  lat0 : Nat := 0
  lat1 : Nat := 0
deriving DecidableEq, Repr

/-- What the lanes find in one frame: whether a residue check failed (R125), and the descriptor words, as loop and word, that
gave an uncorrectable error when read (R124). DESIGN CHOICE (log 9). -/
structure FrameObs where
  laneFail : Bool := false
  badWords : List (Nat × Nat) := []
deriving DecidableEq, Repr

/-- The hub faults of R362. -/
inductive HubFault where
  | lane | stateUe | msgUe | rcLoss | pllLoss | pcResidue | frameWd
deriving DecidableEq, Repr

/-- What a poll of the tray's flow and inlet temperature gives (R259): the two values; nothing; or no acknowledgement of the flow target's
or the inlet target's address (R58). -/
inductive FlowRead where
  | read (flow : Nat) (inlet : Int)
  | missed
  | nack (flow inlet : Bool)
deriving DecidableEq, Repr

/-- What the sizing of a detector of the tile agent, 0 to 15, sees (R410): for each channel, whether it trips at each of the 11 steps of the
search, the first step in bit 0. A detector that sizing is not given trips exactly at its reference. DESIGN CHOICE (log 9). -/
structure DetTrip where
  det : Nat
  a : Nat
  b : Nat
deriving DecidableEq, Repr

/-- What comes with a journal frame: how far the mirror lags (R366), and the lanes on which it was corrected, a bit each (R17, R412).
DESIGN CHOICE (log 9). -/
structure JournalObs where
  lagNs : Nat
  lanes : Nat := 0
deriving DecidableEq, Repr

/-- An effect of the Phase Book: a program action by index, or a forecast by FC_ID (R206, R218). -/
inductive Effect where
  | action (idx : Nat)
  | forecast (id : Nat)
deriving DecidableEq, Repr

/-- A transfer on the Fabric Message Port (R276): its source, its payload, whether its check failed past correction, and whether
the fabric returns it undelivered. DESIGN CHOICE (log 9). -/
structure FmpMsg where
  peer : BitVec 14
  payload : BitVec 128
  ue : Bool := false
  undeliv : Bool := false
deriving DecidableEq, Repr

/-- The transactions of the PMBus controller (R55). -/
inductive PmbKind where
  | sendByte | writeByte | writeWord | readByte | readWord | blockRead
deriving DecidableEq, Repr

/-- The PMBus commands that FX-4 supports (R55). -/
inductive PmbCmd where
  | page | operation | onOffConfig | clearFaults | voutMode | voutCommand | voutMax | voutOvFaultLimit | voutUvFaultLimit
  | ioutOcFaultLimit | otFaultLimit | statusByte | statusWord | statusVout | statusIout | statusTemperature | readVin | readVout
  | readIout | readTemperature1 | mfrId | mfrModel
deriving DecidableEq, Repr

/-- A PMBus transaction (R55): its kind, its command and the data bytes that it writes. DESIGN CHOICE (log 9). -/
structure PmbTxn where
  kind : PmbKind
  cmd : PmbCmd
  out : List Byte := []
deriving DecidableEq, Repr

/-- A PMBus transaction that fails, and whether the target had acknowledged its data byte (R56). DESIGN CHOICE (log 9). -/
structure PmbFail where
  txn : PmbTxn
  acked : Bool
deriving DecidableEq, Repr

/-- How a PMBus transaction ends (R55, R56): the target does not acknowledge, it holds the clock low for more than 25 ms, or it answers
with bytes of which the last is the PEC of a read. DESIGN CHOICE (log 9). -/
inductive PmbEnd where
  | nack
  | held
  | answer (bs : List Byte)
deriving DecidableEq, Repr

/-- What an I3C target gives for GETPID, GETBCR and GETDCR (R58). DESIGN CHOICE (log 9). -/
structure I3cId where
  pid : Nat
  bcr : Nat
  dcr : Nat
deriving DecidableEq, Repr

/-- What the agreement check finds (R389): detectors and sensors that fail, ports with too few frames, the PMBus records whose MFR_ID
read failed and how its retry ended, and the I3C records that do not acknowledge their address (none) or that give an identity, in which
case it is compared with the manifest's; a record of neither list answers as the manifest has it. DESIGN CHOICE (log 9). -/
structure AgreeObs where
  dets : List Nat := []
  snss : List Nat := []
  ports : List Nat := []
  pmbus : List (Nat × PmbEnd) := []
  i3c : List (Nat × Option I3cId) := []
deriving DecidableEq, Repr

/-- A firmware processor: a hub core by core code (0 to 7), or the control core of a tile agent (R350). -/
inductive Core where
  | hub (code : Nat)
  | tile (t : Nat)
deriving DecidableEq, Repr

/-- Why the active hub judges the mirror lost (R372). -/
inductive MirrorLoss where
  | heartbeat | ack | lanes
deriving DecidableEq, Repr

/-- The commands of FX-4: one constructor for each row of the table, in its order. -/
inductive Instr where
  /-- REGISTER_WRITE: A slave write to a set-up register with no behaviour of its own takes effect by field type before FX-4 sends the response (R8). -/
  | registerWrite (req : SlaveReq)
  /-- CAPTURE_READ: A read of a capturing register, such as a _LO register or a first data register, captures its partner registers in the same instant (R457). -/
  | captureRead (req : SlaveReq)
  /-- HAP_MASTER_RESPONSE: A response to a master request is taken: it completes the request, is discarded as stray, or releases a quarantined tag (R43). -/
  | hapMasterResponse (resp : MasterResp)
  /-- HAP_TIMEOUT: A master request with no response within TIMEOUT_US completes as TIMEOUT and its tag enters quarantine (R46). -/
  | hapTimeout (tag : BitVec 8)
  /-- MISFIT_LAST_TIMEOUT: When a malformed response gives no LAST within TIMEOUT_US of the misfit, its tag enters quarantine (R458). -/
  | misfitLastTimeout (tag : BitVec 8)
  /-- GOV_VDD_OFF: Loss of GOV_VDD stops every part of FX-4 and discards all state (R19). -/
  | govVddOff
  /-- POWER_ON_RESET: GOV_VDD rising above 0.740 V holds power-on reset for 10 µs and then starts a whole-block build (R375). -/
  | powerOnReset
  /-- RESET_N_ASSERT: Assertion of RESET_N resets the whole block except the TAP, forcing pins to reset levels (R377). -/
  | resetNAssert
  /-- RESET_N_RELEASE: The held release of RESET_N starts option load 64 reference cycles later (R380). -/
  | resetNRelease
  /-- TRST_N_ASSERT: TRST_N resets only the TAP controller (R59). -/
  | trstNAssert
  /-- OPTION_LOAD_START: Option load samples the straps 8 times 1 µs apart and raises a strap fault on disagreement or a reserved code (R381). -/
  | optionLoadStart (samples : List Straps)
  /-- FUSE_READ_DONE: FZ_ACK completes one fuse word read; the word is checked, corrected or judged failed, and the next read starts (R404). -/
  | fuseReadDone (word : Word32)
  /-- FUSE_ACK_TIMEOUT: FZ_ACK not rising 10 µs after FZ_REQ is judged an option fault (R404). -/
  | fuseAckTimeout
  /-- DOMAIN_RELEASE: When a bring-up domain completes and its gap elapses, the next domain in the release order is released (R384). -/
  | domainRelease (obs : ReleaseObs)
  /-- BRINGUP_STUCK: A domain missing its completion bound stops bring-up with STUCK and STUCK_STEP set (R385). -/
  | bringupStuck
  /-- TL_WAIT_TIMEOUT: With CLK_MODE 11, the Timing Link not being judged stable 10 ms after the clocks release selects the crystal (R70). -/
  | tlWaitTimeout
  /-- OSC_STABLE: An oscillator, the Timing Link clock or the hub PLL is judged stable after 65,536 cycles with no loss indication (R63). -/
  | oscStable (osc : Osc)
  /-- TL_LOSS: The Timing Link is judged lost and the synthiser switches to the next source (R64). -/
  | tlLoss
  /-- XTAL_LOSS: The crystal is judged lost and the synthesiser switches to the next source (R64). -/
  | xtalLoss
  /-- SOURCE_SWITCH: The reference synthesiser completes a switch of source, setting TB_ERR bits and raising time-base events (R67). -/
  | sourceSwitch
  /-- REVERT_TO_SOURCE: A higher-priority source stable for REVERT_HOLD_MS is returned to (R68). -/
  | revertToSource (src : Src)
  /-- CDR_LOCK: At each CDR lock FX-4 measures the pin latency and updates TB_OFFSET (R74). -/
  | cdrLock (ps : Nat)
  /-- TL_FRAME: A Timing Link frame is taken whole: its CRC and time field are checked and the rack-time counter is loaded, slewed or stepped (R73). -/
  | tlFrame (frame : TlFrame)
  /-- TL_MARK_MISSED: An expected frame mark that does not arrive is counted in MISSED_MARKS (R73). -/
  | tlMarkMissed
  /-- SLEW_CYCLE: On one reference cycle in every 250 while slewing, the counter advances by 5 ns or 3 ns (R76). -/
  | slewCycle
  /-- TRIM_WINDOW: At the end of each trim window the RC trim code moves one step toward the expected count (R71). -/
  | trimWindow (count : Nat)
  /-- VFS_LEVEL_CHANGE: A change of required cluster level starts an ordered raise of Vset or a lower of the level (R79). -/
  | vfsLevelChange (tile : Nat)
  /-- VFS_SETTLED: The sensed rail voltage holding within tolerance for SETTLE_US sends the raised level to the tile agents (R79). -/
  | vfsSettled (rail : Nat)
  /-- TILE_LEVEL_REPORT: A tile agent's report of an applied level is taken; when all affected tiles have reported, Vset is lowered (R79). -/
  | tileLevelReport (tile : Nat)
  /-- VFS_SETTLE_TIMEOUT: A settle not met within 100 µs returns the target, sets VFS_STATUS.FAULT and raises a time-base event (R81). -/
  | vfsSettleTimeout (rail : Nat)
  /-- STEP_ANGLE_UPDATE: A STEP_TGL edge delivers a time-stamped angle that updates the rate and A_x, or is counted as a jump (R85). -/
  | stepAngleUpdate (angle : Angle) (wait : Nat)
  /-- ANGLE_EXTRAPOLATE: Every 4 reference cycles A_x is extrapolated from A_r and the rate, within the lead clamp (R83). -/
  | angleExtrapolate
  /-- ANGLE_TIMER: An armed angle timer whose trigger is no longer ahead of the led angle fires once to its owning feature (R87). -/
  | angleTimer (timer : BitVec 8)
  /-- ANGLE_LOSS: No accepted update for LOSS_MS makes the tracker LOST, freezes A_x and ends Phase Book effects (R86). -/
  | angleLoss
  /-- TRACKER_ENABLE: SA_CFG.EN going from 0 to 1 puts the tracker in ACQUIRING and clears SA_ERR (R84). -/
  | trackerEnable (req : SlaveReq)
  /-- BE_FRAME: At each Band Engine frame boundary measurements are latched, due loops evaluated, actuators arbitrated and frame-based budget, Phase Book and watch work done (R89). -/
  | beFrame (obs : FrameObs)
  /-- PROFILE_TICK: At each 100 ns tick every profile generator steps and the hub sets the PG 0 target and releases or recalls current credits (R103). -/
  | profileTick
  /-- BE_STOP_WRITE: A write of BE_STOP requests a stop of the named domains or PC at the next frame boundary (R115). -/
  | beStopWrite (req : SlaveReq)
  /-- BE_START_WRITE: A write of BE_START requests a checked restart of the named domains or PC at the next frame boundary (R119). -/
  | beStartWrite (req : SlaveReq)
  /-- BRIM_WRITE: A write of a Brim value is limited to its fuse value and takes effect at once, including on held actuators (R116). -/
  | brimWrite (req : SlaveReq)
  /-- PG_LIMIT_WRITE: A write to a profile generator limit or CFG register takes effect at the next tick boundary, with 0 setting 1 (R106). -/
  | pgLimitWrite (req : SlaveReq)
  /-- LOOP_DATA_WRITE: A write through BE_LDATA is checked and queued as a live word, applied at once, or discarded as SU (R110). -/
  | loopDataWrite (req : SlaveReq)
  /-- LOOP_WRITE: The loop-write command checks and applies up to seven descriptor words in the given order (R330). -/
  | loopWrite
  /-- LOOP_IMAGE_LOAD: The loop image command reads, checks and writes whole domains of loop descriptors (R123). -/
  | loopImageLoad (mem : MemRead)
  /-- DOMAIN_STOP: The stop command stops the named domains or PC at the next frame boundary under the Brim (R115). -/
  | domainStop
  /-- DOMAIN_START: The start command restarts the named domains or PC at the next frame boundary after checks (R119). -/
  | domainStart
  /-- HUB_FAULT: A hub hardware fault is judged, causing takeover in a duplex or otherwise the hub hold (R362). -/
  | hubFault (fault : HubFault)
  /-- COMPENSATOR_UPDATE: Every 10 ns each rail's duty command is computed from its target and sensed voltage (R139). -/
  | compensatorUpdate (vsns : List (Nat × Nat))
  /-- PHASE_REPORT_FRAME: A report frame on PH_RPT is accepted and updates the port's current, temperature and fault runs (R133). -/
  | phaseReportFrame (port : Nat) (frame : BitVec 48) (inTime : Bool)
  /-- RAIL_PERIOD_BOUNDARY: At each rail period boundary short and mass-loss checks, phase fault judgement, shedding, imbalance and spare starts are evaluated (R153). -/
  | railPeriodBoundary (rail : Nat)
  /-- SHED_HOLD_EXPIRY: N_req below N_active for HOLD_US starts a drain of the highest ACTIVE port (R164). -/
  | shedHoldExpiry (rail : Nat)
  /-- FIRE_HOLD_EXPIRY: FIRE_HOLD_US after a fire ends, shed decisions resume on the rail (R160). -/
  | fireHoldExpiry (rail : Nat)
  /-- UVF_RISE: UVF[r] rising at the active hub fires all participating phases of the rail within 12 ns (R158). -/
  | uvfRise (rail : Nat)
  /-- FIRE_END: Fire ends when UVF is low and the voltage has recovered, returning ports to ACTIVE and respacing slots (R160). -/
  | fireEnd (rail : Nat)
  /-- FIRE_MAX_EXPIRY: Fire lasting FIRE_MAX is ended, FLT.FIRE_MAX set and a regulator event raised (R161). -/
  | fireMaxExpiry (rail : Nat)
  /-- RAIL_START: The rail-start command starts the named rails in ORDER groups through delay, test, ramp and settle (R144). -/
  | railStart
  /-- RAIL_STOP: The rail-stop command takes the named rails down in descending ORDER by their off ramps (R148). -/
  | railStop
  /-- RAIL_DELAY_EXPIRY: The on or off delay of a rail group ends and its test or stop ramp begins (R144). -/
  | railDelayExpiry (rail : Nat)
  /-- RAIL_RAMP_DONE: The start-ramp target reaches the stored value and the rail enters SETTLE (R144). -/
  | railRampDone (rail : Nat)
  /-- RAIL_SETTLED: The sensed voltage within ±10 mV for 10 µs makes the rail UP and starts the next group (R144). -/
  | railSettled (rail : Nat)
  /-- RAIL_START_TIMEOUT: A rail not in regulation 1 ms after its RAMP step fails the start without retry (R147). -/
  | railStartTimeout (rail : Nat)
  /-- HICCUP_EXPIRY: After SS_HICCUP_MS the rail restarts from TEST, or fails the start after its last retry (R151). -/
  | hiccupExpiry (rail : Nat)
  /-- RAIL_STOP_DONE: A stop-ramp target reaching 0 mV disables every port of the rail and puts it OFF (R148). -/
  | railStopDone (rail : Nat)
  /-- FAST_OFF_DONE: A fast-off target reaching 0 mV disables the rail; when every PH_EN_N is high the hard stop enters DOWN (R149). -/
  | fastOffDone (rail : Nat)
  /-- PHASE_RETIRE: The phase-retire command retires the port carrying the named logical phase with CAUSE 6 (R157). -/
  | phaseRetire
  /-- RAIL_FLT_CLEAR: Clearing all of RAILr_FLT[4:0] takes a FAULTED rail to OFF (R154). -/
  | railFltClear (req : SlaveReq)
  /-- RAIL_SRC_WRITE: A write of RAILr_CFG.SRC moves the target between stored value and load line at VFS_CFG.SLEW (R142). -/
  | railSrcWrite (req : SlaveReq)
  /-- VSEL_CHANGE: A change of the filtered VSEL value moves rails in stored-value mode to the new stored value (R142). -/
  | vselChange (vsel : BitVec 3)
  /-- PWRGD_FALL: PWRGD falling while rails are up calls a hard stop with cause 7 (R32). -/
  | pwrgdFall
  /-- PWRGD_RISE: PWRGD rising allows rails to be started again (R32). -/
  | pwrgdRise
  /-- SHELF_BRAKE_ASSERT: SHELF_BRAKE_N held asserted applies the frequency ceiling, the PG 0 cap and the BRAKE flag within 200 ns (R167). -/
  | shelfBrakeAssert
  /-- BRAKE_ESCALATION: At ESC_US, period power above LEVEL_W asserts the brake GSTOP (R168). -/
  | brakeEscalation
  /-- BRAKE_MISS_CHECK: At 10 µs, period power above LEVEL_W sets BRAKE_MISS and raises a regulator event (R168). -/
  | brakeMissCheck
  /-- SHELF_BRAKE_DEASSERT: SHELF_BRAKE_N deasserted releases the brake GSTOP and lifts ceilings at the next frame boundary (R170). -/
  | shelfBrakeDeassert
  /-- DETECTOR_TRIP: A detector tripping stretches the cluster clock and, with enough fire-level trips, drives UVF_O (R174); uv is its tap voltage in µV. -/
  | detectorTrip (det : Nat) (uv : Nat)
  /-- DETECTOR_CLEAR: A tripped detector clears above its reference plus hysteresis, dropping UVF_O below the vote (R173); uv is its tap voltage in µV. -/
  | detectorClear (det : Nat) (uv : Nat)
  /-- STRETCH_HOLD_EXPIRY: STRETCH_HOLD hub cycles after the last detector clears, CL_STRETCH falls (R174). -/
  | stretchHoldExpiry (tile : Nat)
  /-- DETECTOR_SELF_TEST: Every PERIOD_US each enabled detector is pulsed and checked for trips at both levels (R179). -/
  | detectorSelfTest (tile : Nat) (fails : List Nat)
  /-- DETECTOR_STUCK: A detector tripped at stretch level for STUCK_US while no neighbour trips is failed (R179). -/
  | detectorStuck (det : Nat)
  /-- ENGINE_START_REQUEST: ENG_START is taken by the tile agent's grant scan, which grants within its pool and head rules (R185). -/
  | engineStartRequest (tile : Nat) (starts : List (Nat × Nat))
  /-- ENGINE_END: ENG_END returns the recorded cost to the pool, serving an open recall first, or counts a spurious end (R184). -/
  | engineEnd (tile : Nat) (ends : List Nat)
  /-- OP_MAX_EXPIRY: A grant held beyond OP_MAX_US raises a droop and credit event once and sets CC_ERR.OP_MAX (R187). -/
  | opMaxExpiry (tile : Nat) (engine : Nat)
  /-- CREDIT_RELEASE: A release or recall message reaches a tile agent, filling its pool or setting its recall mark (R189). -/
  | creditRelease (tile : Nat) (lost : Bool)
  /-- TILE_REPORT: A tile agent's per-tick report of pool, held, waiting and returns is taken by the hub (R188). -/
  | tileReport (tile : Nat) (lost : Bool)
  /-- CREDIT_RETURN: A credit return from a tile agent is added to the reserve or leaves the stranded count (R192). -/
  | creditReturn (tile : Nat) (lost : Bool)
  /-- CREDIT_AUDIT_START: Every audit period the hub sends an audit marker around its ring (R193). -/
  | creditAuditStart (reserveBad : Bool)
  /-- AUDIT_NOW_WRITE: A write of 1 to CC_AUDIT.NOW starts a credit audit at once (R193). -/
  | auditNowWrite (req : SlaveReq)
  /-- CREDIT_AUDIT_RETURN: The returned marker gives Δ; a non-zero Δ is added to the reserve with an event (R193). -/
  | creditAuditReturn
  /-- TILE_LOST: No report for 2 µs judges a tile agent lost and strands its credits (R194). -/
  | tileLost (tile : Nat)
  /-- TILE_ORPHAN: No message from the active hub for 2 µs orphans a tile agent, which applies the Brim level (R195). -/
  | tileOrphan (tile : Nat)
  /-- CENSUS_REQUEST: A tile agent takes a census request, switches its active port, answers its credits and clears ORPHAN (R196). -/
  | censusRequest (tile : Nat)
  /-- CLUSTER_POWER_OK: CL_PWR_OK rising starts the 10 µs hold in which both channels of each detector are sized (R410). -/
  | clusterPowerOk (tile : Nat) (trips : List DetTrip)
  /-- CL_PWR_HOLD_EXPIRY: 10 µs after CL_PWR_OK rises, the cluster's detectors are enabled and it may grant (R177). -/
  | clPwrHoldExpiry (tile : Nat)
  /-- STEP_BOUNDARY: A_x passing phase 0 of a step applies the step's learning, closes step-bound watch windows and starts step-start watches (R202). -/
  | stepBoundary
  /-- PROGRAM_SWITCH: A pending Phase Book program replaces the loaded one at a step boundary or at once, writing bins, channels and actions (R216). -/
  | programSwitch
  /-- PLAN_SWITCH: An accepted frequency plan replaces the loaded one at a step boundary (R294). -/
  | planSwitch
  /-- ACTION_MAX_EXPIRY: An effect active for ACT_MAX_US is ended, PB_ERR.CUT set and a Phase Book event raised (R209). -/
  | actionMaxExpiry (effect : Effect)
  /-- PHASEBOOK_LOAD: The program-load command reads and checks a Phase Book program and holds it pending (R215). -/
  | phasebookLoad (mem : MemRead)
  /-- FORECAST: The forecast command takes a forecast into the table, replaces a waiting one, or rejects it (R218). -/
  | forecast (entry : MemRead)
  /-- FORECAST_CANCEL: A forecast command with CANCEL removes a held forecast or ends an active one (R219). -/
  | forecastCancel
  /-- PB_CLEAR_BINS: A write of 1 to PB_CTL.CLEAR_BINS clears every bin at once (R200). -/
  | pbClearBins (req : SlaveReq)
  /-- PB_BIN_LOG2_WRITE: A write to PB_CFG.BIN_LOG2 clears every bin (R200). -/
  | pbBinLog2Write (req : SlaveReq)
  /-- PB_UNLOAD: A write of 1 to PB_CTL.UNLOAD removes the loaded program at the next switch point (R217). -/
  | pbUnload (req : SlaveReq)
  /-- PB_ACTIONS_DISABLE: Clearing PB_CFG.ACTIONS ends every active program action at the next frame boundary (R217). -/
  | pbActionsDisable (req : SlaveReq)
  /-- SENSOR_SAMPLE_WINDOW: At the end of each 20 µs window every sensor count is converted, checked, judged and compared with limits (R226). -/
  | sensorSampleWindow (counts : List (Nat × Nat))
  /-- THERMAL_CEILING_LIFT: After its 1 ms hold, a ceiling whose positions have cooled is lifted at a frame boundary (R246). -/
  | thermalCeilingLift (tile : Nat)
  /-- ORDERLY_DRAIN_DONE: Every tile agent reporting no held credits ends the drain and starts cluster shutdown (R251). -/
  | orderlyDrainDone
  /-- ORDERLY_DRAIN_TIMEOUT: DRAIN_US after the call, the drain ends and still-running engines are reset (R251). -/
  | orderlyDrainTimeout
  /-- ORDERLY_CLUSTERS_OFF: Every CL_PWR_OK low, or 100 µs, ends step 3 and stops every UP rail (R251). -/
  | orderlyClustersOff
  /-- THERMAL_REARM: The re-arm command leaves shutdown when every condition holds, releasing GSTOP, trips and THERMTRIP_N (R257). -/
  | thermalRearm
  /-- FLOW_OK_LOW: FLOW_OK held low calls a hard stop with cause 5, or is recorded when already stopped (R261). -/
  | flowOkLow
  /-- FLOW_OK_HIGH: FLOW_OK returning high is recorded in TH_STATUS.FLOW_OK (R261). -/
  | flowOkHigh
  /-- FLOW_POLL: Every POLL_MS the tray flow and inlet temperature are read over I3C (R259). -/
  | flowPoll
  /-- FLOW_READING: A completed flow reading updates F and T_COOL and is judged against LOW_PCT and MIN_PCT (R260). -/
  | flowReading (reading : FlowRead)
  /-- SIZING_ROUND_DONE: A round of 64 samples completes; if spread and movement are small, offsets are set and Sizing ends (R228). -/
  | sizingRoundDone (inlet : Option Int)
  /-- SIZING_TIMEOUT: Step 2 not met by WAIT_MS ends Sizing with fuse-only offsets and a thermal event (R229). -/
  | sizingTimeout
  /-- OBSERVER_LOAD: The observer-load command reads and checks a thermal model and holds it for the next solve boundary (R232). -/
  | observerLoad (mem : MemRead)
  /-- OBSERVER_SWITCH: At the next solve boundary an accepted model replaces the loaded one and nodes are initialised (R233). -/
  | observerSwitch
  /-- OBSERVER_ENABLE: TH_CFG.OBS_EN going from 0 to 1 with a model loaded initialises every node and starts SETTLING (R233). -/
  | observerEnable (req : SlaveReq)
  /-- OBSERVER_SOLVE: Every 20 frames the observer is solved, corrected by trusted sensors, and rates and τ formed (R234). -/
  | observerSolve
  /-- OBSERVER_SETTLED: 100 solves after initialisation the observer leaves SETTLING and becomes valid (R233). -/
  | observerSettled
  /-- LIMIT_SET_WRITE: A limit-set write out of order is discarded with LIM_ORDER; T_TRIP is capped at its fuse value (R243). -/
  | limitSetWrite (req : SlaveReq)
  /-- RAINFLOW_SAMPLE: Every DECIM_MS each region's highest value is sampled and reversals counted by rainflow (R262). -/
  | rainflowSample
  /-- BUDGET_CEILING_LIFT: After its 100 µs hold, the budget ceiling lifts once both windows are at or below 0.98 of their limits (R272). -/
  | budgetCeilingLift
  /-- SECOND_BOUNDARY: A second boundary closes the period and writes a signed second report (R304). -/
  | secondBoundary
  /-- MINUTE_BOUNDARY: A rack-minute boundary resets allowance and bank, releases the W3 stop and writes a minute report (R273). -/
  | minuteBoundary
  /-- RPT_CONS_WRITE: A write to BG_RPT_CONS frees report ring slots so held reports are written (R307). -/
  | rptConsWrite (req : SlaveReq)
  /-- EXCHANGE_PERIOD: Every exchange period a member retargets OWN, grants to children, sends DEMAND and PACE and surplus up (R290). -/
  | exchangePeriod
  /-- FELT_CREDIT: A CREDIT message is applied in order, held ahead of a gap, or discarded as a duplicate (R278). -/
  | feltCredit (msg : FmpMsg)
  /-- FELT_ACK: An ACK updates ACKED and checks for a total fault (R283). -/
  | feltAck (msg : FmpMsg)
  /-- FELT_DEMAND: A child's DEMAND records its need, priority, deterministic flags and receipts (R290). -/
  | feltDemand (msg : FmpMsg)
  /-- FELT_PACE: A child's PACE is combined into the member's slowest and fastest angle entry (R291). -/
  | feltPace (msg : FmpMsg)
  /-- FELT_VIEW: A VIEW is recorded, forwarded and judged for a critical member, updating shift or pace states (R293). -/
  | feltView (msg : FmpMsg)
  /-- FELT_AUDIT: An AUDIT is forwarded to children and the member's contribution sampled (R284). -/
  | feltAudit (msg : FmpMsg)
  /-- FELT_AUDIT_REPLY: An AUDIT_REPLY is summed; when all are in, the result goes up or the root forms Δ (R284). -/
  | feltAuditReply (msg : FmpMsg)
  /-- FELT_STEP: A STEP message is forwarded and a timer armed to apply the new DOWN at its angle (R296). -/
  | feltStep (msg : FmpMsg)
  /-- FELT_SYNC_REQ: A SYNC_REQ stops sending on the link and starts the 10 µs settling wait (R286). -/
  | feltSyncReq (msg : FmpMsg)
  /-- FELT_SYNC_ANS: A SYNC_ANS sets the link totals, adjusts POOL and makes the link UP (R286). -/
  | feltSyncAns (msg : FmpMsg)
  /-- SYNC_WAIT_DONE: After 10 µs the answering member removes returned credits and sends SYNC_ANS (R286). -/
  | syncWaitDone (link : Nat)
  /-- FELT_BAD_MESSAGE: A bad Felt message is discarded, setting BAD_MSG and recording the source (R277). -/
  | feltBadMessage (msg : FmpMsg)
  /-- FELT_UNDELIVERED: A CREDIT returned undelivered is scheduled for resend, or takes the link DOWN after the last retry (R279). -/
  | feltUndelivered (msg : FmpMsg)
  /-- FELT_RETRY: RETRY_US after a return, the CREDIT is sent again unchanged (R279). -/
  | feltRetry (link : Nat)
  /-- FELT_GAP_TIMEOUT: A gap unfilled for 8 × RETRY_US takes the link DOWN and sends SYNC_REQ (R279). -/
  | feltGapTimeout (link : Nat)
  /-- PEER_TIMEOUT: Silence from a child or parent for PEER_TIMEOUT_US marks it lost or the member ORPHAN (R289). -/
  | peerTimeout (link : Nat)
  /-- ROOT_AUDIT_START: Every PERIOD_MS the root increments EPOCH and sends AUDIT (R284). -/
  | rootAuditStart
  /-- AUDIT_ABANDON: An audit with replies missing after 4 × PEER_TIMEOUT_US is abandoned (R284). -/
  | auditAbandon
  /-- PLAN_LOAD: The plan-load command reads and checks a frequency plan for the next step boundary (R294). -/
  | planLoad (mem : MemRead)
  /-- ENVELOPE_SET: The envelope command changes FLOOR, CEIL or the root's ISSUED (R285). -/
  | envelopeSet
  /-- FELT_SYNC: The sync command sends SYNC_REQ on the named link and completes when it is UP (R286). -/
  | feltSync
  /-- ACCOUNT_READ: The account-read command writes the resident or backing record of a power account (R333). -/
  | accountRead (back : MemRead)
  /-- ACCOUNT_FLUSH: The flush command completes when every dirty account has been written back with GOOD (R301). -/
  | accountFlush
  /-- QBIND_WRITE: A write of BG_QBINDt binds the cluster to a queue at the next frame boundary, fetching its account (R299). -/
  | qbindWrite (req : SlaveReq)
  /-- ACCOUNT_FETCH_DONE: A fetched account record becomes resident and the pending count is added, or restarts at 0 on a bad CRC (R301). -/
  | accountFetchDone
  /-- ACCOUNT_WRITEBACK: Every WB_MS every dirty account is written back (R301). -/
  | accountWriteback
  /-- ACCOUNT_WRITEBACK_DONE: A write-back response cleans the account, or on failure sets ACCT_WB with an event (R301). -/
  | accountWritebackDone
  /-- REPORT_KEY_READ: The key-read command writes the report public key in SEC 1 form (R334). -/
  | reportKeyRead
  /-- DOORBELL_POLL: Every POLL_US the producer indices of the doorbell page are read (R314). -/
  | doorbellPoll
  /-- DOORBELL_READ_DONE: A doorbell read completes, updating indices, or sets DB_READ on failure (R314). -/
  | doorbellReadDone
  /-- DESCRIPTOR_FETCH_DONE: Fetched descriptors are ready to be taken, or a failed fetch puts the ring in ERROR (R317). -/
  | descriptorFetchDone
  /-- DESCRIPTOR_BAD_OPCODE: A descriptor with a reserved opcode completes with BAD_OPCODE (R319). -/
  | descriptorBadOpcode
  /-- COMPLETION_WRITE_DONE: GOOD for completion records lets the completion producer index be written (R321). -/
  | completionWriteDone
  /-- RING_ENABLE: RINGn_CFG.EN going from 0 to 1 starts the ring with indices at 0 (R316). -/
  | ringEnable (req : SlaveReq)
  /-- RING_DISABLE: RINGn_CFG.EN going to 0 stops taking descriptors and sets IDLE when in-flight ones finish (R316). -/
  | ringDisable (req : SlaveReq)
  /-- NOP: The no-operation command completes when taken (R326). -/
  | nop
  /-- MANIFEST_LOAD: The manifest command reads and checks the manifest, runs the agreement check and puts it in force (R388). -/
  | manifestLoad (mem : MemRead) (agree : AgreeObs)
  /-- READY: When credit issue, mirror sync, account zeroing and Sizing have finished, the block is declared ready with an event (R390). -/
  | ready
  /-- FIRMWARE_LOAD: The firmware command reads an image which the security core checks and accepts or rejects (R353). -/
  | firmwareLoad (mem : MemRead) (failed : Nat)
  /-- FIRMWARE_IMAGE_START: An accepted image starts when a reserve core is STANDBY, or by broadcast to the tile agents (R354). -/
  | firmwareImageStart
  /-- TILE_BROADCAST_DONE: A tile image broadcast ends; failing tiles get resends and are retired or keep their image (R393). -/
  | tileBroadcastDone (taken : List (Nat × List RingFrame))
  /-- BLOCK_RESET_ENGINE: A scope 1 reset clears a tile agent's record of an engine and returns its credits (R397). -/
  | blockResetEngine
  /-- BLOCK_RESET_CLUSTER: A scope 2 reset resets a tile agent and its cluster with credit drain and absorption (R398). -/
  | blockResetCluster
  /-- BLOCK_RESET_PARTITION: A scope 3 reset resets every named tile agent as scope 2 in the same tick (R397). -/
  | blockResetPartition
  /-- BLOCK_RESET_SUB_BLOCK: A scope 4 reset resets one hub sub-block and releases it after the drain (R399). -/
  | blockResetSubBlock
  /-- BLOCK_RESET_WHOLE: A scope 5 reset completes the descriptor, drains master tags and resets the whole block (R331). -/
  | blockResetWhole
  /-- TILE_RESET_STRAND: The pool return, or 2 µs, marks the resetting tile agent's credits stranded and LOST (R398). -/
  | tileResetStrand (tile : Nat)
  /-- TILE_RESET_DONE: A reset tile agent reporting nothing held returns its credits to the reserve and sends it its limits (R398). -/
  | tileResetDone (tile : Nat)
  /-- TILE_RESET_TIMEOUT: Step 5 not reached within 1 ms completes the reset with STATE and leaves the tile LOST (R398). -/
  | tileResetTimeout (tile : Nat)
  /-- SUB_BLOCK_HOLD: Writing 1 to an RS_SUB.HOLD bit places that sub-block in reset (R400). -/
  | subBlockHold (req : SlaveReq)
  /-- SUB_BLOCK_RELEASE: Writing 0 to an RS_SUB.HOLD bit releases the sub-block to its reset state (R400). -/
  | subBlockRelease (req : SlaveReq)
  /-- CLUSTER_POWER_UP: The cluster power-up command powers the named clusters in waves (R394). -/
  | clusterPowerUp
  /-- CLUSTER_POWER_DOWN: The cluster power-down command resets engines, returns pools and powers the clusters off (R332). -/
  | clusterPowerDown
  /-- WAVE_START: GAP_US after the last CL_PWR_OK of a wave, the next wave drives CL_PWR_EN high at level 1 (R394). -/
  | waveStart
  /-- CLUSTER_POWER_OK_TIMEOUT: CL_PWR_OK not rising OK_US after CL_PWR_EN turns the cluster off and fails the command (R395). -/
  | clusterPowerOkTimeout (tile : Nat)
  /-- WATCH_ARM: The watch command with ACT arm arms a watch, sampling or waiting for a step start (R427). -/
  | watchArm
  /-- WATCH_CLEAR: The watch command with ACT clear sets the watch to CLEAR with results 0 (R428). -/
  | watchClear
  /-- FREEZE: The freeze command freezes at once, or arms a timed freeze at OBS_FRZ_AT (R430). -/
  | freeze
  /-- THAW: The freeze command with ACT 0 thaws, restoring shadow values and disarming a timed freeze (R434). -/
  | thaw
  /-- FREEZE_TIMED_INSTANT: Rack time reaching OBS_FRZ_AT freezes the visible observation values (R430). -/
  | freezeTimedInstant
  /-- FREEZE_SETTLED: The freeze marker's last tile sends arrive and SETTLED is set (R432). -/
  | freezeSettled
  /-- THAW_WRITE: A write of 1 to OBS_FRZ_CTL.THAW thaws (R434). -/
  | thawWrite (req : SlaveReq)
  /-- OBS_CLEAR_WRITE: A write of 1 to OBS_CLR.LAYER_OPER clears the attribution table at the next frame boundary (R424). -/
  | obsClearWrite (req : SlaveReq)
  /-- OP_COUNT_TRANSFER: Every 1 ms a tile agent sends its per-code grant and energy increments to the hub (R422). -/
  | opCountTransfer (tile : Nat)
  /-- TAP_FREEZE: An FX_FREEZE update with bit 0 freezes 32 ns after Update-DR (R437). -/
  | tapFreeze (bits : Byte)
  /-- TAP_THAW: An FX_FREEZE update with bit 1 thaws (R437). -/
  | tapThaw (bits : Byte)
  /-- SCAN_CAPTURE: Capture-DR of FX_SCAN starts the snapshot chain at word 0 and sets SCAN_BUSY (R436). -/
  | scanCapture
  /-- SCAN_EXIT: Exit from Shift-DR clears SCAN_BUSY (R436). -/
  | scanExit
  /-- TAP_FIRMWARE_LOAD: An image entered through FX_LOAD with BOOT_SRC 01 is checked without signature and started (R355). -/
  | tapFirmwareLoad (bytes : List Byte)
  /-- FUSE_RECORD_BAD: Fuse record KIND 1 programs bad-unit records for the target's failures (R414). -/
  | fuseRecordBad (readback : List Word32)
  /-- FUSE_RECORD_SPARE: Fuse record KIND 2 programs a PHASE_SPARE record for the spare carrying the phase (R414). -/
  | fuseRecordSpare (readback : List Word32)
  /-- FUSE_RECORD_RETIRED: Fuse record KIND 3 programs PORT_BAD for ports that PHASE_RETIRE retired (R414). -/
  | fuseRecordRetired (readback : List Word32)
  /-- SRAM_ROW_REPAIR: A row reaching its corrected-error limit or giving an uncorrectable error is mapped to a spare row (R411). -/
  | sramRowRepair (hub : Nat) (firmware : Bool) (row : Nat) (uncorrected : Bool) (kind : Nat) (acct : Option Nat)
  /-- MIRROR_LANE_FAIL: A failed Mirror Link lane's traffic moves to a spare lane with an event (R412). -/
  | mirrorLaneFail (hub : Nat) (lane : Nat)
  /-- WEAR_UPDATE: Once per second each region's wear index is formed (R416). -/
  | wearUpdate
  /-- WEAR_SEL_WRITE: A write to SP_WEAR_SEL forms the selected region's wear index within 1 µs (R416). -/
  | wearSelWrite (req : SlaveReq)
  /-- CORE_TRAP: A trap or uncorrectable firmware word stops a core, which is covered by a reserve core (R357). -/
  | coreTrap (core : Core)
  /-- CORE_DEADLINE_EXPIRY: A core's deadline counter expiring without a kick stops it as faulted (R357). -/
  | coreDeadlineExpiry (core : Core)
  /-- CORE_RESTARTED: A restarted core is RUNNING and takes its duties back, or is retired after too many faults (R359). -/
  | coreRestarted (core : Core)
  /-- JOURNAL_FRAME: The mirror applies a journal frame and acknowledges it (R365). -/
  | journalFrame (obs : JournalObs)
  /-- JOURNAL_ACK: The mirror's acknowledgement lets the waiting external effect leave the active hub (R365). -/
  | journalAck
  /-- MIRROR_SYNCED: The mirror holds a full copy of the active hub's state and sets SYNCED (R366). -/
  | mirrorSynced
  /-- TAKEOVER_REQUEST: A takeover request on the journal makes the mirror judge the active hub lost and take over (R367). -/
  | takeoverRequest
  /-- HEARTBEAT_ABSENT: Heartbeat absent 500 ns lets a STANDBY mirror assert GSTOP on brake, flow or power inputs (R368). -/
  | heartbeatAbsent
  /-- HEARTBEAT_LOSS: Heartbeat and journal silent 2 µs judge the active hub lost; one silent alone is a link fault (R367). -/
  | heartbeatLoss (journal : Bool)
  /-- MIRROR_LOST: The active hub judges the mirror lost and continues as a simplex with an event (R372). -/
  | mirrorLost (cause : MirrorLoss)
  /-- FORCED_TAKEOVER: A write of 1 to DU_CTL.TAKEOVER in MODE 01 sends a takeover request and sets FORCED (R373). -/
  | forcedTakeover (req : SlaveReq)
  /-- MB_H2F_DATA_WRITE: A write to MBc_H2F_DATA appends a word, or is discarded when the queue is full (R345). -/
  | mbH2fDataWrite (req : SlaveReq)
  /-- MB_DOORBELL: Bit 0 of MBc_H2F_DB being set lets FX-4 take every whole message, counting framing errors (R346). -/
  | mbDoorbell (chan : BitVec 2)
  /-- MB_F2H_DATA_READ: A read of MBc_F2H_DATA removes and returns the oldest word (R348). -/
  | mbF2hDataRead (req : SlaveReq)
  /-- MB_ECHO: The ECHO message is answered with the same words (R347). -/
  | mbEcho (chan : BitVec 2)
  /-- MB_FW_INFO: The FW_INFO message is answered with the image identifiers of each core kind (R347). -/
  | mbFwInfo (chan : BitVec 2)
  /-- MB_CORE_STATE: The CORE_STATE message is answered with the state of each core (R347). -/
  | mbCoreState (chan : BitVec 2)
  /-- MB_LOCK_FIRMWARE: The LOCK_FIRMWARE message refuses FIRMWARE_LOAD until a whole-block reset (R347). -/
  | mbLockFirmware (chan : BitVec 2)
  /-- MB_LOCK_ENVELOPE: The LOCK_ENVELOPE message restricts ENVELOPE_SET to secure rings until a whole-block reset (R347). -/
  | mbLockEnvelope (chan : BitVec 2)
  /-- MB_UNKNOWN_TYPE: A message of unknown type is answered with status 1 (R347). -/
  | mbUnknownType (chan : BitVec 2)
  /-- MB_REPLY_TIMEOUT: A reply that finds no room for 1 ms is discarded and counted (R348). -/
  | mbReplyTimeout (chan : BitVec 2)
  /-- TELEMETRY_SAMPLE: Every PERIOD_US a sample telemetry record is written or discarded (R344). -/
  | telemetrySample
  /-- PMB_ALERT: PMB_ALERT_N asserted is answered with the SMBus alert response address (R55). -/
  | pmbAlert (answer : Option Byte)
  /-- PMBUS_TRANSACTION_FAIL: A PMBus transaction held too long or failing PEC ends and is retried once, or marks the target faulted (R56). -/
  | pmbusTransactionFail (record : Nat) (failed : PmbFail)
  /-- PMBUS_RETRY: 1 ms after a failed transaction it is retried (R56). -/
  | pmbusRetry (record : Nat) (res : Option PmbEnd)
  /-- I3C_IBI: An in-band interrupt from a named I3C target is accepted with up to 4 payload bytes (R57). -/
  | i3cIbi (record : Nat) (payload : List Byte)
  /-- HEARTBEAT_RETURN: The active hub's heartbeat returning on MIR_HB_I ends the STANDBY mirror's GSTOP hold (R368). -/
  | heartbeatReturn
  /-- CL_PWR_OK_FALL: A cluster's CL_PWR_OK falling disables its detectors, stops counting its demand and lets a power-down or orderly step complete (R177). -/
  | clPwrOkFall (tile : Nat)
  /-- LEVEL_ORDER: A level order or ceiling that reaches a tile agent over the hub ring is applied to CL_DIV and CL_SKIP at the next 16-cycle boundary (R34). -/
  | levelOrder (tile : Nat)
  /-- QUARANTINE_RELEASE: A tag quarantined across a scope 5 reset or by a takeover is released 100 µs after the slave window opens, or TIMEOUT_US after the decision (R379). -/
  | quarantineRelease (tag : BitVec 8)
  /-- BLOCK_RESET_DRAIN_TIMEOUT: 10 ms after a scope 5 reset began draining master tags, the reset takes effect with the remaining tags quarantined (R379). -/
  | blockResetDrainTimeout
  /-- SNAPSHOT_VALID: The snapshot capture started at S completes and sets SNAP_VALID within 10 µs (R435). -/
  | snapshotValid
  /-- MAILBOX_FRAMING_TIMEOUT: A mailbox header whose LEN words have not all followed within 10 µs is a framing error that empties the queue and is counted (R346). -/
  | mailboxFramingTimeout (chan : BitVec 2)
deriving DecidableEq, Repr

end Sys2Proof
end

