-- ==== Sys2Proof/Decode.lean ====
section
/-! DEFINITION. The decoder over the rows of spec/opcode_table.json that give bits. No row gives any: the commands of FX-4 are
events and accesses, not words. -/

namespace Sys2Proof

/-- The command that a word spells by the table's bits: the table gives no row bits, so no word spells one. DEDUCED (log 7). -/
def decodeTableWord (_nbits _w : Nat) : Option Instr := none

end Sys2Proof
end

