-- ==== Sys2Proof/Machine/Arith.lean ====
section
/-! DEFINITION. Arithmetic, bit, byte and check-sum helpers that the meanings share. Values are converted to integers, worked
out exactly and narrowed at the end, as the chapters write them. -/

namespace Sys2Proof.Machine

/-- Bits [lo + w - 1 : lo] of a number. -/
def bitsAt (v lo w : Nat) : Nat := v / 2 ^ lo % 2 ^ w

/-- Bit k of a number, as a Bool. -/
def bitAt (v k : Nat) : Bool := v / 2 ^ k % 2 == 1

/-- A Bool as 0 or 1. -/
def b2n (b : Bool) : Nat := if b then 1 else 0

/-- Sets bit k of a number. -/
def orBit (v k : Nat) : Nat := if bitAt v k then v else v + 2 ^ k

/-- Clears bit k of a number. -/
def clrBit (v k : Nat) : Nat := if bitAt v k then v - 2 ^ k else v

/-- Clears in `v` every bit that is 1 in `m`. -/
def clrBits (v m : Nat) : Nat := v - (v &&& m)

/-- The bit numbers below n that are 1 in v, ascending. -/
def bitList (v n : Nat) : List Nat := (List.range n).filter (bitAt v)

/-- The number whose 1 bits are the members of a list. -/
def ofBits (l : List Nat) : Nat := l.foldl orBit 0

/-- Clamp between lo and hi. -/
def clampNat (lo hi x : Nat) : Nat := min hi (max lo x)

/-- Clamp between lo and hi, on integers. -/
def clampInt (lo hi x : Int) : Int := min hi (max lo x)

/-- Adds d to a counter that saturates at m. -/
def satAdd (m a d : Nat) : Nat := min m (a + d)

/-- An unsigned w-bit number read as two's complement. -/
def toSigned (w v : Nat) : Int := if v % 2 ^ w < 2 ^ (w - 1) then (v % 2 ^ w : Nat) else (v % 2 ^ w : Nat) - (2 ^ w : Nat)

/-- An integer written as a w-bit two's complement number. -/
def ofSigned (w : Nat) (v : Int) : Nat := (v % (2 ^ w : Nat)).toNat

/-- Division rounding up. -/
def ceilDiv (a b : Nat) : Nat := (a + b - 1) / b

/-- Division rounding to nearest, ties to even; the divisor is not 0. -/
def roundEven (n : Int) (d : Nat) : Int :=
  let q := n.fdiv d
  let r := (n - q * d).toNat
  if d < 2 * r ∨ (2 * r = d ∧ q % 2 = 1) then q + 1 else q

/-- Arithmetic shift right, toward minus infinity. -/
def asr (v : Int) (k : Nat) : Int := v.fdiv (2 ^ k : Nat)

/-- One bit of the square root, from bit k down. -/
def isqrtGo (n : Nat) : Nat → Nat → Nat
  | 0, acc => acc
  | k + 1, acc => let t := acc + 2 ^ k; if t * t ≤ n then isqrtGo n k t else isqrtGo n k acc

/-- Floor of the square root of a 64-bit argument (R103). -/
def isqrt (n : Nat) : Nat := isqrtGo n 33 0

/-- The sign of an integer: -1, 0 or +1. -/
def sgn (v : Int) : Int := if v < 0 then -1 else if v = 0 then 0 else 1

/-- sat16: an exact sum or difference clamped to Q1.15 (R93). -/
def sat16 (v : Int) : Int := clampInt (-32768) 32767 v

/-- The value of wb (R92) and whether it saturates: the 40-bit accumulator rounded to nearest even at bit 15. -/
def wbVal (acc : Int) : Int × Bool :=
  let q := roundEven acc 32768
  if 32767 < q then (32767, true) else if q < -32768 then (-32768, true) else (q, false)

/-- An addition into a lane accumulator, which stops at either end (R91). -/
def accAdd (a b : Int) : Int × Bool :=
  let v := a + b
  if 2 ^ 39 - 1 < v then (2 ^ 39 - 1, true) else if v < -(2 ^ 39) then (-(2 ^ 39), true) else (v, false)

/-- The byte at offset k of a structure; 0 beyond its end. -/
def byteAt (bs : List Byte) (k : Nat) : Nat := (bs.getD k 0).toNat

/-- The little-endian number in n bytes from offset k (R5). -/
def leAt (bs : List Byte) (k n : Nat) : Nat :=
  ((bs.drop k).take n).foldr (fun b acc => b.toNat + 256 * acc) 0

/-- The n bytes of a number, little-endian (R5). -/
def leBytes : Nat → Nat → List Byte
  | 0, _ => []
  | n + 1, v => BitVec.ofNat 8 (v % 256) :: leBytes n (v / 256)

/-- n zero bytes. -/
def zeros (n : Nat) : List Byte := List.replicate n 0

/-- Whether every byte from offset k, n long, is 0. -/
def allZero (bs : List Byte) (k n : Nat) : Bool := ((bs.drop k).take n).all (· == 0)

/-- The offset of the first byte that is not 0 among n bytes from offset k. -/
def firstNonzero (bs : List Byte) (k n : Nat) : Option Nat :=
  (List.range n).findSome? (fun i => if byteAt bs (k + i) ≠ 0 then some (k + i) else none)

/-- One step of a most-significant-bit-first CRC of w bits. -/
def crcMsb (w poly : Nat) (crc : Nat) (bit : Bool) : Nat :=
  let top := bitAt crc (w - 1)
  let sh := crc * 2 % 2 ^ w
  if top != bit then sh ^^^ poly else sh

/-- The bits of v from bit n - 1 down to bit 0. -/
def bitsMsb (v n : Nat) : List Bool := (List.range n).map (fun k => bitAt v (n - 1 - k))

/-- CRC-8 of R132 over the 38 bits [45:8] of a report frame: polynomial 0x07, initial value 0. -/
def crc8 (v n : Nat) : Nat := (bitsMsb v n).foldl (crcMsb 8 0x07) 0

/-- CRC-16 of R73: polynomial 0x1021, initial value 0xFFFF, no reflection, no final XOR. -/
def crc16 (bs : List Byte) : Nat :=
  bs.foldl (fun c b => (bitsMsb b.toNat 8).foldl (crcMsb 16 0x1021) c) 0xFFFF

/-- One bit of the reflected CRC-32. -/
def crc32Bit (c : Nat) : Nat := if c % 2 = 1 then (c / 2) ^^^ 0xEDB88320 else c / 2

/-- One byte of the reflected CRC-32. -/
def crc32Byte (c : Nat) (b : Byte) : Nat := (List.range 8).foldl (fun a _ => crc32Bit a) (c ^^^ b.toNat)

/-- CRC-32 of R122: polynomial 0x04C1_1DB7, reflected, initial value and final XOR 0xFFFF_FFFF. -/
def crc32 (bs : List Byte) : Nat := (bs.foldl crc32Byte 0xFFFFFFFF) ^^^ 0xFFFFFFFF

/-- Whether angle a is ahead of angle b (R82): the difference modulo 2^32 lies between 1 and 2^31 - 1. -/
def ahead (a b : Angle) : Bool := let d := (a - b).toNat; 1 ≤ d && d ≤ 2 ^ 31 - 1

/-! Tables: sorted lists of number and value in which an unlisted number has the table's default. -/

/-- Reads a table; an unlisted number reads as the default. -/
def tget (d : α) : List (Nat × α) → Nat → α
  | [], _ => d
  | (k, v) :: t, n => if n = k then v else tget d t n

/-- Inserts or replaces an entry of a sorted table. -/
def tput : List (Nat × α) → Nat → α → List (Nat × α)
  | [], n, x => [(n, x)]
  | (k, v) :: t, n, x => if n < k then (n, x) :: (k, v) :: t else if n = k then (n, x) :: t else (k, v) :: tput t n x

/-- Removes an entry of a table. -/
def tdel (t : List (Nat × α)) (n : Nat) : List (Nat × α) := t.filter (fun p => p.1 != n)

/-- Writes a table in its canonical form: writing the default removes the entry. -/
def tset [DecidableEq α] (d : α) (t : List (Nat × α)) (n : Nat) (x : α) : List (Nat × α) :=
  if x = d then tdel t n else tput t n x

/-- Replaces the members of a list that satisfy p. -/
def lmod (p : α → Bool) (f : α → α) (l : List α) : List α := l.map (fun x => if p x then f x else x)

end Sys2Proof.Machine
end

