-- ==== Sys2Proof/Machine/Crypto.lean ====
section
/-! DEFINITION. SHA-384 and deterministic ECDSA on curve P-384, as FIPS 186-5 and the standards it refers to define them: the signatures
of the reports and of the firmware images (R306, R334, R352, R353). Numbers are Nat, and bytes stand most significant first. -/

namespace Sys2Proof.Machine

/-! ## SHA-384 (FIPS 180-4) -/

/-- The round constants. -/
def shaK : List Nat :=
  [
    0x428A2F98D728AE22, 0x7137449123EF65CD, 0xB5C0FBCFEC4D3B2F, 0xE9B5DBA58189DBBC,
    0x3956C25BF348B538, 0x59F111F1B605D019, 0x923F82A4AF194F9B, 0xAB1C5ED5DA6D8118,
    0xD807AA98A3030242, 0x12835B0145706FBE, 0x243185BE4EE4B28C, 0x550C7DC3D5FFB4E2,
    0x72BE5D74F27B896F, 0x80DEB1FE3B1696B1, 0x9BDC06A725C71235, 0xC19BF174CF692694,
    0xE49B69C19EF14AD2, 0xEFBE4786384F25E3, 0x0FC19DC68B8CD5B5, 0x240CA1CC77AC9C65,
    0x2DE92C6F592B0275, 0x4A7484AA6EA6E483, 0x5CB0A9DCBD41FBD4, 0x76F988DA831153B5,
    0x983E5152EE66DFAB, 0xA831C66D2DB43210, 0xB00327C898FB213F, 0xBF597FC7BEEF0EE4,
    0xC6E00BF33DA88FC2, 0xD5A79147930AA725, 0x06CA6351E003826F, 0x142929670A0E6E70,
    0x27B70A8546D22FFC, 0x2E1B21385C26C926, 0x4D2C6DFC5AC42AED, 0x53380D139D95B3DF,
    0x650A73548BAF63DE, 0x766A0ABB3C77B2A8, 0x81C2C92E47EDAEE6, 0x92722C851482353B] ++
  [
    0xA2BFE8A14CF10364, 0xA81A664BBC423001, 0xC24B8B70D0F89791, 0xC76C51A30654BE30,
    0xD192E819D6EF5218, 0xD69906245565A910, 0xF40E35855771202A, 0x106AA07032BBD1B8,
    0x19A4C116B8D2D0C8, 0x1E376C085141AB53, 0x2748774CDF8EEB99, 0x34B0BCB5E19B48A8,
    0x391C0CB3C5C95A63, 0x4ED8AA4AE3418ACB, 0x5B9CCA4F7763E373, 0x682E6FF3D6B2B8A3,
    0x748F82EE5DEFB2FC, 0x78A5636F43172F60, 0x84C87814A1F0AB72, 0x8CC702081A6439EC,
    0x90BEFFFA23631E28, 0xA4506CEBDE82BDE9, 0xBEF9A3F7B2C67915, 0xC67178F2E372532B,
    0xCA273ECEEA26619C, 0xD186B8C721C0C207, 0xEADA7DD6CDE0EB1E, 0xF57D4F7FEE6ED178,
    0x06F067AA72176FBA, 0x0A637DC5A2C898A6, 0x113F9804BEF90DAE, 0x1B710B35131C471B,
    0x28DB77F523047D84, 0x32CAAB7B40C72493, 0x3C9EBE0A15C9BEBC, 0x431D67C49C100D4C,
    0x4CC5D4BECB3E42B6, 0x597F299CFC657E2A, 0x5FCB6FAB3AD6FAEC, 0x6C44198C4A475817]

/-- The initial hash value. -/
def shaInit : List Nat := [
  0xCBBB9D5DC1059ED8, 0x629A292A367CD507, 0x9159015A3070DD17, 0x152FECD8F70E5939,
  0x67332667FFC00B31, 0x8EB44A8768581511, 0xDB0C2E0D64F98FA7, 0x47B5481DBEFA4FA4]

/-- Rotation of a 64-bit word to the right. -/
def rotr64 (x n : Nat) : Nat := (x >>> n ||| x <<< (64 - n)) % 2 ^ 64

/-- The next word of the schedule, from the words so far, newest first. -/
def shaNext (w : List Nat) : Nat :=
  let x := w.getD 14 0
  let y := w.getD 1 0
  ((rotr64 y 19 ^^^ rotr64 y 61 ^^^ y >>> 6) + w.getD 6 0 + (rotr64 x 1 ^^^ rotr64 x 8 ^^^ x >>> 7) + w.getD 15 0) % 2 ^ 64

/-- The 80 words of the schedule of a block of 16. -/
def shaWords (block : List Nat) : List Nat := ((List.range 64).foldl (fun w _ => shaNext w :: w) block.reverse).reverse

/-- One round with its constant and word. -/
def shaRound (h : List Nat) (kw : Nat × Nat) : List Nat := match h with
  | [a, b, c, d, e, f, g, v] =>
    let t1 := v + (rotr64 e 14 ^^^ rotr64 e 18 ^^^ rotr64 e 41) + (e &&& f ^^^ (2 ^ 64 - 1 - e) &&& g) + kw.1 + kw.2
    let t2 := (rotr64 a 28 ^^^ rotr64 a 34 ^^^ rotr64 a 39) + (a &&& b ^^^ a &&& c ^^^ b &&& c)
    [(t1 + t2) % 2 ^ 64, a, b, c, (d + t1) % 2 ^ 64, e, f, g]
  | _ => h

/-- One block of 16 words. -/
def shaBlock (h block : List Nat) : List Nat :=
  ((shaK.zip (shaWords block)).foldl shaRound h).zipWith (fun a b => (a + b) % 2 ^ 64) h

/-- A number from bytes, the most significant first, and n bytes of a number. -/
def beNat (bs : List Byte) : Nat := bs.foldl (fun n b => 256 * n + b.toNat) 0
def beBytes (n v : Nat) : List Byte := (leBytes n v).reverse

/-- A message with its padding: 0x80, zeros, and its length in bits in 16 bytes, to whole blocks of 128 bytes. -/
def shaPad (m : List Byte) : List Byte :=
  m ++ 0x80#8 :: (zeros ((239 - m.length % 128) % 128) ++ beBytes 16 (8 * m.length))

/-- The 16 words of block k. -/
def shaChunk (m : List Byte) (k : Nat) : List Nat := (List.range 16).map (fun i => beNat ((m.drop (128 * k + 8 * i)).take 8))

/-- SHA-384, 48 bytes. -/
def sha384 (m : List Byte) : List Byte :=
  let p := shaPad m
  (((List.range (p.length / 128)).foldl (fun h k => shaBlock h (shaChunk p k)) shaInit).take 6).flatMap (beBytes 8)

/-- HMAC with SHA-384 (FIPS 198-1), for a key of at most a block. -/
def hmac384 (key m : List Byte) : List Byte :=
  let k := key ++ zeros (128 - key.length)
  sha384 (k.map (· ^^^ 0x5C#8) ++ sha384 (k.map (· ^^^ 0x36#8) ++ m))

/-! ## Curve P-384 (SP 800-186) -/

/-- The prime of the field, and the order of the base point. -/
def p384P : Nat := 2 ^ 384 - 2 ^ 128 - 2 ^ 96 + 2 ^ 32 - 1
def p384N : Nat := 0xFFFFFFFFFFFFFFFFFFFFFFFFFFFFFFFFFFFFFFFFFFFFFFFFC7634D81F4372DDF581A0DB248B0A77AECEC196ACCC52973

/-- The base point. -/
def p384G : Nat × Nat := (
  0xAA87CA22BE8B05378EB1C71EF320AD746E1D3B628BA79B9859F741E082542A385502F25DBF55296C3A545E3872760AB7,
  0x3617DE4A96262C6F5D9E98BF9292DC29F8F41DBD289A147CE9DA3113B5F0B8C00A60B1CE1D7E819D7A431D7C90EA0E5F)

/-- A power modulo m, for exponents below 2^384. -/
def powMod (m b e : Nat) : Nat :=
  (List.range 384).reverse.foldl (fun r i => let q := r * r % m; if bitAt e i then q * b % m else q) 1

/-- The inverse modulo a prime. -/
def invMod (m b : Nat) : Nat := powMod m b (m - 2)

/-- Subtraction in the field. -/
def fSub (a b : Nat) : Nat := (a + p384P - b % p384P) % p384P

/-- A point as X, Y and Z, which stands for X / Z² and Y / Z³; Z = 0 is the point at infinity. -/
structure JPoint where
  x : Nat
  y : Nat
  z : Nat
deriving DecidableEq, Repr

def JPoint.inf : JPoint := ⟨1, 1, 0⟩

/-- Twice a point, on a curve whose a is -3. -/
def jDouble (q : JPoint) : JPoint :=
  let zz := q.z * q.z % p384P
  let yy := q.y * q.y % p384P
  let b := q.x * yy % p384P
  let a := 3 * (fSub q.x zz * (q.x + zz)) % p384P
  let x := fSub (a * a) (8 * b)
  ⟨x, fSub (a * fSub (4 * b) x) (8 * (yy * yy)), 2 * q.y * q.z % p384P⟩

/-- The sum of two points. -/
def jAdd (q r : JPoint) : JPoint :=
  if q.z = 0 then r
  else if r.z = 0 then q
  else
    let zz := q.z * q.z % p384P
    let ww := r.z * r.z % p384P
    let u := q.x * ww % p384P
    let v := q.y * (ww * r.z) % p384P
    let h := fSub (r.x * zz) u
    let d := fSub (r.y * (zz * q.z)) v
    if h = 0 then (if d = 0 then jDouble q else JPoint.inf)
    else
      let hh := h * h % p384P
      let k := h * hh % p384P
      let t := u * hh % p384P
      let x := fSub (fSub (d * d) k) (2 * t)
      ⟨x, fSub (d * fSub t x) (v * k), q.z * r.z * h % p384P⟩

/-- A multiple of a point. -/
def jMul (k : Nat) (q : JPoint) : JPoint :=
  (List.range 384).reverse.foldl (fun r i => let d := jDouble r; if bitAt k i then jAdd d q else d) JPoint.inf

/-- X and Y of a point. -/
def jAffine (q : JPoint) : Nat × Nat :=
  let i := invMod p384P q.z
  (q.x * (i * i) % p384P, q.y * (i * i * i) % p384P)

/-- A private key's public key. -/
def p384Public (d : Nat) : Nat × Nat := jAffine (jMul d ⟨p384G.1, p384G.2, 1⟩)

/-! ## ECDSA (FIPS 186-5) -/

/-- The generator of the nonces: its key and its value (FIPS 186-5 A.3.3, HMAC_DRBG). -/
def drbgStep (kv : List Byte × List Byte) (tail : List Byte) : List Byte × List Byte :=
  let k := hmac384 kv.1 (kv.2 ++ tail)
  (k, hmac384 k kv.2)

/-- The signature that a nonce gives, where it gives one. -/
def signWith (d z k : Nat) : Option (Nat × Nat) :=
  let r := (jAffine (jMul k ⟨p384G.1, p384G.2, 1⟩)).1 % p384N
  let s := invMod p384N k * ((z + r * d) % p384N) % p384N
  if k = 0 ∨ p384N ≤ k ∨ r = 0 ∨ s = 0 then none else some (r, s)

/-- The first nonce of the sequence that gives a signature; no more than a few are ever tried. -/
def signFrom (d z : Nat) (kv : List Byte × List Byte) : Nat → Nat × Nat
  | 0 => (0, 0)
  | n + 1 =>
    let v := hmac384 kv.1 kv.2
    match signWith d z (beNat v) with
    | some g => g
    | none => signFrom d z (drbgStep (kv.1, v) [0#8]) n

/-- Deterministic ECDSA with SHA-384: r and s of a private key over a message. -/
def ecdsaSign (d : Nat) (m : List Byte) : Nat × Nat :=
  let z := beNat (sha384 m)
  let seed := beBytes 48 d ++ beBytes 48 (z % p384N)
  let kv := drbgStep (drbgStep (zeros 48, List.replicate 48 1#8) (0#8 :: seed)) (1#8 :: seed)
  signFrom d z kv 256

/-- A signature holds over a message for a public key. -/
def ecdsaVerify (q : Nat × Nat) (m : List Byte) (r s : Nat) : Bool :=
  let w := invMod p384N s
  let p := jAdd (jMul (beNat (sha384 m) * w % p384N) ⟨p384G.1, p384G.2, 1⟩) (jMul (r * w % p384N) ⟨q.1, q.2, 1⟩)
  decide (1 ≤ r ∧ r < p384N ∧ 1 ≤ s ∧ s < p384N) && p.z != 0 && (jAffine p).1 % p384N == r

end Sys2Proof.Machine
end

