-- ==== Sys2Proof/Machine/State.lean ====
section
/-! DEFINITION. The state of FX-4 as plain data: every register field, counter, table, queue, mode and pin the spec gives the
block, grouped by the part that holds it. Tables are sorted lists of number and value; a number not listed has the default the
field's docstring names. -/

namespace Sys2Proof.Machine

/-- No row of the table faults: every event of the spec has an effect, or arrives where it has none. Kept for the host's interface. -/
inductive Fault where
  /-- Raised by nothing; safe. -/
  | none
deriving DecidableEq, Repr

/-- Why a command has no meaning. -/
inductive Refusal where
  /-- Answered by exec for a row that has no meaning yet; safe. -/
  | notModelled (mnemonic : String)
deriving DecidableEq, Repr

/-- The filtered levels of the discrete inputs (R30) and the outputs that several features share. DESIGN CHOICE (log 5). -/
structure Pins where
  /-- GOV_VDD is on (R19). -/
  vdd : Bool := true
  /-- RESET_N is low (asserted). -/
  rstLow : Bool := false
  pwrgd : Bool := true
  flowOk : Bool := true
  /-- SHELF_BRAKE_N held asserted (low). -/
  brake : Bool := false
  /-- Filtered VSEL[2:0]. -/
  vsel : Nat := 7
  pmbAlert : Bool := false
  /-- GSTOP of the active hub (R22, R442). -/
  gstop : Bool := true
  /-- GSTOP of a STANDBY mirror (R368). -/
  mirrorGstop : Bool := false
  /-- THERMTRIP_N driven low (R255). -/
  thermtrip : Bool := false
deriving DecidableEq, Repr

/-! ## Host Access Port, rings, mailboxes -/

/-- What a master request is for. -/
inductive Purpose where
  | dbProd
  | dbCplCons
  | dbEvCons
  | fetch (ring idx n : Nat)
  | cpl (ring idx : Nat)
  | cplIdx (ring idx : Nat)
  | event (idx : Nat)
  | evIdx (idx : Nat)
  | tel (idx : Nat)
  | telIdx (idx : Nat)
  | report (idx : Nat)
  | rptIdx (idx : Nat)
  | acctFetch (acct : Nat)
  | acctWb (acct : Nat)
  /-- A queue's entry of the queue map, with the bytes of it that an earlier beat gave. -/
  | qmap (tile queue : Nat) (got : List Byte)
  | zeroAcct (part : Nat)
  /-- The result of a descriptor: its key. -/
  | result (key : Nat)
deriving DecidableEq, Repr

/-- A master request (R42, R44). Times are reference cycles. -/
structure MReq where
  tag : Nat
  write : Bool
  addr : Nat
  beats : Nat
  cls : Nat
  sec : Bool
  data : List Byte
  purpose : Purpose
  issuedAt : Nat
  timeoutUs : Nat
  /-- The time of the misfit of a malformed response whose LAST has not passed (R458). -/
  misfitAt : Option Nat := none
  /-- In a duplex (R365): 2 while the mirror does not hold the entry, 1 while its acknowledgement is awaited, else 0. -/
  wait : Nat := 0
deriving DecidableEq, Repr

/-- A completed request that its owning row has not yet taken. -/
structure Done where
  purpose : Purpose
  status : Nat
  data : List Byte
deriving DecidableEq, Repr

/-- What ends a quarantine besides its response: nothing (R46), the slave window being open for 100 µs (R379), or a time (R370). -/
inductive QuarEnd where
  | response
  | window
  | atTime (t : Nat)
deriving DecidableEq, Repr

/-- A tag in quarantine (R46, R379, R370). -/
structure Quar where
  tag : Nat
  ends : QuarEnd := .response
deriving DecidableEq, Repr

/-- A slave response (R43, R50). -/
structure SlaveResp where
  tag : Nat
  status : Nat
  data : Nat
  /-- Beats of it that follow the one that stands on HAP_SS, all alike: LAST is set on the beat that none follows. -/
  more : Nat := 0
deriving DecidableEq, Repr

/-- A beat on HAP_MQ (R42): the fields of a request's first beat, which every later one repeats, and those of its own. -/
structure MqBeat where
  write : Bool
  tag : Nat
  /-- 32-byte aligned. -/
  addr : Nat
  len : Nat
  sec : Bool
  noSnoop : Bool
  cls : Nat
  be : Nat
  /-- The 32 bytes of a write beat, and the check bits over each half; nothing for a read, which carries no data. -/
  data : List Byte
  chk : Option (Nat × Nat)
  last : Bool
deriving DecidableEq, Repr

structure Hap where
  out : List MReq := []
  wait : List MReq := []
  /-- Beats of the requests issued that have not passed, oldest first: the first stands on HAP_MQ with VALID high, unchanged until
  it passes (R41). -/
  mq : List MqBeat := []
  /-- The reads that the last load of a structure made (R327). -/
  reads : List MReq := []
  /-- Tags of requests that the isolation wrapper of host access completed while it is in reset: their responses are discarded (R52). -/
  iso : List Nat := []
  quar : List Quar := []
  done : List Done := []
  /-- FX-4 has stopped issuing master requests (R379). -/
  stopped : Bool := false
  /-- Slave responses not yet taken, in the order of their requests, at most 16: the first stands on HAP_SS (R47). -/
  ss : List SlaveResp := []
deriving DecidableEq, Repr

/-- An event record without its PHASE flag (R341). -/
structure Event where
  cls : Nat
  code : Nat
  unit : Nat
  time : Nat
  detail : List Byte
deriving DecidableEq, Repr

/-- A command ring (R315 to R323). -/
structure Ring where
  /-- Command consumer index. -/
  cons : Nat := 0
  /-- Host's producer index by the last good poll. -/
  prod : Nat := 0
  /-- Index of the next descriptor to fetch. -/
  fetchIdx : Nat := 0
  /-- A fetch is outstanding. -/
  fetching : Bool := false
  /-- Fetched descriptors not yet taken, oldest first. -/
  ready : List (List Byte) := []
  cplProd : Nat := 0
  cplCons : Nat := 0
  /-- Completion records written and not yet answered GOOD. -/
  cplOut : List Nat := []
  /-- Records kept in the hub while the ring is in ERROR. -/
  held : List (List Byte) := []
  error : Bool := false
  lost : Nat := 0
  idle : Bool := true
deriving DecidableEq, Repr

/-- What a descriptor in flight waits for. -/
inductive Job where
  /-- Nothing: it completes when it is taken. -/
  | taken
  | loopWrite
  | domReq
  | railStart
  | railStop
  | clusterUp
  | clusterDown (tiles : List Nat)
  | pbLoad
  | planLoad
  | obsLoad
  | feltSync (peer : Nat)
  | acctFlush
  /-- Its result is being written to memory (R321). -/
  | result
  /-- Its result is being written in two parts, of which neither has been answered (R42). -/
  | results
  | engReset
  | tileReset (tiles : List Nat)
  | subReset (code : Nat)
  | whole
  /-- A firmware image of the KIND named has been read, and waits for the security core's check (R361). -/
  | firmware (kind : Nat) (image : List Byte)
  | fuse
  | freeze
deriving DecidableEq, Repr

/-- A descriptor in flight: taken, its completion not yet formed. -/
structure Flight where
  key : Nat
  ring : Nat
  slot : Nat
  tag : Nat
  op : Nat
  job : Job
deriving DecidableEq, Repr

/-- A completion that waits for the mirror (R365): ring, slot, tag, status, DETAIL, and the wait as in MReq. -/
structure CplWait where
  ring : Nat
  slot : Nat
  tag : Nat
  status : Nat
  detail : Nat
  wait : Nat := 2
deriving DecidableEq, Repr

structure Hr where
  /-- Default: an idle ring. -/
  rings : List (Nat × Ring) := []
  flights : List Flight := []
  /-- In a duplex (R365), the journal entry of the next descriptor to be taken, as in MReq.wait; and the completions that wait to be
  formed, oldest first. -/
  turn : Nat := 0
  /-- The same of the reads that a load of a structure makes once it has been taken (R327). -/
  readTurn : Nat := 0
  cplWait : List CplWait := []
  nextKey : Nat := 0
  /-- The ring that last gave a descriptor, of PRIO 1 and of PRIO 0. -/
  lastHi : Nat := 63
  lastLo : Nat := 63
  evHeld : List Event := []
  evProd : Nat := 0
  evCons : Nat := 0
  /-- Events discarded since the last Ring event of code 1. -/
  evLost : Nat := 0
  evOut : List Nat := []
  telProd : Nat := 0
  telCons : Nat := 0
  telOut : List Nat := []
  /-- A run of telemetry discards is in progress. -/
  telRun : Bool := false
  mfAccepted : Bool := false
  /-- Completion records discarded by a reset of sub-block 0x08 (R399). -/
  cplLost : Nat := 0
  lockFw : Bool := false
  lockEnv : Bool := false
  /-- Last doorbell poll; last telemetry sample, and the frame powers since it: their sum and number. -/
  pollAt : Nat := 0
  telAt : Nat := 0
  telPf : Nat := 0
  telN : Nat := 0
deriving DecidableEq, Repr

/-- One mailbox channel (R345 to R348). -/
structure Mbox where
  h2f : List Nat := []
  f2h : List Nat := []
  /-- Bit 0 of MBc_H2F_DB is set and not yet cleared. -/
  db : Bool := false
  /-- Messages taken and not yet answered: header word and payload. -/
  msgs : List (List Nat) := []
  /-- A header whose words have not all followed: when FX-4 took it up. -/
  partAt : Option Nat := none
  /-- Replies that have found no room yet, each with the time it was formed. -/
  replies : List (Nat × List Nat) := []
deriving DecidableEq, Repr

/-! ## Reset and bring-up -/

/-- A CLUSTER_POWER command that powers clusters up in waves (R394). -/
structure WaveJob where
  key : Nat
  /-- Tile agents of waves not yet begun, ascending. -/
  left : List Nat
  /-- Tile agents of the current wave whose CL_PWR_OK has not risen. -/
  now : List Nat
  /-- When the last CL_PWR_EN of the current wave rose. -/
  enAt : Nat
  /-- When the last CL_PWR_OK of the current wave rose. -/
  okAt : Nat
  /-- The lowest tile agent that failed R395. -/
  failed : Option Nat := none
deriving DecidableEq, Repr

/-- A tile agent in a reset of scope 2 or 3 (R398). -/
structure TileRst where
  key : Nat
  startedAt : Nat
  /-- Step 3 has been taken. -/
  stranded : Bool := false
  /-- The scope, 2 or 3. -/
  scope : Nat := 2
deriving DecidableEq, Repr

/-- A tile image broadcast (R392, R393): the ring frames that carry the image, and the tile agents that have still to take it. -/
structure Bcast where
  bringUp : Bool
  frames : List RingFrame
  left : List Nat
  tries : Nat := 0
deriving DecidableEq, Repr

structure Rs where
  /-- A power-on reset or RESET_N is asserted. -/
  held : Bool := false
  /-- Option load is in progress. -/
  loading : Bool := false
  /-- Last release step begun, 0 to 8, and last completed. -/
  step : Nat := 0
  done : Nat := 0
  stepAt : Nat := 0
  endAt : Nat := 0
  /-- Bring-up has stopped (R382). -/
  stopped : Bool := false
  straps : Straps := {}
  fzReq : Bool := false
  fzAddr : Nat := 0
  fzAt : Nat := 0
  /-- Shadow copy of the fuse words read, and of corrections; default 0. -/
  shadow : List (Nat × Nat) := []
  fuses : List (Nat × Nat) := []
  committed : Bool := false
  /-- Sub-blocks in reset by BLOCK_RESET, bit c for code c (those held by RS_SUB.HOLD stand in that register). -/
  subBlk : Nat := 0
  waves : List WaveJob := []
  /-- Tile agents in reset; default none. -/
  tileRst : List (Nat × Option TileRst) := []
  bcast : Option Bcast := none
  /-- A scope 5 reset waits for GOOD of its completion record: ring and index (R331). -/
  whole : Option (Nat × Nat) := none
  /-- A scope 5 reset drains the master tags: the time it began. -/
  draining : Option Nat := none
  /-- When the slave window opened. -/
  openAt : Nat := 0
  /-- Ring census of each hub: tile agents found in ring order, and the latency in hub cycles. -/
  census0 : List Nat := []
  census1 : List Nat := []
  lat0 : Nat := 0
  lat1 : Nat := 0
  /-- Credits, mirror, accounts and Sizing still awaited before ready (R390). -/
  zeroing : Bool := false
deriving DecidableEq, Repr

/-- The states of the TAP controller (R59, IEEE 1149.1). -/
inductive TapSt where
  | testLogicReset | runTestIdle | selectDr | captureDr | shiftDr | exit1Dr | pauseDr | exit2Dr | updateDr
  | selectIr | captureIr | shiftIr | exit1Ir | pauseIr | exit2Ir | updateIr
deriving DecidableEq, Repr

/-- The test access port (R59). -/
structure Tap where
  st : TapSt := .testLogicReset
  ir : Nat := 0x01
  /-- The shift register of the instruction register, and the data register selected, bit 0 next to TDO. -/
  irShift : Nat := 0x01
  dr : List Bool := []
  /-- Word the scan chain stands at; and what TDO gave since the last Capture-DR, oldest bit first. -/
  scanWord : Nat := 0
  out : List Bool := []
deriving DecidableEq, Repr

/-! ## Time base, sequencer, step angle -/

structure Tb where
  /-- The clocks domain has been released and rack time advances. -/
  running : Bool := false
  src : Src := .rc
  tlOn : Bool := false
  xtalOn : Bool := false
  /-- When the stability count of each oscillator began (R63): none where it does not count. -/
  rcFrom : Option Nat := some 0
  tlFrom : Option Nat := none
  xtalFrom : Option Nat := none
  pllFrom : Option Nat := none
  rcStable : Bool := false
  rcStableAt : Nat := 0
  tlStable : Bool := false
  xtalStable : Bool := false
  pllStable : Bool := false
  tlStableAt : Nat := 0
  xtalStableAt : Nat := 0
  /-- The 10 ms wait of R70 for the Timing Link is over. -/
  waited : Bool := false
  switchTo : Option Src := none
  /-- A source has been lost since the reset; the Timing Link and the crystal among them. -/
  lostHigher : Bool := false
  tlLost : Bool := false
  xtalLost : Bool := false
  /-- Consecutive frame marks missing or failing their CRC (R64). -/
  badMarks : Nat := 0
  /-- Rack time, ns (R74). -/
  time : Nat := 0
  pinLatPs : Nat := 0
  pinMeasured : Bool := false
  /-- A good frame with TIME_VALID has been used since reset. -/
  aligned : Bool := false
  /-- TIME_VALID of the last good frame. -/
  valid : Bool := false
  seenFrame : Bool := false
  lastField : Option Nat := none
  /-- Consecutive good frames that agree with one another and not with the counter. -/
  disagree : Nat := 0
  /-- Frame marks are being received. -/
  marks : Bool := false
  markAt : Nat := 0
  slewLeft : Int := 0
  slewAt : Nat := 0
  /-- When the trim window that runs began, and the frame marks received in it (R71). -/
  trimFrom : Nat := 0
  trimMarks : Nat := 0
  trimIn : Nat := 0
  trimOut : Nat := 0
  rcTrimmed : Bool := false
deriving DecidableEq, Repr

/-- The voltage-frequency sequencer's state on one rail (R79). -/
structure VfsRail where
  /-- Vset required, mV. -/
  goal : Nat := 0
  /-- A raise waits for the rail to settle. -/
  raising : Bool := false
  /-- A lowering waits for reports. -/
  lowering : Bool := false
deriving DecidableEq, Repr

inductive SaState where
  | off | acquiring | tracking | lost
deriving DecidableEq, Repr

/-- The feature that armed an angle timer. -/
inductive TimerOwner where
  | action (idx : Nat)
  | forecast (id : Nat)
  | plan (idx : Nat)
  | step (seq : Nat)
deriving DecidableEq, Repr

structure Timer where
  trig : Angle
  lead : Nat
  owner : TimerOwner
deriving DecidableEq, Repr

structure Sa where
  state : SaState := .off
  /-- An update has been taken since ACQUIRING was entered. -/
  first : Bool := false
  aR : Angle := 0
  tR : Nat := 0
  cR : Nat := 0
  /-- ω, unsigned Q4.28. -/
  rate : Nat := 0
  aX : Angle := 0
  /-- A_x is held by a behind update. -/
  behind : Bool := false
  /-- A_x is held by the lead limit. -/
  limited : Bool := false
  toggleAt : Option Nat := none
  /-- When A_x was last extrapolated. -/
  exAt : Nat := 0
  /-- When an update was last accepted. -/
  acceptedAt : Nat := 0
  /-- When a timer last fired: one fires each reference cycle (R88). -/
  firedAt : Option Nat := none
  /-- The 256 angle timers; default not armed. -/
  timers : List (Nat × Option Timer) := []
deriving DecidableEq, Repr

/-! ## Band Engine -/

/-- A loop descriptor (R107): words W0 to W6 and the loop's state. -/
structure Loop where
  w0 : Nat := 0
  w1 : Nat := 0
  w2 : Nat := 0
  w3 : Nat := 0
  w4 : Nat := 0
  w5 : Nat := 0
  w6 : Nat := 0
  u : Int := 0
  c : Int := 0
  yf : Int := 0
  s : Int := 0
  e : Int := 0
  sat : Bool := false
  win : Bool := false
  ifrz : Bool := false
  above : Bool := false
  below : Bool := false
  tracked : Bool := false
  srcAbs : Bool := false
  steps : Nat := 0
  ci : Int := 0
  /-- The measurement latched at the last frame boundary (R94). -/
  y : Int := 0
  /-- Words that hold an uncorrectable error (R119, R120). -/
  ue : List Nat := []
  /-- A word of W2 to W6 was applied while the domain was stopped (R120). -/
  dirty : Bool := false
deriving DecidableEq, Repr

/-- A pending live word (R110). -/
structure LiveWord where
  loop : Nat
  idx : Nat
  val : Nat
  key : Option Nat
deriving DecidableEq, Repr

/-- A stop or start request taken and not yet applied (R325). -/
structure DomReq where
  start : Bool
  doms : Nat
  pc : Bool
  key : Option Nat
deriving DecidableEq, Repr

/-- A profile generator (R103). -/
structure Pg where
  x : Int := 0
  v : Int := 0
  a : Int := 0
  t : Int := 0
deriving DecidableEq, Repr

structure Be where
  loops : List (Nat × Loop) := []
  /-- Bit d: domain d is stopped. -/
  stopped : Nat := 0xFFFF
  pcStopped : Bool := true
  reqs : List DomReq := []
  words : List LiveWord := []
  /-- Arbitrated value of each actuator, Q1.15, by actuator identifier; default 0x7FFF. -/
  arb : List (Nat × Nat) := []
  /-- Value of each actuator at its domain's stop, in the actuator's unit; default no lower than any Brim value. -/
  atStop : List (Nat × Nat) := []
  /-- Bit d: domain d restarted at the last boundary and its actuators are still held. -/
  firstFrame : Nat := 0
  /-- After a takeover (R369): the running domains start anew at the next frame boundary; bit d: domain d did so, and its actuators are
  held at the values that the journal gave. -/
  takeover : Bool := false
  carried : Nat := 0
  /-- A lane's residue check has failed in the frame that runs, whose results are discarded at its end (R125). -/
  laneBad : Bool := false
  pgs : List (Nat × Pg) := []
  /-- Register fields as they stood when PC stopped (R118). -/
  pcSnap : List (Nat × Nat) := []
  frameAt : Nat := 0
  tickAt : Nat := 0
  /-- A domain's loops must stop at the next boundary for a descriptor error (R124). -/
  errStop : Nat := 0
deriving DecidableEq, Repr

/-! ## Regulator -/

inductive RailSt where
  | off | delay | test | ramp | settle | up | stopping | hiccup | faulted
deriving DecidableEq, Repr

inductive PortSt where
  | off | spare | test | standby | joining | active | draining | fire | retired
deriving DecidableEq, Repr

/-- A Phase Link port (R128 to R135). -/
structure Port where
  st : PortSt := .off
  /-- The manifest names the port, on this rail. -/
  rail : Option Nat := none
  lphase : Option Nat := none
  /-- Logical phase that a retired port carried. -/
  was : Option Nat := none
  /-- Logical phase that a spare in TEST is to carry. -/
  forPhase : Option Nat := none
  /-- Last accepted IPH, in 0.03125 A, and TPH, in 0.5 °C from -40 °C. -/
  iph : Int := 0
  tph : Nat := 0
  /-- A frame has been accepted since the port's last edge. -/
  got : Bool := false
  /-- Its interleave slot in force, in grid steps after the boundary (R131, R140). -/
  slot : Nat := 0
  /-- The frame of the edge in the period before, which ends after the boundary, is still awaited (R133). -/
  late : Bool := false
  ocRun : Nat := 0
  ocFlagRun : Nat := 0
  otRun : Nat := 0
  missRun : Nat := 0
  /-- Accepted frames in JOINING. -/
  joinOk : Nat := 0
  /-- TEST: periods since entry, consecutive good frames, frames with VSW high, and which of the last 8 periods missed. -/
  testN : Nat := 0
  goodRun : Nat := 0
  vswHi : Nat := 0
  missed8 : List Bool := []
  /-- A fault judged and not yet acted on: its CAUSE. -/
  fault : Nat := 0
  cause : Nat := 0
  losses : Nat := 0
  imb : Bool := false
  imbRun : Nat := 0
  balRun : Nat := 0
  /-- OC set, or IPH above PH_OC_A, in the last accepted frame. -/
  overOc : Bool := false
  /-- Wear: milliseconds on (in ns), joins and fires since power-up (R417). -/
  onNs : Nat := 0
  joins : Nat := 0
  fires : Nat := 0
deriving DecidableEq, Repr

/-- A drain in progress (R164). -/
structure Drain where
  port : Nat
  /-- The first of its periods has begun: at once for a drain that starts at a period boundary. -/
  begun : Bool := false
  /-- Periods of the drain that have ended. -/
  k : Nat := 0
deriving DecidableEq, Repr

/-- One rail (R136 to R166). Voltages in units of 0.5 µV, which every ramp of the spec moves in whole steps each 10 ns. -/
structure Rail where
  st : RailSt := .off
  /-- The target before rounding. -/
  tgt : Nat := 0
  /-- The moving Vset of the load-line mode. -/
  vset : Nat := 0
  /-- Vset and the target as they would move without a boost of the Phase Book: what the tile agents are sent (R172, R211). -/
  vset0 : Nat := 0
  tgt0 : Nat := 0
  /-- The target moves between the stored value and the load line at VFS_CFG.SLEW. -/
  srcMove : Bool := false
  fastOff : Bool := false
  /-- Sensed voltage, 0.25 mV steps. -/
  vsns : Nat := 0
  iacc : Int := 0
  ePrev : Int := 0
  duty : Nat := 0
  /-- The unclamped sum of the last step lay outside 0 to DMAX (R139). -/
  frozen : Bool := false
  /-- No period of regulation has ended since the ramp began (R139). -/
  first : Bool := true
  /-- The last period boundary, in units of 2 ns. -/
  periodAt : Nat := 0
  /-- The ports of the TEST step have entered TEST (R135). -/
  testOn : Bool := false
  stepAt : Nat := 0
  retries : Nat := 0
  /-- The rail came UP under the start that is in flight. -/
  byStart : Bool := false
  /-- In SETTLE: since when the sensed voltage has been within ±10 mV. -/
  settledAt : Option Nat := none
  /-- While a raise of the voltage-frequency sequencer waits (R79, R81): since when the target has its value, and since when the
  sensed voltage has been within ±TOL_MV of it. -/
  vfsAt : Option Nat := none
  vfsOk : Option Nat := none
  ovRun : Nat := 0
  uvRun : Nat := 0
  firing : Bool := false
  fireAt : Nat := 0
  fireEndAt : Nat := 0
  fireHold : Bool := false
  armed : Bool := false
  /-- The sensed voltage was no more than FIRE_UV_MV below the target at the last sample. -/
  above : Bool := true
  belowSince : Option Nat := none
  /-- HOLD_US has elapsed: drains follow one another. -/
  shedding : Bool := false
  drain : Option Drain := none
  shortRun : Nat := 0
  /-- Feed-forward current: numerator and denominator, in 2^-18 A. -/
  iffNum : Nat := 0
  iffDen : Nat := 1
  /-- Sensed voltage times I_rail at the last period boundary, in 7.8125 µW; I_rail is signed. -/
  power : Int := 0
  /-- The period power has been at or below LEVEL_W since a period that ended on the rail under the brake GSTOP (R168). -/
  pwrOk : Bool := false
  /-- The rail enters FAULTED, not OFF, when it is disabled (R154). -/
  fltOff : Bool := false
  /-- Logical phases marked absent, and phases that wait for a spare (R155, R156). -/
  absent : List Nat := []
  need : List Nat := []
deriving DecidableEq, Repr

/-- A start or stop sequence in flight (R144, R148, R151, R251). -/
structure RailJob where
  /-- The descriptor that asked for it; none for the stop of an orderly shutdown. -/
  key : Option Nat
  start : Bool
  /-- Groups not yet begun, in order, and the group in progress. -/
  groups : List (List Nat)
  cur : List Nat
  /-- Moment from which the delays of the group in progress count. -/
  delayAt : Nat
  /-- A start that failed and now stops what it brought up. -/
  failed : Bool := false
  /-- Rails that the job names. -/
  mask : List Nat
deriving DecidableEq, Repr

structure Pc where
  rails : List (Nat × Rail) := []
  ports : List (Nat × Port) := []
  jobs : List RailJob := []
  /-- The last compensator step, in units of 2 ns. -/
  compAt : Nat := 0
  /-- Brake ceilings applied (PC_STATUS.BRAKE). -/
  brake : Bool := false
  brakeGstop : Bool := false
  brakeAt : Nat := 0
  /-- The escalation and the 10 µs judgement of this brake have been taken. -/
  escDone : Bool := false
  missDone : Bool := false
  /-- This brake has been counted in ESCALATIONS. -/
  escCounted : Bool := false
  /-- The brake has been deasserted and its ceilings lift at the next frame boundary. -/
  lifting : Bool := false
deriving DecidableEq, Repr

/-! ## Droop response and current credits -/

/-- A droop detector (R172 to R180). Channel 0 is A, 1 is B. -/
structure Det where
  /-- Tripped at the stretch level and at the fire level. -/
  st : Bool := false
  fi : Bool := false
  /-- Channel in service. -/
  chan : Nat := 0
  /-- No channel in service: TILEt_DET.FAILED. -/
  failed : Bool := false
  /-- The channel not in service can be brought in. -/
  spareOk : Bool := true
  absent : Bool := false
  /-- Consecutive self-tests failed. -/
  fails : Nat := 0
  /-- Held in its self-test pulse (R177, R179). -/
  pulse : Bool := false
  /-- Channels failed since the reset: bit 0 A, bit 1 B. -/
  failedCh : Nat := 0
  ofsA : Int := 0
  ofsB : Int := 0
deriving DecidableEq, Repr

/-- An engine as its tile agent records it (R184). -/
structure Eng where
  running : Bool := false
  cost : Nat := 0
  code : Nat := 0
  grantedAt : Nat := 0
  /-- OP_MAX has been raised for this grant. -/
  opMax : Bool := false
  /-- ENG_START is high with this op code. -/
  start : Option Nat := none
deriving DecidableEq, Repr

/-- A limit set as a tile agent holds it (R247): T_THR, T_TRIP and the level of THR_LEVEL. -/
structure ThLim where
  thr : Int
  trip : Int
  level : Nat
deriving DecidableEq, Repr

/-- A release or recall on its way to a tile agent (R189, R192): amount, running total, recall mark. -/
structure DownMsg where
  amt : Nat
  tot : Nat
  mark : Nat
deriving DecidableEq, Repr

/-- A return on its way to the hub (R192): amount and running total. -/
structure UpMsg where
  amt : Nat
  tot : Nat
deriving DecidableEq, Repr

/-- An op code at a tile agent (R420, R421). -/
structure OpInc where
  grants : Nat := 0
  nj : Nat := 0
  cyc : Nat := 0
deriving DecidableEq, Repr

structure Tile where
  pool : Nat := 0
  held : Nat := 0
  /-- Recall mark, and running totals of credits received and returned, modulo 2^32. -/
  mark : Nat := 0
  rcvTot : Nat := 0
  retTot : Nat := 0
  engs : List (Nat × Eng) := []
  last : Nat := 63
  /-- Engines granted in the last scan (ENG_GRANT). -/
  grants : List Nat := []
  dets : List (Nat × Det) := []
  stretch : Bool := false
  /-- While CL_STRETCH is held with no detector tripped: since when (R174). -/
  clearAt : Option Nat := none
  uvf : Bool := false
  /-- The one enabled detector that is tripped, at the stretch level, and since when (R179). -/
  sole : Option (Nat × Nat) := none
  pwrEn : Bool := false
  pwrOk : Bool := false
  /-- In the 10 µs hold of R177. -/
  hold10 : Bool := false
  okAt : Nat := 0
  /-- Level in force at the cluster, and its CL_DIV and CL_SKIP. -/
  level : Nat := 1
  div : Nat := 15
  skip : Nat := 0
  /-- A level order on its way. -/
  order : Option Nat := none
  /-- Level commanded by the sequencer, and level last reported as applied. -/
  cmd : Nat := 1
  applied : Nat := 1
  /-- Level waiting for the rail to settle. -/
  raise : Option Nat := none
  /-- Local ceiling of R247, local trip, Brim level last received. -/
  localCeil : Nat := 16
  localTrip : Bool := false
  /-- T_THR, T_TRIP and THR_LEVEL of limit sets 0 to 3 as the hub sent them; none before the manifest is accepted (R247). -/
  lims : List ThLim := []
  /-- The hub has lifted the thermal ceiling while the tile agent could not hear it (R247). -/
  liftDue : Bool := false
  brimRx : Nat := 16
  orphan : Bool := false
  /-- The hub has recorded the orphan. -/
  orphanSeen : Bool := false
  portB : Bool := false
  spurious : Nat := 0
  waitCredit : Nat := 0
  waitStop : Nat := 0
  stretchCyc : Nat := 0
  grantCnt : Nat := 0
  stretches : Nat := 0
  uvfs : Nat := 0
  /-- V_ref, the held credits and the margins that the references were formed from at the last tick (R172). -/
  vref : Nat := 0
  refHeld : Nat := 0
  refSt : Nat := 0
  refFi : Nat := 0
  /-- The last two rail targets received, mV. -/
  tgtA : Nat := 0
  tgtB : Nat := 0
  /-- The last self-test of its detectors (R179). -/
  testAt : Nat := 0
  /-- The counts of R198 as the hub has them, and when they were last transferred (R198, R360). -/
  lwHub : List Nat := []
  lwAt : Nat := 0
  /-- Off ordered: CL_PWR_EN goes low once nothing is held. -/
  offOrder : Bool := false
  /-- Level 1 ordered by a hard stop or a wave start. -/
  levelOne : Bool := false
  down : List DownMsg := []
  up : List UpMsg := []
  /-- The hub's side: last report, totals sent and returned, mark, loss. -/
  hP : Nat := 0
  hH : Nat := 0
  hW : Nat := 0
  hRcv : Nat := 0
  hSent : Nat := 0
  hRet : Nat := 0
  hMark : Nat := 0
  hTrip : Nat := 0
  lost : Bool := false
  stranded : Nat := 0
  reportAt : Nat := 0
  msgAt : Nat := 0
  /-- By op code (R420 to R422): grants and energy not yet sent, and credit time gained in the frame. -/
  ops : List (Nat × OpInc) := []
deriving DecidableEq, Repr

/-- What an audit marker holds of a tile agent (R193): P_t + H_t, RT_t, and the total the hub had sent to it. -/
structure AuditEntry where
  sum : Nat
  ret : Nat
  sent : Nat
deriving DecidableEq, Repr

/-- A credit audit in progress (R193). -/
structure CcAudit where
  entries : List (Nat × AuditEntry) := []
  /-- Messages to each tile agent that the marker still has ahead of it (R448). -/
  ahead : List (Nat × Nat) := []
  /-- It was started by an uncorrectable error in the reserve count. -/
  reserveBad : Bool := false
deriving DecidableEq, Repr

structure Cc where
  total : Nat := 0
  reserve : Nat := 0
  /-- The tile that took the last odd credit (R189). -/
  lastOdd : Nat := 127
  audit : Option CcAudit := none
  /-- The last periodic audit (R193). -/
  auditAt : Nat := 0
  /-- Tile agents whose census answer is awaited after a takeover, and the sum of the answers so far (R196). -/
  census : List Nat := []
  censusSum : Nat := 0
  tiles : List (Nat × Tile) := []
deriving DecidableEq, Repr

/-! ## Manifest -/

/-- A TILE record (R338). -/
structure MfTile where
  rail : Nat := 0
  stages : Nat := 0
  present : Bool := false
  rgrid : Nat := 0
  engines : Nat := 0
  dets : Nat := 0
  snss : Nat := 0
deriving DecidableEq, Repr

/-- A RAIL record (R338). -/
structure MfRail where
  ports : List Nat
  spares : List Nat
  vin : Nat
  design : Nat
  /-- Voltage-frequency entries for levels 1 to 16, mV. -/
  vf : List Nat
deriving DecidableEq, Repr

/-- An SNS record (R338). -/
structure MfSns where
  x : Nat := 0
  y : Nat := 0
  set : Nat := 0
  nbs : List Nat := []
deriving DecidableEq, Repr

/-- The TRAY record (R338). -/
structure MfTray where
  flow : Nat
  flowReg : Nat
  inlet : Nat
  inletReg : Nat
  refOfs : Int
  waitMs : Nat
deriving DecidableEq, Repr

/-- The GROUP record (R338). -/
structure MfGroup where
  group : Nat
  own : Nat
  parent : Option Nat
  initial : Nat
  floor : Nat
  ceil : Nat
  issued : Nat
  children : List Nat
deriving DecidableEq, Repr

/-- The REPORTS record (R338). -/
structure MfReports where
  base : Nat
  slots : Nat
  prod : Nat
deriving DecidableEq, Repr

/-- A manifest as its bytes describe it (R337, R338). -/
structure Manifest where
  id : Nat := 0
  tlDelayPs : Nat := 0
  zeroAccounts : Bool := false
  lastHop : Nat := 1
  pmbSpeed : Nat := 0
  /-- Tile agents in ring order, and their records. -/
  ringOrder : List Nat := []
  tiles : List (Nat × MfTile) := []
  /-- Detectors and sensors that have records. -/
  dets : List (Nat × (Nat × Nat)) := []
  snss : List (Nat × MfSns) := []
  rails : List (Nat × MfRail) := []
  /-- PMBUS records: address and rail; I3C records: static address, flags, PID, BCR, DCR. -/
  pmbus : List (Nat × Nat) := []
  i3c : List (List Nat) := []
  tray : Option MfTray := none
  group : Option MfGroup := none
  /-- Queue map address and backing region base. -/
  accounts : Option (Nat × Nat) := none
  reports : Option MfReports := none
deriving DecidableEq, Repr

/-! ## Phase Book -/

/-- A bin (R200). -/
structure Bin where
  mean : Nat := 0
  peak : Nat := 0
  layer : Nat := 0
  oper : Nat := 0
  hits : Nat := 0
  seen : Bool := false
  settled : Bool := false
  origin : Bool := false
deriving DecidableEq, Repr

/-- Ticks attributed to a bin in the step that runs (R201): their number, their sum, the largest. -/
structure Meas where
  n : Nat := 0
  sum : Nat := 0
  peak : Nat := 0
deriving DecidableEq, Repr

/-- An action entry of a program (R214). -/
structure PbAction where
  phase : Nat
  span : Nat
  lead : Nat
  kind : Nat
  target : Nat
  value : Nat
  mod : Nat
  res : Nat
deriving DecidableEq, Repr

/-- A program (R214): bins as MEAN, PEAK, LAYER, OPER; channels as loop and base. -/
structure PbProgram where
  id : Nat
  bins : List (Nat × Nat × Nat × Nat)
  chans : List (Nat × Nat)
  actions : List PbAction
deriving DecidableEq, Repr

/-- An effect that has started and not ended (R208, R209). -/
structure PbActive where
  eff : Effect
  kind : Nat
  target : Nat
  value : Nat
  endAt : Angle
  since : Nat
  /-- BE_FRAME at the start. -/
  frame : Nat
  /-- Ends at the next frame boundary, with this close code of R221. -/
  ending : Option Nat := none
deriving DecidableEq, Repr

/-- A forecast held (R218). -/
structure Forecast where
  id : Nat
  queue : Nat
  acct : Nat
  layer : Nat
  oper : Nat
  start : Angle
  span : Nat
  lead : Nat
  energy : Nat
  peak : Nat
  /-- Its start was not ahead of A_x when it was taken (R218). -/
  past : Bool := false
  active : Bool := false
  /-- Energy the account has gained since the start, nJ. -/
  gain : Nat := 0
deriving DecidableEq, Repr

structure Pb where
  /-- Default: an empty bin. -/
  bins : List (Nat × Bin) := []
  meas : List (Nat × Meas) := []
  /-- The step that runs is excluded from learning (R204). -/
  excluded : Bool := false
  prog : Option PbProgram := none
  /-- An accepted program and the descriptor that brought it. -/
  pend : Option (PbProgram × Nat) := none
  unload : Bool := false
  /-- Next trigger angle of each enabled program action (R207). -/
  inst : List (Nat × Angle) := []
  /-- Instances and forecasts that came due while they were not armed, and start at the next frame boundary (R207). -/
  late : List Timer := []
  active : List PbActive := []
  fcs : List Forecast := []
  autoPre : Nat := 0
  autoBoost : Nat := 0
deriving DecidableEq, Repr

/-! ## Thermal -/

inductive SdState where
  | run | orderly | hard | down
deriving DecidableEq, Repr

inductive SnsState where
  | unsized | trusted | suspect | failed | trimming | absent
deriving DecidableEq, Repr

/-- A temperature sensor (R226 to R242). Temperatures in 0.0625 °C. -/
structure Sns where
  st : SnsState := .unsized
  /-- Channel in service, and whether channel B can still be brought in. -/
  chan : Nat := 0
  spareOk : Bool := true
  /-- Channels failed since reset: bit 0 A, bit 1 B. -/
  failedCh : Nat := 0
  ofs : Int := 0
  has : Bool := false
  val : Int := 0
  /-- The value held at the sensor's tile agent, which goes on while the hub has lost it (R226, R247). -/
  loc : Int := 0
  /-- The channel in service has given no sample yet. -/
  new : Bool := false
  /-- Earlier values, newest first, up to 5. -/
  hist : List Int := []
  used : Int := 0
  rate : Int := 0
  resid : Int := 0
  disRun : Nat := 0
  agreeRun : Nat := 0
  /-- Samples taken in TRIMMING, those with a reference, and the sum of reference less sample. -/
  trimN : Nat := 0
  trimRefs : Nat := 0
  trimSum : Int := 0
  /-- The observer has not taken the sample. -/
  fresh : Bool := false
  warned : Bool := false
  /-- Sizing: sum of the round, and the mean of the round before. -/
  sum : Int := 0
  mean : Option Int := none
deriving DecidableEq, Repr

/-- An entry of a thermal model (R231). -/
structure NodeDef where
  nbs : List Nat
  as : List Int
  psrc : Nat
  b : Int
  c : Int
  sensor : Nat
  l : Int
  set : Nat
  hot : Bool
deriving DecidableEq, Repr

structure ThModel where
  id : Nat
  nodes : List NodeDef
deriving DecidableEq, Repr

/-- A node of the loaded model: temperature in Q1.15 of 256 °C, the ten before it, its rate and time-to-limit. -/
structure ThNode where
  t : Int := 0
  hist : List Int := []
  rate : Int := 0
  tau : Nat := 0xFFFF
  warned : Bool := false
deriving DecidableEq, Repr

/-- A thermal ceiling (R246): level, when applied, and the positions that call it (node n as 4096 + n). -/
structure ThCeil where
  level : Nat := 16
  at_ : Nat := 0
  callers : List Nat := []
deriving DecidableEq, Repr

/-- Sizing (R228). -/
structure Sizing where
  on : Bool := false
  startedAt : Nat := 0
  /-- When its first round ended. -/
  step2At : Option Nat := none
  /-- Samples taken in the round. -/
  n : Nat := 0
deriving DecidableEq, Repr

/-- Cycle counting in one region (R262): the stack, newest first, the running lowest and highest, and whether the signal rises. -/
structure Rf where
  stack : List Int := []
  lo : Option Int := none
  hi : Option Int := none
  up : Option Bool := none
deriving DecidableEq, Repr

structure Th where
  sd : SdState := .run
  ordStep : Nat := 0
  cause : Nat := 0
  /-- When the stop was called, and when its present step began. -/
  sdAt : Nat := 0
  stepAt : Nat := 0
  /-- Default: an unsized sensor. -/
  sns : List (Nat × Sns) := []
  model : Option ThModel := none
  pend : Option (ThModel × Nat) := none
  nodes : List (Nat × ThNode) := []
  settling : Bool := false
  solves : Nat := 0
  /-- F of R235, Q1.15. -/
  f : Int := 0x7FFF
  missed : Nat := 0
  /-- A poll of flow and inlet temperature is out. -/
  polling : Bool := false
  /-- The last valid flow reading was below MIN_PCT. -/
  belowMin : Bool := false
  cool : Option Int := none
  ceils : List (Nat × ThCeil) := []
  sizing : Sizing := {}
  /-- Sensors whose sample of the last window is to be judged at the solve that takes it, and whether each agreed with its neighbour
  reference, where it had one (R240). -/
  judge : List (Nat × Option Bool) := []
  rf : List (Nat × Rf) := []
  /-- Counters of R263 by region × 64 + index; default 0. -/
  rfCnt : List (Nat × Nat) := []
  sampleAt : Nat := 0
  solveAt : Nat := 0
  pollAt : Nat := 0
  rfAt : Nat := 0
deriving DecidableEq, Repr

/-! ## Budget -/

inductive LinkSt where
  | down | waiting | answering | up
deriving DecidableEq, Repr

/-- A CREDIT (R276): SENT_TOTAL after it, and AMOUNT. -/
structure Credit where
  total : Nat
  amt : Nat
deriving DecidableEq, Repr

/-- A CREDIT that came back (R279): times sent again, and when it is sent next. -/
structure Retry where
  credit : Credit
  tries : Nat
  due : Option Nat
deriving DecidableEq, Repr

structure Demand where
  need : Nat
  prio : Nat
  stepdown : Bool
  stepupOk : Bool
  recv : Nat
deriving DecidableEq, Repr

/-- The fields of PACE and VIEW (R276). -/
structure Pace where
  aMin : Angle := 0
  aMax : Angle := 0
  minPeer : Nat := 0
  cause : Nat := 0
  minLevel : Nat := 0
  valid : Bool := false
deriving DecidableEq, Repr

/-- A link of the credit tree (R276 to R289). -/
structure Link where
  peer : Nat
  st : LinkSt := .down
  sent : Nat := 0
  recv : Nat := 0
  acked : Nat := 0
  /-- CREDITs held ahead of a gap, each with its arrival. -/
  ooo : List (Credit × Nat) := []
  retries : List Retry := []
  gapAt : Option Nat := none
  heardAt : Nat := 0
  ackDue : Bool := false
  demand : Option Demand := none
  pace : Option (Pace × Nat) := none
  /-- AUDIT_REPLY of the audit that runs: SUM and PARTIAL. -/
  reply : Option (Int × Bool) := none
  ansAt : Nat := 0
  /-- Credits that came back since SYNC_REQ and were not sent again. -/
  back : Nat := 0
  /-- Both ends sent SYNC_REQ, and this one has set its totals to 0 (R287). -/
  zeroed : Bool := false
  lost : Bool := false
deriving DecidableEq, Repr

structure Plan where
  id : Nat
  entries : List (Nat × Nat)
deriving DecidableEq, Repr

structure StepMsg where
  angle : Angle
  down : Nat
  plan : Nat
deriving DecidableEq, Repr

/-- A power account kept resident (R300, R301). -/
structure Acct where
  nj : Nat := 0
  corrupt : Bool := false
  seq : Nat := 0
  grants : Nat := 0
  /-- Its record is not what the last write-back that was GOOD left. -/
  dirty : Bool := false
  /-- It has changed since its last write-back was sent. -/
  changed : Bool := false
  /-- A write-back is out. -/
  writing : Bool := false
  used : Nat := 0
deriving DecidableEq, Repr

/-- What a cluster gathered under a binding that it left before the queue map answered (R299, R303). -/
structure LeftLook where
  tile : Nat
  queue : Nat
  nj : Nat
  grants : Nat
deriving DecidableEq, Repr

/-- A cluster's binding (R299): the account it is bound to, and the part that waits for it. -/
structure Bind where
  acct : Option Nat := none
  /-- A write that takes effect at the next frame boundary: a queue, or no binding. -/
  want : Option (Option Nat) := none
  /-- The queue whose entry of the queue map is being read. -/
  look : Option Nat := none
  nj : Nat := 0
  grants : Nat := 0
deriving DecidableEq, Repr

/-- What a report period gathers (R305). Energies are in nJ in a second and, for ENERGY_UJ and ALLOW_UJ, in µJ in a minute. -/
structure Period where
  tStart : Nat := 0
  nj : Nat := 0
  allow : Nat := 0
  unattr : Nat := 0
  peak : Nat := 0
  ownMin : Int := 0
  ownMax : Int := 0
  crownFr : Nat := 0
  ceilFr : Nat := 0
  stopFr : Nat := 0
  audit : Int := 0
  flags : Nat := 0
deriving DecidableEq, Repr

structure Bg where
  formed : Bool := false
  orphan : Bool := false
  /-- HELD is taken from the journal, or OWN limited to FLOOR, until every link is up (R288). -/
  syncing : Bool := false
  /-- After a reset: OWN is the lower of FLOOR and HELD while SYNCING (R288). -/
  ownFloor : Bool := false
  initial : Int := 0
  floor : Int := 0
  ceilC : Int := 0
  issued : Int := 0
  adjust : Int := 0
  own : Int := 0
  pool : Int := 0
  /-- Links by number: 0 the parent, k the k-th child. -/
  links : List (Nat × Link) := []
  epoch : Nat := 0
  /-- An audit runs here: when it began. -/
  audit : Option Nat := none
  /-- This member's contribution to it. -/
  auditOwn : Int := 0
  /-- Frame powers, newest first, up to 2,000, and Σ I_rail of the last 20 frames. -/
  pf : List Nat := []
  pfSum : Nat := 0
  ir : List Int := []
  blkN : Nat := 0
  blkP : Nat := 0
  blkOwn : Int := 0
  /-- Completed blocks, newest first, up to 1,000: Σ P_f and Σ OWN. -/
  blks : List (Nat × Int) := []
  ceil : Bool := false
  ceilAt : Nat := 0
  stop : Bool := false
  /-- Energy used and allowance of the rack minute, nJ, and the time of the next minute boundary. -/
  usedNj : Nat := 0
  allowNj : Int := 0
  minuteFrames : Nat := 0
  minuteAt : Nat := 0
  /-- cap0 of the 10 µs window, and I10, in 1/640 A; Σ EDC_r in A. -/
  cap : Nat := 0
  i10 : Int := 0
  edcSum : Nat := 0
  /-- Σ EDC_r × Vset_r in steps of 0.5 µW, and the set-point targets of the four windows, as the last frame boundary wrote them (R275). -/
  edcW : Nat := 0
  lw : List Int := []
  /-- TB_STATUS.QUALITY has been 0 since the group formed (R304). -/
  tod : Bool := false
  /-- A report that has been signed waits for the mirror: 2 until it holds the journal entry, 1 until its acknowledgement (R365). -/
  signWait : Nat := 0
  energyNj : Nat := 0
  unattrNj : Nat := 0
  binds : List (Nat × Bind) := []
  accts : List (Nat × Acct) := []
  fetching : List Nat := []
  /-- Accounts whose fetch waits for a free place or for the next WB_MS. -/
  fetchWait : List Nat := []
  /-- Pending counts, as nJ and grants, of clusters that were bound anew before their account was resident. -/
  pendAcct : List (Nat × (Nat × Nat)) := []
  leftLook : List LeftLook := []
  /-- ACCOUNT_FLUSH commands in flight: the accounts they wait for, and how many write-backs of each. -/
  flushes : List (Nat × List (Nat × Nat)) := []
  sec : Period := {}
  min_ : Period := {}
  secAt : Nat := 0
  secs : Nat := 0
  seqSec : Nat := 0
  seqMin : Nat := 0
  held : List (Nat × List Byte) := []
  /-- The report whose write is out. -/
  rptOut : Option (Nat × List Byte) := none
  rptProd : Nat := 0
  /-- The last journalled frame energy, for R303. -/
  lastEf : Nat := 0
  critical : Bool := false
  giving : Bool := false
  pacing : Bool := false
  paceLevel : Nat := 16
  view : Pace := {}
  /-- Consecutive views that name one member, and that end the state. -/
  named : Option Nat := none
  /-- The member for which CRITICAL, GIVING or PACING stands. -/
  acting : Option Nat := none
  nameRun : Nat := 0
  endRun : Nat := 0
  plan : Option Plan := none
  pendPlan : Option (Plan × Nat) := none
  /-- Level of the plan at the angle in force (R294). -/
  planNow : Option Nat := none
  /-- Next trigger of each entry. -/
  planInst : List (Nat × Angle) := []
  down : Nat := 0
  step : Option StepMsg := none
  broken : Bool := false
  /-- The budget ceiling or the W3 stop has acted in this exchange period. -/
  acted : Bool := false
  shortRun : Nat := 0
  upSince : Option Nat := none
  upOkSince : Option Nat := none
  exAt : Nat := 0
  auditAt : Nat := 0
  wbAt : Nat := 0
  /-- Messages handed to FMP_TX that have not left, oldest first. -/
  tx : List FmpMsg := []
deriving DecidableEq, Repr

/-! ## Firmware and duplex -/

/-- A firmware core (R356 to R361). -/
structure FwCore where
  /-- State code of R356. -/
  st : Nat := 0
  /-- Times of its faults. -/
  faults : List Nat := []
  stoppedAt : Nat := 0
  /-- The core whose duties a reserve core carries. -/
  duty : Option Nat := none
  /-- It restarts after a fault. -/
  byFault : Bool := false
deriving DecidableEq, Repr

/-- An accepted image that has not started (R354), with its body. -/
structure FwImage where
  kind : Nat
  id : Nat
  body : List Byte
deriving DecidableEq, Repr

structure Du where
  /-- DU_STATUS.MODE: 0 simplex, 1 duplex, 2 mirror lost, 3 after takeover. -/
  mode : Nat := 1
  active : Nat := 0
  synced : Bool := false
  /-- Hub hold (R363), and the faults whose reset ends it (R401). -/
  hold : Bool := false
  holdFor : List HubFault := []
  cores : List (Nat × FwCore) := []
  tcores : List (Nat × FwCore) := []
  image : Option FwImage := none
  /-- Reserve cores that have still to restart into a new image of KIND 5 (R354). -/
  left : List Nat := []
  /-- Images in force at the mirror, by KIND, and the image that waits as it has been copied there (R366). -/
  mirror : List (Nat × Nat) := []
  copied : Option FwImage := none
  /-- An image from the test access port that waits for the security core's duties (R355, R361). -/
  tapWait : Option (List Byte) := none
  hbAbsent : Bool := false
  /-- A takeover request is on the journal. -/
  asked : Bool := false
  /-- Messages for FMP_TX that wait for the mirror, as in MReq.wait. -/
  waitTx : List (FmpMsg × Nat) := []
deriving DecidableEq, Repr

/-! ## Spares, observation, board buses -/

structure Sp where
  /-- Corrected errors by row (hub × 2^15 + firmware × 2^14 + row). -/
  ce : List (Nat × Nat) := []
  /-- Repairs made in service and not recorded: rows, lanes (hub × 32 + lane), reserve cores. -/
  rows : List Nat := []
  lanes : List Nat := []
  reserve : List Nat := []
  /-- Rows mapped to spares since the reset, fused ones among them. -/
  mapped : List Nat := []
  /-- The spare lane, 16 or 17, that carries a failed lane's traffic, by hub × 32 + lane (R412). -/
  laneAt : List (Nat × Nat) := []
  /-- Journal frames of the last 1 ms that a corrected error on a lane (hub × 32 + lane) came with: their times (R412). -/
  laneErrs : List (Nat × List Nat) := []
  /-- FZ_ADDR of the handshakes of the last FUSE_RECORD (R415). -/
  beats : List Nat := []
  /-- Words of the repair list that FUSE_RECORD has programmed since the reset. -/
  recorded : List (Nat × Nat) := []
deriving DecidableEq, Repr

/-- A watch (R425 to R428). -/
structure Watch where
  kind : Nat := 0
  action : Nat := 0
  index : Nat := 0
  div : Nat := 0
  persist : Nat := 0
  lo : Int := 0
  hi : Int := 0
  window : Nat := 0
  st : Nat := 0
  /-- Frames since the last sample. -/
  skip : Nat := 0
  n : Nat := 0
  sum : Int := 0
  sq : Nat := 0
  mn : Int := 32767
  mx : Int := -32768
  crc : Nat := 0xFFFFFFFF
  outRun : Nat := 0
  trigs : Nat := 0
  windows : Nat := 0
  trigVal : Int := 0
  trigTs : Nat := 0
  /-- Results of the last closed window. -/
  vn : Nat := 0
  vsum : Int := 0
  vsq : Nat := 0
  vmn : Int := 0
  vmx : Int := 0
  vcrc : Nat := 0
deriving DecidableEq, Repr

/-- An attribution entry (R423). -/
structure LoEnt where
  layer : Nat := 0
  oper : Nat := 0
  nj : Nat := 0
  frames : Nat := 0
deriving DecidableEq, Repr

/-- Visible values while a freeze holds (R431). -/
structure Held where
  ops : List (Nat × (Nat × Nat))
  idle : Nat
  lo : List LoEnt
  loFull : Bool
  watches : List (Nat × Watch)
  /-- WAIT_CREDIT, WAIT_STOP, STRETCH, GRANTS, stretches, UVFs of each tile agent. -/
  lw : List (Nat × List Nat)
deriving DecidableEq, Repr

structure Obs where
  /-- GRANTS and energy in nJ by op code. -/
  ops : List (Nat × (Nat × Nat)) := []
  idle : Nat := 0
  /-- Attribution entries in use, entry 0 first, and OTHER. -/
  lo : List LoEnt := [{}]
  other : LoEnt := {}
  loFull : Bool := false
  loClr : Bool := false
  watches : List (Nat × Watch) := []
  held : Option Held := none
  /-- The values that the marker of the last freeze took from the tile agents, which the snapshot of that freeze holds (R432, R436). -/
  marked : Option Held := none
  /-- The descriptor of the timed freeze. -/
  timedKey : Option Nat := none
  /-- The freeze marker has not passed every tile agent. -/
  marker : Bool := false
  frozenAt : Nat := 0
  /-- Watches that asked for a freeze at the next frame boundary, in order. -/
  watchFrz : List Nat := []
  /-- A snapshot is to be taken at the next frame boundary; words of the last one that are not 0. -/
  snapDue : Bool := false
  /-- Taken, and not yet valid. -/
  snapCap : Bool := false
  snapAt : Nat := 0
  snap : List (Nat × Nat) := []
deriving DecidableEq, Repr

/-- A PMBus transaction to be retried (R56), and when it failed. -/
structure PmbWait where
  txn : PmbTxn
  failedAt : Nat
deriving DecidableEq, Repr

/-- An I3C target as the controller has set it up (R57): SETDASA has given it an address, ENEC has enabled its interrupts, and what
SETMWL, SETMRL and GETSTATUS last carried. -/
structure I3cTarget where
  addressed : Bool := false
  events : Bool := false
  mwl : Option Nat := none
  mrl : Option Nat := none
  status : Option Nat := none
deriving DecidableEq, Repr

/-- The board buses (R55 to R58). -/
structure Bus where
  /-- PMBus records: failed once and to be retried; marked faulted. -/
  retry : List (Nat × PmbWait) := []
  /-- Writes reported as failed after the target acknowledged the data byte, oldest first (R56). -/
  failed : List (Nat × PmbTxn) := []
  /-- The last value that a retried read gave: record, command and bytes. -/
  value : Option (Nat × PmbCmd × List Byte) := none
  /-- I3C targets by record; default none set up. -/
  i3c : List (Nat × I3cTarget) := []
  /-- The targets are to be set up anew, and wait for the power core's duties (R350, R399). -/
  setupDue : Bool := false
  /-- The transaction that has been sent again and has not ended: its record. -/
  again : Option (Nat × PmbTxn) := none
  /-- The bytes that FX-4 put on the bus for it, with the PEC of a write (R55). -/
  sent : List Byte := []
  /-- VOUT_MODE by record, as last read or written; and the value that a read gave in Linear11 or Linear16, as mantissa and exponent
  of 2 (R55). -/
  voutMode : List (Nat × Nat) := []
  number : Option (Int × Int) := none
  faulted : List Nat := []
  /-- The last alert response. -/
  alert : Option Byte := none
  absent : List Nat := []
  /-- The last in-band interrupt: record and payload. -/
  ibi : Option (Nat × List Byte) := none
deriving DecidableEq, Repr

/-! ## The whole block -/

structure State where
  /-- Commands that wait, first in, first out. -/
  pending : List Instr := []
  build : Build := Config.aflux
  /-- Reference cycles since power-on: the model's own count of time. -/
  now : Nat := 0
  /-- The model's own counter for free values. -/
  free : Nat := 0
  /-- Stored register fields, by 32 × offset + lowest bit; a field not listed has its reset value. -/
  regs : List (Nat × Nat) := []
  /-- Captured register values, by offset (R457). -/
  captured : List (Nat × Nat) := []
  pins : Pins := {}
  rs : Rs := {}
  tap : Tap := {}
  hap : Hap := {}
  hr : Hr := {}
  /-- Mailbox channels 0 to 3; default empty. -/
  mb : List (Nat × Mbox) := []
  tb : Tb := {}
  /-- Sequencer state of each rail; default idle. -/
  vfs : List (Nat × VfsRail) := []
  sa : Sa := {}
  be : Be := {}
  pc : Pc := {}
  cc : Cc := {}
  mf : Option Manifest := none
  pb : Pb := {}
  th : Th := {}
  bg : Bg := {}
  du : Du := {}
  sp : Sp := {}
  obs : Obs := {}
  bus : Bus := {}
deriving DecidableEq, Repr

/-- The machine right after the end of a power-on reset: every field at its reset value, nothing waiting.
DESIGN CHOICE (log 5). -/
def State.reset : State := {}

end Sys2Proof.Machine
end

