-- ==== Sys2Proof/Machine/Regs.lean ====
section
/-! DEFINITION. Every stored field of every set-up register of spec/15_register_index.md, and the table of registers by offset
(type, width, array count, clamp and reset of each field, as the chapter that owns the register gives them). -/

namespace Sys2Proof.Machine

/-- One stored register field: the register's offset, the field's lowest bit, its width and its reset value. -/
structure Fld where
  off : Nat
  lo : Nat
  w : Nat
  rst : Nat
deriving DecidableEq, Repr

/-- The field types of R8. -/
inductive FTy where
  | rw | ro | w1c | wo | su
deriving DecidableEq, Repr

/-- What a write outside a field's range sets instead of the value written. -/
inductive Fix where
  | none
  | clamp (lo hi : Nat)
  | zeroOrMin (m : Nat)
  | maxOut
deriving DecidableEq, Repr

/-- One field of one register of a series: lowest bit, width, how many fields of that width follow one another, its type,
whether the field is stored in the register file (a field that is not is worked out when it is read), its clamp and its reset. -/
structure FDef where
  lo : Nat
  w : Nat
  arr : Nat
  ty : FTy
  stored : Bool
  fix : Fix
  rst : Nat → Nat → Nat

/-- One register, or a series of registers `stride` bytes apart, as many as the build gives (R18). -/
structure RegDef where
  base : Nat
  stride : Nat
  count : Build → Nat
  fields : List FDef

end Sys2Proof.Machine

namespace Sys2Proof.Machine.Reg

/-- RS_STATUS.PHASE (R384). -/
def RS_STATUS.PHASE : Fld := ⟨0x0100, 0, 4, 0⟩
/-- RS_STATUS.STRAP_FAULT (R384). -/
def RS_STATUS.STRAP_FAULT : Fld := ⟨0x0100, 4, 1, 0⟩
/-- RS_STATUS.OPT_FAULT (R384). -/
def RS_STATUS.OPT_FAULT : Fld := ⟨0x0100, 5, 1, 0⟩
/-- RS_STATUS.RING_FAULT (R384). -/
def RS_STATUS.RING_FAULT : Fld := ⟨0x0100, 6, 1, 0⟩
/-- RS_STATUS.STUCK (R384). -/
def RS_STATUS.STUCK : Fld := ⟨0x0100, 7, 1, 0⟩
/-- RS_STATUS.STUCK_STEP (R384). -/
def RS_STATUS.STUCK_STEP : Fld := ⟨0x0100, 8, 4, 0⟩
/-- RS_STATUS.TILES_FOUND (R384). -/
def RS_STATUS.TILES_FOUND : Fld := ⟨0x0100, 12, 8, 0⟩
/-- RS_CAUSE.POR (R375). -/
def RS_CAUSE.POR : Fld := ⟨0x0104, 0, 1, 1⟩
/-- RS_CAUSE.PIN (R375). -/
def RS_CAUSE.PIN : Fld := ⟨0x0104, 1, 1, 0⟩
/-- RS_CAUSE.BLOCK (R375). -/
def RS_CAUSE.BLOCK : Fld := ⟨0x0104, 2, 1, 0⟩
/-- RS_CAUSE.OPT_RESTART (R375). -/
def RS_CAUSE.OPT_RESTART : Fld := ⟨0x0104, 3, 1, 0⟩
/-- RS_CAUSE.RESTARTS (R375). -/
def RS_CAUSE.RESTARTS : Fld := ⟨0x0104, 8, 8, 0⟩
/-- RS_STRAPS.BOOT_SRC (R381). -/
def RS_STRAPS.BOOT_SRC : Fld := ⟨0x0108, 0, 2, 0⟩
/-- RS_STRAPS.CLK_MODE (R381). -/
def RS_STRAPS.CLK_MODE : Fld := ⟨0x0108, 2, 2, 0⟩
/-- RS_STRAPS.DUPLEX_ROLE (R381). -/
def RS_STRAPS.DUPLEX_ROLE : Fld := ⟨0x0108, 4, 1, 0⟩
/-- RS_STRAPS.UNSTABLE (R381). -/
def RS_STRAPS.UNSTABLE : Fld := ⟨0x0108, 5, 1, 0⟩
/-- RS_SUB.HOLD (R400). -/
def RS_SUB.HOLD : Fld := ⟨0x010C, 1, 8, 0⟩
/-- RS_WAVE.SIZE (R394). -/
def RS_WAVE.SIZE : Fld := ⟨0x0110, 0, 8, 0x10⟩
/-- RS_WAVE.GAP_US (R394). -/
def RS_WAVE.GAP_US : Fld := ⟨0x0110, 8, 8, 0x14⟩
/-- RS_WAVE.OK_US (R394). -/
def RS_WAVE.OK_US : Fld := ⟨0x0110, 16, 12, 0x064⟩
/-- RS_AGREE.STEP (R389). -/
def RS_AGREE.STEP : Fld := ⟨0x0114, 0, 4, 0⟩
/-- RS_AGREE.FAILED (R389). -/
def RS_AGREE.FAILED : Fld := ⟨0x0114, 4, 1, 0⟩
/-- RS_AGREE.INDEX (R389). -/
def RS_AGREE.INDEX : Fld := ⟨0x0114, 16, 12, 0⟩
/-- RS_READY_TS_LO.TS (R390). -/
def RS_READY_TS_LO.TS : Fld := ⟨0x0118, 0, 32, 0⟩
/-- RS_READY_TS_HI.TS (R390). -/
def RS_READY_TS_HI.TS : Fld := ⟨0x011C, 0, 32, 0⟩
/-- RS_BOOT_CYC.CYCLES (R384). -/
def RS_BOOT_CYC.CYCLES : Fld := ⟨0x0120, 0, 32, 0⟩
/-- RS_BCAST.BUSY (R393). -/
def RS_BCAST.BUSY : Fld := ⟨0x0124, 0, 1, 0⟩
/-- RS_BCAST.RESENDS (R393). -/
def RS_BCAST.RESENDS : Fld := ⟨0x0124, 8, 8, 0⟩
/-- RS_BCAST.FAILED (R393). -/
def RS_BCAST.FAILED : Fld := ⟨0x0124, 16, 8, 0⟩
/-- RS_TILE_MISS.MISS (R385). -/
def RS_TILE_MISS.MISS (i : Nat) : Fld := ⟨0x0130 + 4 * i, 0, 32, 0⟩
/-- TB_CFG.REVERT_HOLD_MS (R68). -/
def TB_CFG.REVERT_HOLD_MS : Fld := ⟨0x0400, 0, 8, 0x10⟩
/-- TB_TRIM.CODE (R71). -/
def TB_TRIM.CODE : Fld := ⟨0x0414, 0, 10, 0⟩
/-- TB_ERR.TL_LOSS (R69). -/
def TB_ERR.TL_LOSS : Fld := ⟨0x0418, 0, 1, 0⟩
/-- TB_ERR.XTAL_LOSS (R69). -/
def TB_ERR.XTAL_LOSS : Fld := ⟨0x0418, 1, 1, 0⟩
/-- TB_ERR.HOLDOVER_RC (R69). -/
def TB_ERR.HOLDOVER_RC : Fld := ⟨0x0418, 2, 1, 0⟩
/-- TB_ERR.TL_CRC (R69). -/
def TB_ERR.TL_CRC : Fld := ⟨0x0418, 3, 1, 0⟩
/-- TB_ERR.TL_TIME (R69). -/
def TB_ERR.TL_TIME : Fld := ⟨0x0418, 4, 1, 0⟩
/-- TB_ERR.TIME_STEP (R69). -/
def TB_ERR.TIME_STEP : Fld := ⟨0x0418, 5, 1, 0⟩
/-- TB_ERR.TRIM_LIMIT (R69). -/
def TB_ERR.TRIM_LIMIT : Fld := ⟨0x0418, 6, 1, 0⟩
/-- TB_ERR.SWITCH (R69). -/
def TB_ERR.SWITCH : Fld := ⟨0x0418, 7, 1, 0⟩
/-- TB_TL_CNT.CRC_ERRS (R73). -/
def TB_TL_CNT.CRC_ERRS : Fld := ⟨0x041C, 0, 16, 0⟩
/-- TB_TL_CNT.MISSED_MARKS (R73). -/
def TB_TL_CNT.MISSED_MARKS : Fld := ⟨0x041C, 16, 16, 0⟩
/-- SA_CFG.EN (R84). -/
def SA_CFG.EN : Fld := ⟨0x0440, 0, 1, 0⟩
/-- SA_CFG.RATE_SHIFT (R84). -/
def SA_CFG.RATE_SHIFT : Fld := ⟨0x0440, 1, 3, 3⟩
/-- SA_CFG.LEAD_MAX (R84). -/
def SA_CFG.LEAD_MAX : Fld := ⟨0x0440, 8, 8, 0x10⟩
/-- SA_CFG.LOSS_MS (R84). -/
def SA_CFG.LOSS_MS : Fld := ⟨0x0440, 16, 16, 0x000A⟩
/-- SA_ERR.LOST_TGL (R85). -/
def SA_ERR.LOST_TGL : Fld := ⟨0x045C, 0, 8, 0⟩
/-- SA_ERR.BACKWARD (R85). -/
def SA_ERR.BACKWARD : Fld := ⟨0x045C, 8, 8, 0⟩
/-- SA_ERR.JUMP (R85). -/
def SA_ERR.JUMP : Fld := ⟨0x045C, 16, 8, 0⟩
/-- SA_ERR.LOSS (R85). -/
def SA_ERR.LOSS : Fld := ⟨0x045C, 24, 8, 0⟩
/-- VFS_CFG.SLEW (R79). -/
def VFS_CFG.SLEW : Fld := ⟨0x0480, 0, 8, 0x27⟩
/-- VFS_CFG.SETTLE_US (R79). -/
def VFS_CFG.SETTLE_US : Fld := ⟨0x0480, 8, 8, 2⟩
/-- VFS_CFG.TOL_MV (R79). -/
def VFS_CFG.TOL_MV : Fld := ⟨0x0480, 16, 4, 5⟩
/-- VFS_STATUS.BUSY (R81). -/
def VFS_STATUS.BUSY : Fld := ⟨0x0484, 0, 12, 0⟩
/-- VFS_STATUS.FAULT (R81). -/
def VFS_STATUS.FAULT : Fld := ⟨0x0484, 16, 12, 0⟩
/-- HR_DB_BASE_LO.EN (R312). -/
def HR_DB_BASE_LO.EN : Fld := ⟨0x0800, 0, 1, 0⟩
/-- HR_DB_BASE_LO.ADDR (R312). -/
def HR_DB_BASE_LO.ADDR : Fld := ⟨0x0800, 12, 20, 0⟩
/-- HR_DB_BASE_HI.ADDR (R312). -/
def HR_DB_BASE_HI.ADDR : Fld := ⟨0x0804, 0, 32, 0⟩
/-- HR_DB_CFG.POLL_US (R314). -/
def HR_DB_CFG.POLL_US : Fld := ⟨0x0808, 0, 7, 4⟩
/-- HR_EV_BASE_LO.ADDR (R343). -/
def HR_EV_BASE_LO.ADDR : Fld := ⟨0x0810, 12, 20, 0⟩
/-- HR_EV_BASE_HI.ADDR (R343). -/
def HR_EV_BASE_HI.ADDR : Fld := ⟨0x0814, 0, 32, 0⟩
/-- HR_EV_CFG.SIZE_LOG2 (R343). -/
def HR_EV_CFG.SIZE_LOG2 : Fld := ⟨0x0818, 0, 5, 6⟩
/-- HR_EV_CFG.EN (R343). -/
def HR_EV_CFG.EN : Fld := ⟨0x0818, 8, 1, 0⟩
/-- HR_EV_DROP.COUNT (R343). -/
def HR_EV_DROP.COUNT : Fld := ⟨0x081C, 0, 32, 0⟩
/-- HR_TEL_BASE_LO.ADDR (R344). -/
def HR_TEL_BASE_LO.ADDR : Fld := ⟨0x0820, 12, 20, 0⟩
/-- HR_TEL_BASE_HI.ADDR (R344). -/
def HR_TEL_BASE_HI.ADDR : Fld := ⟨0x0824, 0, 32, 0⟩
/-- HR_TEL_CFG.SIZE_LOG2 (R344). -/
def HR_TEL_CFG.SIZE_LOG2 : Fld := ⟨0x0828, 0, 5, 6⟩
/-- HR_TEL_CFG.EN (R344). -/
def HR_TEL_CFG.EN : Fld := ⟨0x0828, 8, 1, 0⟩
/-- HR_TEL_CFG.PERIOD_US (R344). -/
def HR_TEL_CFG.PERIOD_US : Fld := ⟨0x0828, 16, 16, 0⟩
/-- HR_TEL_DROP.COUNT (R344). -/
def HR_TEL_DROP.COUNT : Fld := ⟨0x082C, 0, 32, 0⟩
/-- HR_ERR.DB_READ (R314). -/
def HR_ERR.DB_READ : Fld := ⟨0x0830, 0, 1, 0⟩
/-- HR_ERR.FETCH (R314). -/
def HR_ERR.FETCH : Fld := ⟨0x0830, 1, 1, 0⟩
/-- HR_ERR.CPL_WRITE (R314). -/
def HR_ERR.CPL_WRITE : Fld := ⟨0x0830, 2, 1, 0⟩
/-- HR_ERR.EV_WRITE (R314). -/
def HR_ERR.EV_WRITE : Fld := ⟨0x0830, 3, 1, 0⟩
/-- HR_ERR.TEL_WRITE (R314). -/
def HR_ERR.TEL_WRITE : Fld := ⟨0x0830, 4, 1, 0⟩
/-- HR_ERR.CFG_BUSY (R314). -/
def HR_ERR.CFG_BUSY : Fld := ⟨0x0830, 5, 1, 0⟩
/-- HR_ERR_RING.RING (R323). -/
def HR_ERR_RING.RING : Fld := ⟨0x0834, 0, 6, 0⟩
/-- HR_MF_ID.ID (R337). -/
def HR_MF_ID.ID : Fld := ⟨0x0838, 0, 32, 0⟩
/-- HR_MF_UNIT.UNIT (R339). -/
def HR_MF_UNIT.UNIT : Fld := ⟨0x083C, 0, 32, 0⟩
/-- RING_BASE_LO.ADDR (R315). -/
def RING_BASE_LO.ADDR (i : Nat) : Fld := ⟨0x0A00 + 16 * i, 12, 20, 0⟩
/-- RING_BASE_HI.ADDR (R315). -/
def RING_BASE_HI.ADDR (i : Nat) : Fld := ⟨0x0A04 + 16 * i, 0, 32, 0⟩
/-- RING_CFG.EN (R316). -/
def RING_CFG.EN (i : Nat) : Fld := ⟨0x0A08 + 16 * i, 0, 1, 0⟩
/-- RING_CFG.PRIO (R316). -/
def RING_CFG.PRIO (i : Nat) : Fld := ⟨0x0A08 + 16 * i, 1, 1, 0⟩
/-- RING_CFG.SEC (R316). -/
def RING_CFG.SEC (i : Nat) : Fld := ⟨0x0A08 + 16 * i, 2, 1, 0⟩
/-- RING_CFG.SIZE_LOG2 (R316). -/
def RING_CFG.SIZE_LOG2 (i : Nat) : Fld := ⟨0x0A08 + 16 * i, 8, 4, 4⟩
/-- HAP_CFG.TIMEOUT_US (R46). -/
def HAP_CFG.TIMEOUT_US : Fld := ⟨0x0F00, 0, 16, 0x64⟩
/-- HAP_CFG.MAX_OUT (R46). -/
def HAP_CFG.MAX_OUT : Fld := ⟨0x0F00, 16, 9, 0x100⟩
/-- HAP_ERR.TIMEOUT (R54). -/
def HAP_ERR.TIMEOUT : Fld := ⟨0x0F04, 0, 1, 0⟩
/-- HAP_ERR.TGTERR (R54). -/
def HAP_ERR.TGTERR : Fld := ⟨0x0F04, 1, 1, 0⟩
/-- HAP_ERR.NOTGT (R54). -/
def HAP_ERR.NOTGT : Fld := ⟨0x0F04, 2, 1, 0⟩
/-- HAP_ERR.POISON (R54). -/
def HAP_ERR.POISON : Fld := ⟨0x0F04, 3, 1, 0⟩
/-- HAP_ERR.STRAY (R54). -/
def HAP_ERR.STRAY : Fld := ⟨0x0F04, 4, 1, 0⟩
/-- HAP_ERR.CHK_CORR (R54). -/
def HAP_ERR.CHK_CORR : Fld := ⟨0x0F04, 5, 1, 0⟩
/-- HAP_ERR.ISOL (R54). -/
def HAP_ERR.ISOL : Fld := ⟨0x0F04, 6, 1, 0⟩
/-- HAP_ERR_ADDR_LO.ADDR (R54). -/
def HAP_ERR_ADDR_LO.ADDR : Fld := ⟨0x0F08, 0, 32, 0⟩
/-- HAP_ERR_ADDR_HI.ADDR (R54). -/
def HAP_ERR_ADDR_HI.ADDR : Fld := ⟨0x0F0C, 0, 32, 0⟩
/-- MB_F2H_DB.BITS (R348). -/
def MB_F2H_DB.BITS (i : Nat) : Fld := ⟨0x1010 + 64 * i, 0, 32, 0⟩
/-- MB_F2H_MASK.MASK (R348). -/
def MB_F2H_MASK.MASK (i : Nat) : Fld := ⟨0x1014 + 64 * i, 0, 32, 0xFFFFFFFF⟩
/-- MB_DROP.H2F (R345). -/
def MB_DROP.H2F (i : Nat) : Fld := ⟨0x1018 + 64 * i, 0, 8, 0⟩
/-- MB_DROP.F2H (R345). -/
def MB_DROP.F2H (i : Nat) : Fld := ⟨0x1018 + 64 * i, 8, 8, 0⟩
/-- MB_DROP.FRAME (R345). -/
def MB_DROP.FRAME (i : Nat) : Fld := ⟨0x1018 + 64 * i, 16, 8, 0⟩
/-- BE_FAULT.DOM (R124). -/
def BE_FAULT.DOM : Fld := ⟨0x200C, 0, 16, 0⟩
/-- BE_FAULT.LANE (R124). -/
def BE_FAULT.LANE : Fld := ⟨0x200C, 16, 1, 0⟩
/-- BE_FAULT.REFUSED (R124). -/
def BE_FAULT.REFUSED : Fld := ⟨0x200C, 17, 15, 0⟩
/-- BE_REFUSE.LOOP (R119). -/
def BE_REFUSE.LOOP : Fld := ⟨0x2010, 0, 10, 0⟩
/-- BE_REFUSE.DOM (R119). -/
def BE_REFUSE.DOM : Fld := ⟨0x2010, 16, 4, 0⟩
/-- BE_REFUSE.REASON (R119). -/
def BE_REFUSE.REASON : Fld := ⟨0x2010, 20, 4, 0⟩
/-- BE_DISP_FS.FS (R99). -/
def BE_DISP_FS.FS : Fld := ⟨0x2014, 0, 12, 0x800⟩
/-- BE_FRAME.COUNT (R89). -/
def BE_FRAME.COUNT : Fld := ⟨0x2018, 0, 32, 0⟩
/-- BE_ARITH.ACC_SAT (R91). -/
def BE_ARITH.ACC_SAT : Fld := ⟨0x201C, 0, 1, 0⟩
/-- BE_ARITH.WB_SAT (R91). -/
def BE_ARITH.WB_SAT : Fld := ⟨0x201C, 1, 1, 0⟩
/-- BRIM_FREQ.LEVEL (R116). -/
def BRIM_FREQ.LEVEL : Fld := ⟨0x2020, 0, 4, 0⟩
/-- BRIM_DISP.RATE (R116). -/
def BRIM_DISP.RATE : Fld := ⟨0x2024, 0, 12, 0⟩
/-- BRIM_VTGT.LO (R116). -/
def BRIM_VTGT.LO (i : Nat) : Fld := ⟨0x2028 + 4 * i, 0, 10, 0⟩
/-- BRIM_VTGT.HI (R116). -/
def BRIM_VTGT.HI (i : Nat) : Fld := ⟨0x2028 + 4 * i, 16, 10, 0⟩
/-- BE_IMAGE.ID (R122). -/
def BE_IMAGE.ID : Fld := ⟨0x2044, 0, 32, 0⟩
/-- BE_LSEL.LOOP (R107). -/
def BE_LSEL.LOOP : Fld := ⟨0x2080, 0, 10, 0⟩
/-- BE_ADOM_FREQ.DOM (R113). -/
def BE_ADOM_FREQ.DOM (j : Nat) : Fld := ⟨0x2100 + 4 * (j / 8), 4 * (j % 8), 4, 0⟩
/-- BE_ADOM_DISP.DOM (R113). -/
def BE_ADOM_DISP.DOM : Fld := ⟨0x2140, 0, 4, 0⟩
/-- BE_ADOM_VTGT0.DOM (R113). -/
def BE_ADOM_VTGT0.DOM (j : Nat) : Fld := ⟨0x2144, 4 * j, 4, 0⟩
/-- BE_ADOM_VTGT1.DOM (R113). -/
def BE_ADOM_VTGT1.DOM (j : Nat) : Fld := ⟨0x2148, 4 * j, 4, 0⟩
/-- PG_VMAX.VMAX (R106). -/
def PG_VMAX.VMAX (i : Nat) : Fld := ⟨0x2400 + 32 * i, 0, 31, if i = 0 then 0x02580000 else 0x7FFFFFFF⟩
/-- PG_AMAX.AMAX (R106). -/
def PG_AMAX.AMAX (i : Nat) : Fld := ⟨0x2404 + 32 * i, 0, 31, if i = 0 then 0x00960000 else 0x7FFFFFFF⟩
/-- PG_JMAX.JMAX (R106). -/
def PG_JMAX.JMAX (i : Nat) : Fld := ⟨0x2408 + 32 * i, 0, 31, if i = 0 then 0x00320000 else 0x7FFFFFFF⟩
/-- PG_CFG.SHIFT (R104). -/
def PG_CFG.SHIFT (i : Nat) : Fld := ⟨0x240C + 32 * i, 0, 5, if i = 0 then 0x10 else 0⟩
/-- PB_CFG.LEARN (R200). -/
def PB_CFG.LEARN : Fld := ⟨0x2C00, 0, 1, 0⟩
/-- PB_CFG.AUTO (R200). -/
def PB_CFG.AUTO : Fld := ⟨0x2C00, 1, 1, 0⟩
/-- PB_CFG.ACTIONS (R200). -/
def PB_CFG.ACTIONS : Fld := ⟨0x2C00, 2, 1, 0⟩
/-- PB_CFG.FC_EN (R200). -/
def PB_CFG.FC_EN : Fld := ⟨0x2C00, 3, 1, 0⟩
/-- PB_CFG.LSHIFT (R200). -/
def PB_CFG.LSHIFT : Fld := ⟨0x2C00, 4, 4, 3⟩
/-- PB_CFG.TIMERS (R200). -/
def PB_CFG.TIMERS : Fld := ⟨0x2C00, 8, 9, 0xC0⟩
/-- PB_CFG.BIN_LOG2 (R200). -/
def PB_CFG.BIN_LOG2 : Fld := ⟨0x2C00, 20, 4, 0xC⟩
/-- PB_LEARN.TOL_A (R202). -/
def PB_LEARN.TOL_A : Fld := ⟨0x2C04, 0, 12, 0x20⟩
/-- PB_LEARN.SETTLE_STEPS (R202). -/
def PB_LEARN.SETTLE_STEPS : Fld := ⟨0x2C04, 12, 8, 8⟩
/-- PB_LEARN.CONV_PCT (R202). -/
def PB_LEARN.CONV_PCT : Fld := ⟨0x2C04, 20, 7, 0x5A⟩
/-- PB_AUTO.LEAD_US (R213). -/
def PB_AUTO.LEAD_US : Fld := ⟨0x2C08, 0, 8, 0x14⟩
/-- PB_AUTO.FRAC (R213). -/
def PB_AUTO.FRAC : Fld := ⟨0x2C08, 8, 4, 4⟩
/-- PB_AUTO.BOOST_MV (R213). -/
def PB_AUTO.BOOST_MV : Fld := ⟨0x2C08, 12, 8, 0⟩
/-- PB_AUTO.STEP_A (R213). -/
def PB_AUTO.STEP_A : Fld := ⟨0x2C08, 20, 12, 0x1F4⟩
/-- PB_LIMIT.PREOPEN_MAX_A (R210). -/
def PB_LIMIT.PREOPEN_MAX_A : Fld := ⟨0x2C0C, 0, 13, 0x800⟩
/-- PB_LIMIT.BOOST_MAX_MV (R210). -/
def PB_LIMIT.BOOST_MAX_MV : Fld := ⟨0x2C0C, 16, 8, 0x19⟩
/-- PB_LIMIT.FC_FRAC (R210). -/
def PB_LIMIT.FC_FRAC : Fld := ⟨0x2C0C, 24, 4, 4⟩
/-- PB_ACTMAX.ACT_MAX_US (R209). -/
def PB_ACTMAX.ACT_MAX_US : Fld := ⟨0x2C10, 0, 16, 0x3E8⟩
/-- PB_PROG_ID.ID (R216). -/
def PB_PROG_ID.ID : Fld := ⟨0x2C1C, 0, 32, 0⟩
/-- PB_REJECT.REASON (R215). -/
def PB_REJECT.REASON : Fld := ⟨0x2C24, 0, 4, 0⟩
/-- PB_REJECT.INDEX (R215). -/
def PB_REJECT.INDEX : Fld := ⟨0x2C24, 16, 11, 0⟩
/-- PB_ERR.SKIPPED (R204). -/
def PB_ERR.SKIPPED : Fld := ⟨0x2C28, 0, 1, 0⟩
/-- PB_ERR.LATE (R204). -/
def PB_ERR.LATE : Fld := ⟨0x2C28, 1, 1, 0⟩
/-- PB_ERR.CUT (R204). -/
def PB_ERR.CUT : Fld := ⟨0x2C28, 2, 1, 0⟩
/-- PB_ERR.UNNAMED_SP (R204). -/
def PB_ERR.UNNAMED_SP : Fld := ⟨0x2C28, 3, 1, 0⟩
/-- PB_ERR.FC_STALE (R204). -/
def PB_ERR.FC_STALE : Fld := ⟨0x2C28, 4, 1, 0⟩
/-- PB_ERR.FC_FULL (R204). -/
def PB_ERR.FC_FULL : Fld := ⟨0x2C28, 5, 1, 0⟩
/-- PB_ERR.NOT_LEARNED (R204). -/
def PB_ERR.NOT_LEARNED : Fld := ⟨0x2C28, 6, 1, 0⟩
/-- PB_CNT.FIRED (R208). -/
def PB_CNT.FIRED : Fld := ⟨0x2C2C, 0, 16, 0⟩
/-- PB_CNT.SKIPPED (R208). -/
def PB_CNT.SKIPPED : Fld := ⟨0x2C2C, 16, 16, 0⟩
/-- PB_BIN_SEL.BIN (R200). -/
def PB_BIN_SEL.BIN : Fld := ⟨0x2C30, 0, 12, 0⟩
/-- PC_FLT.BRAKE_MISS (R168). -/
def PC_FLT.BRAKE_MISS : Fld := ⟨0x3004, 0, 1, 0⟩
/-- PC_BRAKE0.LEVEL_W (R167). -/
def PC_BRAKE0.LEVEL_W : Fld := ⟨0x3008, 0, 12, 0xFFF⟩
/-- PC_BRAKE0.FREQ (R167). -/
def PC_BRAKE0.FREQ : Fld := ⟨0x3008, 12, 4, 0⟩
/-- PC_BRAKE1.CUR_A (R167). -/
def PC_BRAKE1.CUR_A : Fld := ⟨0x300C, 0, 12, 0xFFF⟩
/-- PC_BRAKE1.ESC_US (R167). -/
def PC_BRAKE1.ESC_US : Fld := ⟨0x300C, 12, 4, 6⟩
/-- PC_BRAKE_CNT.BRAKES (R170). -/
def PC_BRAKE_CNT.BRAKES : Fld := ⟨0x3010, 0, 16, 0⟩
/-- PC_BRAKE_CNT.ESCALATIONS (R170). -/
def PC_BRAKE_CNT.ESCALATIONS : Fld := ⟨0x3010, 16, 16, 0⟩
/-- RAIL_CFG.SRC (R142). -/
def RAIL_CFG.SRC (i : Nat) : Fld := ⟨0x3100 + 64 * i, 0, 1, 0⟩
/-- RAIL_CFG.SHED_EN (R142). -/
def RAIL_CFG.SHED_EN (i : Nat) : Fld := ⟨0x3100 + 64 * i, 1, 1, 0⟩
/-- RAIL_CFG.PERIOD (R142). -/
def RAIL_CFG.PERIOD (i : Nat) : Fld := ⟨0x3100 + 64 * i, 8, 8, 0x64⟩
/-- RAIL_CFG.ORDER (R142). -/
def RAIL_CFG.ORDER (i : Nat) : Fld := ⟨0x3100 + 64 * i, 16, 4, 0⟩
/-- RAIL_CFG.PH_MIN (R142). -/
def RAIL_CFG.PH_MIN (i : Nat) : Fld := ⟨0x3100 + 64 * i, 20, 8, 1⟩
/-- RAIL_VSET.VSET (R136). -/
def RAIL_VSET.VSET (i : Nat) : Fld := ⟨0x3104 + 64 * i, 0, 10, 0⟩
/-- RAIL_VSET.RLL (R136). -/
def RAIL_VSET.RLL (i : Nat) : Fld := ⟨0x3104 + 64 * i, 16, 8, 0⟩
/-- RAIL_SEQ_ON.DELAY_US (R144). -/
def RAIL_SEQ_ON.DELAY_US (i : Nat) : Fld := ⟨0x3108 + 64 * i, 0, 16, 0⟩
/-- RAIL_SEQ_ON.RAMP (R144). -/
def RAIL_SEQ_ON.RAMP (i : Nat) : Fld := ⟨0x3108 + 64 * i, 16, 8, 0x27⟩
/-- RAIL_SEQ_OFF.DELAY_US (R148). -/
def RAIL_SEQ_OFF.DELAY_US (i : Nat) : Fld := ⟨0x310C + 64 * i, 0, 16, 0⟩
/-- RAIL_SEQ_OFF.RAMP (R148). -/
def RAIL_SEQ_OFF.RAMP (i : Nat) : Fld := ⟨0x310C + 64 * i, 16, 8, 0x27⟩
/-- RAIL_COMP0.KP (R139). -/
def RAIL_COMP0.KP (i : Nat) : Fld := ⟨0x3110 + 64 * i, 0, 16, 0⟩
/-- RAIL_COMP0.KI (R139). -/
def RAIL_COMP0.KI (i : Nat) : Fld := ⟨0x3110 + 64 * i, 16, 16, 0⟩
/-- RAIL_COMP1.KD (R139). -/
def RAIL_COMP1.KD (i : Nat) : Fld := ⟨0x3114 + 64 * i, 0, 16, 0⟩
/-- RAIL_COMP1.DMAX (R139). -/
def RAIL_COMP1.DMAX (i : Nat) : Fld := ⟨0x3114 + 64 * i, 16, 16, 0x4000⟩
/-- RAIL_PROT0.OV_MV (R154). -/
def RAIL_PROT0.OV_MV (i : Nat) : Fld := ⟨0x3118 + 64 * i, 0, 8, 0x32⟩
/-- RAIL_PROT0.UV_MV (R154). -/
def RAIL_PROT0.UV_MV (i : Nat) : Fld := ⟨0x3118 + 64 * i, 8, 8, 0x64⟩
/-- RAIL_PROT0.UV_US (R154). -/
def RAIL_PROT0.UV_US (i : Nat) : Fld := ⟨0x3118 + 64 * i, 16, 8, 2⟩
/-- RAIL_PROT0.SS_TRACK_MV (R154). -/
def RAIL_PROT0.SS_TRACK_MV (i : Nat) : Fld := ⟨0x3118 + 64 * i, 24, 8, 0x64⟩
/-- RAIL_PROT1.PH_OC_A (R152). -/
def RAIL_PROT1.PH_OC_A (i : Nat) : Fld := ⟨0x311C + 64 * i, 0, 8, 0x3C⟩
/-- RAIL_PROT1.PH_OT_C (R152). -/
def RAIL_PROT1.PH_OT_C (i : Nat) : Fld := ⟨0x311C + 64 * i, 8, 8, 0x7D⟩
/-- RAIL_PROT1.SS_RETRY (R152). -/
def RAIL_PROT1.SS_RETRY (i : Nat) : Fld := ⟨0x311C + 64 * i, 16, 4, 2⟩
/-- RAIL_PROT1.SS_HICCUP_MS (R152). -/
def RAIL_PROT1.SS_HICCUP_MS (i : Nat) : Fld := ⟨0x311C + 64 * i, 20, 12, 0x14⟩
/-- RAIL_FIRE.FIRE_UV_MV (R158). -/
def RAIL_FIRE.FIRE_UV_MV (i : Nat) : Fld := ⟨0x3120 + 64 * i, 0, 8, 0x1E⟩
/-- RAIL_FIRE.FIRE_MAX (R158). -/
def RAIL_FIRE.FIRE_MAX (i : Nat) : Fld := ⟨0x3120 + 64 * i, 8, 8, 0x32⟩
/-- RAIL_FIRE.FIRE_HOLD_US (R158). -/
def RAIL_FIRE.FIRE_HOLD_US (i : Nat) : Fld := ⟨0x3120 + 64 * i, 16, 8, 0x32⟩
/-- RAIL_FIRE.UVF_EN (R158). -/
def RAIL_FIRE.UVF_EN (i : Nat) : Fld := ⟨0x3120 + 64 * i, 24, 1, 1⟩
/-- RAIL_SHED.I_PER_PHASE (R162). -/
def RAIL_SHED.I_PER_PHASE (i : Nat) : Fld := ⟨0x3124 + 64 * i, 0, 8, 0x19⟩
/-- RAIL_SHED.MARGIN (R162). -/
def RAIL_SHED.MARGIN (i : Nat) : Fld := ⟨0x3124 + 64 * i, 8, 4, 4⟩
/-- RAIL_SHED.HOLD_US (R162). -/
def RAIL_SHED.HOLD_US (i : Nat) : Fld := ⟨0x3124 + 64 * i, 12, 12, 0xC8⟩
/-- RAIL_SHED.IMB_A (R162). -/
def RAIL_SHED.IMB_A (i : Nat) : Fld := ⟨0x3124 + 64 * i, 24, 8, 0xA⟩
/-- RAIL_FLT.SHORT (R154). -/
def RAIL_FLT.SHORT (i : Nat) : Fld := ⟨0x3134 + 64 * i, 0, 1, 0⟩
/-- RAIL_FLT.START_TO (R154). -/
def RAIL_FLT.START_TO (i : Nat) : Fld := ⟨0x3134 + 64 * i, 1, 1, 0⟩
/-- RAIL_FLT.OV (R154). -/
def RAIL_FLT.OV (i : Nat) : Fld := ⟨0x3134 + 64 * i, 2, 1, 0⟩
/-- RAIL_FLT.UV (R154). -/
def RAIL_FLT.UV (i : Nat) : Fld := ⟨0x3134 + 64 * i, 3, 1, 0⟩
/-- RAIL_FLT.MASS_LOSS (R154). -/
def RAIL_FLT.MASS_LOSS (i : Nat) : Fld := ⟨0x3134 + 64 * i, 4, 1, 0⟩
/-- RAIL_FLT.CAPACITY (R154). -/
def RAIL_FLT.CAPACITY (i : Nat) : Fld := ⟨0x3134 + 64 * i, 5, 1, 0⟩
/-- RAIL_FLT.FIRE_MAX (R154). -/
def RAIL_FLT.FIRE_MAX (i : Nat) : Fld := ⟨0x3134 + 64 * i, 6, 1, 0⟩
/-- RAIL_CNT.FIRES (R160). -/
def RAIL_CNT.FIRES (i : Nat) : Fld := ⟨0x3138 + 64 * i, 0, 16, 0⟩
/-- RAIL_CNT.SHED_ABORTS (R160). -/
def RAIL_CNT.SHED_ABORTS (i : Nat) : Fld := ⟨0x3138 + 64 * i, 16, 16, 0⟩
/-- RAIL_VSTORE.LO (R141). -/
def RAIL_VSTORE.LO (i : Nat) : Fld := ⟨0x3400 + 4 * i, 0, 10, 0⟩
/-- RAIL_VSTORE.HI (R141). -/
def RAIL_VSTORE.HI (i : Nat) : Fld := ⟨0x3400 + 4 * i, 16, 10, 0⟩
/-- CC_CFG.HEADROOM_A (R188). -/
def CC_CFG.HEADROOM_A : Fld := ⟨0x4000, 0, 10, 0x64⟩
/-- CC_CFG.FF_GAIN (R188). -/
def CC_CFG.FF_GAIN : Fld := ⟨0x4000, 12, 4, 8⟩
/-- CC_CFG.TILE_KEEP (R188). -/
def CC_CFG.TILE_KEEP : Fld := ⟨0x4000, 16, 8, 0⟩
/-- CC_CFG.GRANT_HOLD (R188). -/
def CC_CFG.GRANT_HOLD : Fld := ⟨0x4000, 24, 1, 1⟩
/-- CC_CAP.CAP_A (R188). -/
def CC_CAP.CAP_A : Fld := ⟨0x4004, 0, 13, 0x1FFF⟩
/-- CC_AUDIT.PERIOD_US (R193). -/
def CC_AUDIT.PERIOD_US : Fld := ⟨0x4018, 0, 16, 0x3E8⟩
/-- CC_AUDIT_DELTA.DELTA (R193). -/
def CC_AUDIT_DELTA.DELTA : Fld := ⟨0x401C, 0, 32, 0⟩
/-- CC_ERR.AUDIT (R193). -/
def CC_ERR.AUDIT : Fld := ⟨0x4020, 0, 1, 0⟩
/-- CC_ERR.SPURIOUS_END (R193). -/
def CC_ERR.SPURIOUS_END : Fld := ⟨0x4020, 1, 1, 0⟩
/-- CC_ERR.OP_MAX (R193). -/
def CC_ERR.OP_MAX : Fld := ⟨0x4020, 2, 1, 0⟩
/-- CC_ERR.ORPHAN (R193). -/
def CC_ERR.ORPHAN : Fld := ⟨0x4020, 3, 1, 0⟩
/-- CC_ERR.TILE_LOST (R193). -/
def CC_ERR.TILE_LOST : Fld := ⟨0x4020, 4, 1, 0⟩
/-- CC_ERR.DET_FAIL (R193). -/
def CC_ERR.DET_FAIL : Fld := ⟨0x4020, 5, 1, 0⟩
/-- CC_ERR.MSG_GAP (R193). -/
def CC_ERR.MSG_GAP : Fld := ⟨0x4020, 6, 1, 0⟩
/-- CC_OPMAX.OP_MAX_US (R187). -/
def CC_OPMAX.OP_MAX_US : Fld := ⟨0x4024, 0, 16, 0x2710⟩
/-- DT_CFG.STRETCH_MV (R172). -/
def DT_CFG.STRETCH_MV : Fld := ⟨0x4040, 0, 8, 0x28⟩
/-- DT_CFG.FIRE_MV (R172). -/
def DT_CFG.FIRE_MV : Fld := ⟨0x4040, 8, 8, 0x3C⟩
/-- DT_CFG.HYST_MV (R172). -/
def DT_CFG.HYST_MV : Fld := ⟨0x4040, 16, 4, 4⟩
/-- DT_CFG.UVF_VOTE (R172). -/
def DT_CFG.UVF_VOTE : Fld := ⟨0x4040, 20, 2, 0⟩
/-- DT_CFG.STRETCH_HOLD (R172). -/
def DT_CFG.STRETCH_HOLD : Fld := ⟨0x4040, 24, 8, 0xC⟩
/-- DT_TEST.PERIOD_US (R179). -/
def DT_TEST.PERIOD_US : Fld := ⟨0x4044, 0, 16, 0x3E8⟩
/-- DT_TEST.STUCK_US (R179). -/
def DT_TEST.STUCK_US : Fld := ⟨0x4044, 16, 8, 0x64⟩
/-- CC_LW_SEL.TILE (R198). -/
def CC_LW_SEL.TILE : Fld := ⟨0x4080, 0, 8, 0xFF⟩
/-- CC_COST.COST (R182). -/
def CC_COST.COST (j : Nat) : Fld := ⟨0x4400 + 4 * (j / 4), 8 * (j % 4), 8, 0xFF⟩
/-- TH_CFG.OBS_EN (R233). -/
def TH_CFG.OBS_EN : Fld := ⟨0x5000, 0, 1, 0⟩
/-- TH_CFG.LEGACY (R233). -/
def TH_CFG.LEGACY : Fld := ⟨0x5000, 1, 1, 0⟩
/-- TH_CFG.THR_MODE (R233). -/
def TH_CFG.THR_MODE : Fld := ⟨0x5000, 2, 1, 0⟩
/-- TH_CFG.RF_EN (R233). -/
def TH_CFG.RF_EN : Fld := ⟨0x5000, 3, 1, 0⟩
/-- TH_SD_CFG.DRAIN_US (R251). -/
def TH_SD_CFG.DRAIN_US : Fld := ⟨0x5008, 0, 11, 0x3E8⟩
/-- TH_SD_CFG.TRIP_ON_HARD (R251). -/
def TH_SD_CFG.TRIP_ON_HARD : Fld := ⟨0x5008, 16, 1, 0⟩
/-- TH_TAU.TAU_US (R236). -/
def TH_TAU.TAU_US : Fld := ⟨0x500C, 0, 16, 0xFFFF⟩
/-- TH_TAU.POS (R236). -/
def TH_TAU.POS : Fld := ⟨0x500C, 16, 12, 0⟩
/-- TH_TAU.KIND (R236). -/
def TH_TAU.KIND : Fld := ⟨0x500C, 28, 1, 0⟩
/-- TH_LS_A.T_WARN (R243). -/
def TH_LS_A.T_WARN (i : Nat) : Fld := ⟨0x5010 + 16 * i, 0, 12, 0x5F0⟩
/-- TH_LS_A.T_THR (R243). -/
def TH_LS_A.T_THR (i : Nat) : Fld := ⟨0x5010 + 16 * i, 16, 12, 0x640⟩
/-- TH_LS_B.T_SD (R243). -/
def TH_LS_B.T_SD (i : Nat) : Fld := ⟨0x5014 + 16 * i, 0, 12, 0x690⟩
/-- TH_LS_B.T_LIM (R243). -/
def TH_LS_B.T_LIM (i : Nat) : Fld := ⟨0x5014 + 16 * i, 16, 12, 0x6E0⟩
/-- TH_LS_C.T_TRIP (R243). -/
def TH_LS_C.T_TRIP (i : Nat) : Fld := ⟨0x5018 + 16 * i, 0, 12, 0⟩
/-- TH_LS_C.T_REARM (R243). -/
def TH_LS_C.T_REARM (i : Nat) : Fld := ⟨0x5018 + 16 * i, 16, 12, 0x460⟩
/-- TH_LS_D.R_THR (R243). -/
def TH_LS_D.R_THR (i : Nat) : Fld := ⟨0x501C + 16 * i, 0, 12, 0x280⟩
/-- TH_LS_D.THR_LEVEL (R243). -/
def TH_LS_D.THR_LEVEL (i : Nat) : Fld := ⟨0x501C + 16 * i, 16, 4, 7⟩
/-- TH_LS_D.HYST (R243). -/
def TH_LS_D.HYST (i : Nat) : Fld := ⟨0x501C + 16 * i, 24, 4, 8⟩
/-- TH_XCHK.XC_OBS_C (R239). -/
def TH_XCHK.XC_OBS_C : Fld := ⟨0x5050, 0, 8, 0x30⟩
/-- TH_XCHK.XC_NB_C (R239). -/
def TH_XCHK.XC_NB_C : Fld := ⟨0x5050, 8, 8, 0x40⟩
/-- TH_XCHK.XC_COUNT (R239). -/
def TH_XCHK.XC_COUNT : Fld := ⟨0x5050, 16, 8, 0x10⟩
/-- TH_XCHK.JUMP_C (R239). -/
def TH_XCHK.JUMP_C : Fld := ⟨0x5050, 24, 8, 0x80⟩
/-- TH_FLOW.POLL_MS (R259). -/
def TH_FLOW.POLL_MS : Fld := ⟨0x5054, 0, 8, 0xA⟩
/-- TH_FLOW.LOW_PCT (R259). -/
def TH_FLOW.LOW_PCT : Fld := ⟨0x5054, 8, 7, 0x50⟩
/-- TH_FLOW.MIN_PCT (R259). -/
def TH_FLOW.MIN_PCT : Fld := ⟨0x5054, 16, 7, 0x32⟩
/-- TH_FLOW.MISS_LIMIT (R259). -/
def TH_FLOW.MISS_LIMIT : Fld := ⟨0x5054, 24, 4, 3⟩
/-- TH_FLOW_NOM.NOM_FLOW (R260). -/
def TH_FLOW_NOM.NOM_FLOW : Fld := ⟨0x5058, 0, 16, 0⟩
/-- TH_FLOW_NOM.DEF_COOL (R260). -/
def TH_FLOW_NOM.DEF_COOL : Fld := ⟨0x5058, 16, 12, 0x230⟩
/-- TH_FLOW_STATUS.FLOW (R260). -/
def TH_FLOW_STATUS.FLOW : Fld := ⟨0x505C, 0, 16, 0⟩
/-- TH_FLOW_STATUS.VALID (R260). -/
def TH_FLOW_STATUS.VALID : Fld := ⟨0x505C, 16, 1, 0⟩
/-- TH_FLOW_STATUS.LOW (R260). -/
def TH_FLOW_STATUS.LOW : Fld := ⟨0x505C, 17, 1, 0⟩
/-- TH_FLOW_STATUS.LOST (R260). -/
def TH_FLOW_STATUS.LOST : Fld := ⟨0x505C, 18, 1, 0⟩
/-- TH_OBS_STATUS.NODES (R233). -/
def TH_OBS_STATUS.NODES : Fld := ⟨0x5064, 0, 12, 0⟩
/-- TH_OBS_STATUS.LOADED (R233). -/
def TH_OBS_STATUS.LOADED : Fld := ⟨0x5064, 12, 1, 0⟩
/-- TH_OBS_STATUS.SETTLING (R233). -/
def TH_OBS_STATUS.SETTLING : Fld := ⟨0x5064, 13, 1, 0⟩
/-- TH_OBS_STATUS.REJECT (R233). -/
def TH_OBS_STATUS.REJECT : Fld := ⟨0x5064, 16, 4, 0⟩
/-- TH_OBS_STATUS.DIVERGES (R233). -/
def TH_OBS_STATUS.DIVERGES : Fld := ⟨0x5064, 24, 8, 0⟩
/-- TH_MODEL_ID.ID (R231). -/
def TH_MODEL_ID.ID : Fld := ⟨0x5068, 0, 32, 0⟩
/-- TH_REARM.REASON (R257). -/
def TH_REARM.REASON : Fld := ⟨0x506C, 0, 3, 0⟩
/-- TH_ERR.SNS_SUSPECT (R240). -/
def TH_ERR.SNS_SUSPECT : Fld := ⟨0x5070, 0, 1, 0⟩
/-- TH_ERR.SNS_FAIL (R240). -/
def TH_ERR.SNS_FAIL : Fld := ⟨0x5070, 1, 1, 0⟩
/-- TH_ERR.SIZING_NOREF (R240). -/
def TH_ERR.SIZING_NOREF : Fld := ⟨0x5070, 2, 1, 0⟩
/-- TH_ERR.SIZING_SPREAD (R240). -/
def TH_ERR.SIZING_SPREAD : Fld := ⟨0x5070, 3, 1, 0⟩
/-- TH_ERR.OBS_DIVERGE (R240). -/
def TH_ERR.OBS_DIVERGE : Fld := ⟨0x5070, 4, 1, 0⟩
/-- TH_ERR.LIM_ORDER (R240). -/
def TH_ERR.LIM_ORDER : Fld := ⟨0x5070, 5, 1, 0⟩
/-- TH_ERR.FLOW_LOW (R240). -/
def TH_ERR.FLOW_LOW : Fld := ⟨0x5070, 6, 1, 0⟩
/-- TH_ERR.FLOW_LOST (R240). -/
def TH_ERR.FLOW_LOST : Fld := ⟨0x5070, 7, 1, 0⟩
/-- TH_ERR.WARN (R240). -/
def TH_ERR.WARN : Fld := ⟨0x5070, 8, 1, 0⟩
/-- TH_CNT0.THROTTLES (R246). -/
def TH_CNT0.THROTTLES : Fld := ⟨0x5074, 0, 16, 0⟩
/-- TH_CNT0.WARNS (R246). -/
def TH_CNT0.WARNS : Fld := ⟨0x5074, 16, 16, 0⟩
/-- TH_CNT1.ORDERLY (R253). -/
def TH_CNT1.ORDERLY : Fld := ⟨0x5078, 0, 16, 0⟩
/-- TH_CNT1.HARD (R253). -/
def TH_CNT1.HARD : Fld := ⟨0x5078, 16, 16, 0⟩
/-- TH_SIZE.DONE (R228). -/
def TH_SIZE.DONE : Fld := ⟨0x507C, 0, 1, 0⟩
/-- TH_SIZE.FUSE_ONLY (R228). -/
def TH_SIZE.FUSE_ONLY : Fld := ⟨0x507C, 1, 1, 0⟩
/-- TH_SIZE.WAITED_MS (R228). -/
def TH_SIZE.WAITED_MS : Fld := ⟨0x507C, 16, 16, 0⟩
/-- TH_SNS_SEL.SNS (R227). -/
def TH_SNS_SEL.SNS : Fld := ⟨0x5080, 0, 11, 0⟩
/-- TH_NODE_SEL.NODE (R234). -/
def TH_NODE_SEL.NODE : Fld := ⟨0x5090, 0, 11, 0⟩
/-- TH_RF_CFG.DECIM_MS (R262). -/
def TH_RF_CFG.DECIM_MS : Fld := ⟨0x50B0, 0, 8, 1⟩
/-- TH_RF_CFG.MIN_REV (R262). -/
def TH_RF_CFG.MIN_REV : Fld := ⟨0x50B0, 8, 8, 0x10⟩
/-- TH_RF_CFG.RANGE_STEP (R262). -/
def TH_RF_CFG.RANGE_STEP : Fld := ⟨0x50B0, 16, 4, 4⟩
/-- TH_RF_CFG.MEAN_BASE (R262). -/
def TH_RF_CFG.MEAN_BASE : Fld := ⟨0x50B0, 20, 8, 0x28⟩
/-- TH_RF_CFG.MEAN_STEP (R262). -/
def TH_RF_CFG.MEAN_STEP : Fld := ⟨0x50B0, 28, 4, 4⟩
/-- TH_RF_SEL.REGION (R263). -/
def TH_RF_SEL.REGION : Fld := ⟨0x50B4, 0, 8, 0⟩
/-- TH_RF_SEL.BIN (R263). -/
def TH_RF_SEL.BIN : Fld := ⟨0x50B4, 8, 6, 0⟩
/-- BG_CFG.FELT_EN (R290). -/
def BG_CFG.FELT_EN : Fld := ⟨0x6000, 0, 1, 0⟩
/-- BG_CFG.CROWN_EN (R290). -/
def BG_CFG.CROWN_EN : Fld := ⟨0x6000, 1, 1, 0⟩
/-- BG_CFG.DET_EN (R290). -/
def BG_CFG.DET_EN : Fld := ⟨0x6000, 2, 1, 0⟩
/-- BG_CFG.LAG_MODE (R290). -/
def BG_CFG.LAG_MODE : Fld := ⟨0x6000, 3, 2, 0⟩
/-- BG_CFG.CEIL_LEVEL (R290). -/
def BG_CFG.CEIL_LEVEL : Fld := ⟨0x6000, 8, 4, 7⟩
/-- BG_CFG.MARGIN_PCT (R290). -/
def BG_CFG.MARGIN_PCT : Fld := ⟨0x6000, 16, 8, 3⟩
/-- BG_CFG.GIVE_PCT (R290). -/
def BG_CFG.GIVE_PCT : Fld := ⟨0x6000, 24, 8, 5⟩
/-- BG_EXCH.PERIOD_US (R290). -/
def BG_EXCH.PERIOD_US : Fld := ⟨0x6024, 0, 16, 0x64⟩
/-- BG_EXCH.HYST (R290). -/
def BG_EXCH.HYST : Fld := ⟨0x6024, 16, 8, 0x40⟩
/-- BG_FELT.PEER_TIMEOUT_US (R279). -/
def BG_FELT.PEER_TIMEOUT_US : Fld := ⟨0x6028, 0, 16, 0x3E8⟩
/-- BG_FELT.RETRY_US (R279). -/
def BG_FELT.RETRY_US : Fld := ⟨0x6028, 16, 8, 0x14⟩
/-- BG_FELT.RETRY_MAX (R279). -/
def BG_FELT.RETRY_MAX : Fld := ⟨0x6028, 24, 4, 4⟩
/-- BG_AUDIT.PERIOD_MS (R284). -/
def BG_AUDIT.PERIOD_MS : Fld := ⟨0x602C, 0, 16, 0x3E8⟩
/-- BG_AUDIT.EPOCH (R284). -/
def BG_AUDIT.EPOCH : Fld := ⟨0x602C, 16, 16, 0⟩
/-- BG_W0_CFG.IDLE_A (R270). -/
def BG_W0_CFG.IDLE_A : Fld := ⟨0x6034, 0, 13, 0⟩
/-- BG_CROWN.CROWN_PCT (R271). -/
def BG_CROWN.CROWN_PCT : Fld := ⟨0x604C, 0, 8, 0x19⟩
/-- BG_CROWN.SLACK_PCT (R271). -/
def BG_CROWN.SLACK_PCT : Fld := ⟨0x604C, 8, 8, 5⟩
/-- BG_CROWN.BANK_MIN_MJ (R271). -/
def BG_CROWN.BANK_MIN_MJ : Fld := ⟨0x604C, 16, 16, 0x320⟩
/-- BG_W3_CFG.GUARD_MJ (R273). -/
def BG_W3_CFG.GUARD_MJ : Fld := ⟨0x6050, 0, 16, 0x64⟩
/-- BG_LAG.LAG_UNITS (R293). -/
def BG_LAG.LAG_UNITS : Fld := ⟨0x6054, 0, 16, 0x40⟩
/-- BG_LAG.CONFIRM (R293). -/
def BG_LAG.CONFIRM : Fld := ⟨0x6054, 16, 4, 3⟩
/-- BG_LAG.PACE_MARGIN (R293). -/
def BG_LAG.PACE_MARGIN : Fld := ⟨0x6054, 20, 4, 1⟩
/-- BG_VIEW_MIN.ANGLE (R291). -/
def BG_VIEW_MIN.ANGLE : Fld := ⟨0x6058, 0, 32, 0⟩
/-- BG_VIEW_MAX.ANGLE (R291). -/
def BG_VIEW_MAX.ANGLE : Fld := ⟨0x605C, 0, 32, 0⟩
/-- BG_VIEW_INFO.PEER (R291). -/
def BG_VIEW_INFO.PEER : Fld := ⟨0x6060, 0, 14, 0⟩
/-- BG_VIEW_INFO.CAUSE (R291). -/
def BG_VIEW_INFO.CAUSE : Fld := ⟨0x6060, 14, 2, 0⟩
/-- BG_VIEW_INFO.LEVEL (R291). -/
def BG_VIEW_INFO.LEVEL : Fld := ⟨0x6060, 16, 4, 0⟩
/-- BG_VIEW_INFO.VALID (R291). -/
def BG_VIEW_INFO.VALID : Fld := ⟨0x6060, 20, 1, 0⟩
/-- BG_DET.LEAD (R296). -/
def BG_DET.LEAD : Fld := ⟨0x6064, 0, 8, 8⟩
/-- BG_DET.UP_PCT (R296). -/
def BG_DET.UP_PCT : Fld := ⟨0x6064, 8, 8, 0xA⟩
/-- BG_DET.SHORT_CONFIRM (R296). -/
def BG_DET.SHORT_CONFIRM : Fld := ⟨0x6064, 16, 8, 3⟩
/-- BG_DET.UP_HOLD_MS (R296). -/
def BG_DET.UP_HOLD_MS : Fld := ⟨0x6064, 24, 8, 0x64⟩
/-- BG_PLAN_ID.ID (R294). -/
def BG_PLAN_ID.ID : Fld := ⟨0x6068, 0, 32, 0⟩
/-- BG_DET_CNT.STEPDOWNS (R296). -/
def BG_DET_CNT.STEPDOWNS : Fld := ⟨0x606C, 0, 16, 0⟩
/-- BG_DET_CNT.BROKEN (R296). -/
def BG_DET_CNT.BROKEN : Fld := ⟨0x606C, 16, 16, 0⟩
/-- BG_ERR.W0_OVER (R308). -/
def BG_ERR.W0_OVER : Fld := ⟨0x6070, 0, 1, 0⟩
/-- BG_ERR.W1_OVER (R308). -/
def BG_ERR.W1_OVER : Fld := ⟨0x6070, 1, 1, 0⟩
/-- BG_ERR.W2_OVER (R308). -/
def BG_ERR.W2_OVER : Fld := ⟨0x6070, 2, 1, 0⟩
/-- BG_ERR.W3_STOP (R308). -/
def BG_ERR.W3_STOP : Fld := ⟨0x6070, 3, 1, 0⟩
/-- BG_ERR.AUDIT (R308). -/
def BG_ERR.AUDIT : Fld := ⟨0x6070, 4, 1, 0⟩
/-- BG_ERR.PEER_LOST (R308). -/
def BG_ERR.PEER_LOST : Fld := ⟨0x6070, 5, 1, 0⟩
/-- BG_ERR.ORPHAN (R308). -/
def BG_ERR.ORPHAN : Fld := ⟨0x6070, 6, 1, 0⟩
/-- BG_ERR.LINK_DOWN (R308). -/
def BG_ERR.LINK_DOWN : Fld := ⟨0x6070, 7, 1, 0⟩
/-- BG_ERR.TOTAL_FAULT (R308). -/
def BG_ERR.TOTAL_FAULT : Fld := ⟨0x6070, 8, 1, 0⟩
/-- BG_ERR.BAD_MSG (R308). -/
def BG_ERR.BAD_MSG : Fld := ⟨0x6070, 9, 1, 0⟩
/-- BG_ERR.BOTH_RESET (R308). -/
def BG_ERR.BOTH_RESET : Fld := ⟨0x6070, 10, 1, 0⟩
/-- BG_ERR.RPT_DROP (R308). -/
def BG_ERR.RPT_DROP : Fld := ⟨0x6070, 11, 1, 0⟩
/-- BG_ERR.ACCT_WB (R308). -/
def BG_ERR.ACCT_WB : Fld := ⟨0x6070, 12, 1, 0⟩
/-- BG_ERR.ACCT_CORRUPT (R308). -/
def BG_ERR.ACCT_CORRUPT : Fld := ⟨0x6070, 13, 1, 0⟩
/-- BG_ERR.UNMAPPED (R308). -/
def BG_ERR.UNMAPPED : Fld := ⟨0x6070, 14, 1, 0⟩
/-- BG_ERR.DET_BROKEN (R308). -/
def BG_ERR.DET_BROKEN : Fld := ⟨0x6070, 15, 1, 0⟩
/-- BG_ERR.DET_PLAN (R308). -/
def BG_ERR.DET_PLAN : Fld := ⟨0x6070, 16, 1, 0⟩
/-- BG_ERR.ESTIMATED (R308). -/
def BG_ERR.ESTIMATED : Fld := ⟨0x6070, 17, 1, 0⟩
/-- BG_ERR_PEER.PEER (R277). -/
def BG_ERR_PEER.PEER : Fld := ⟨0x6074, 0, 14, 0⟩
/-- BG_RPT_CONS.INDEX (R307). -/
def BG_RPT_CONS.INDEX : Fld := ⟨0x608C, 0, 32, 0⟩
/-- BG_RPT_DROP.SEC (R307). -/
def BG_RPT_DROP.SEC : Fld := ⟨0x6090, 0, 16, 0⟩
/-- BG_RPT_DROP.MIN (R307). -/
def BG_RPT_DROP.MIN : Fld := ⟨0x6090, 16, 16, 0⟩
/-- BG_ACCT_CFG.WB_MS (R301). -/
def BG_ACCT_CFG.WB_MS : Fld := ⟨0x609C, 0, 16, 0x64⟩
/-- BG_LINK_SEL.LINK (R276). -/
def BG_LINK_SEL.LINK : Fld := ⟨0x60C0, 0, 6, 0⟩
/-- BG_QBIND.QUEUE (R299). -/
def BG_QBIND.QUEUE (i : Nat) : Fld := ⟨0x6400 + 4 * i, 0, 18, 0⟩
/-- BG_QBIND.VALID (R299). -/
def BG_QBIND.VALID (i : Nat) : Fld := ⟨0x6400 + 4 * i, 31, 1, 0⟩
/-- OBS_FRZ_CFG.SNAP_EN (R430). -/
def OBS_FRZ_CFG.SNAP_EN : Fld := ⟨0x7000, 0, 1, 1⟩
/-- OBS_FRZ_CFG.GSTOP (R430). -/
def OBS_FRZ_CFG.GSTOP : Fld := ⟨0x7000, 1, 1, 0⟩
/-- OBS_FRZ_CFG.ON_HARD (R430). -/
def OBS_FRZ_CFG.ON_HARD : Fld := ⟨0x7000, 2, 1, 0⟩
/-- OBS_FRZ_CFG.ON_HUBFLT (R430). -/
def OBS_FRZ_CFG.ON_HUBFLT : Fld := ⟨0x7000, 3, 1, 0⟩
/-- OBS_FRZ_CFG.AT_EN (R430). -/
def OBS_FRZ_CFG.AT_EN : Fld := ⟨0x7000, 4, 1, 0⟩
/-- OBS_FRZ_STATUS.FROZEN (R430). -/
def OBS_FRZ_STATUS.FROZEN : Fld := ⟨0x7004, 0, 1, 0⟩
/-- OBS_FRZ_STATUS.ARMED (R430). -/
def OBS_FRZ_STATUS.ARMED : Fld := ⟨0x7004, 1, 1, 0⟩
/-- OBS_FRZ_STATUS.SETTLED (R430). -/
def OBS_FRZ_STATUS.SETTLED : Fld := ⟨0x7004, 2, 1, 0⟩
/-- OBS_FRZ_STATUS.SNAP_VALID (R430). -/
def OBS_FRZ_STATUS.SNAP_VALID : Fld := ⟨0x7004, 3, 1, 0⟩
/-- OBS_FRZ_STATUS.SNAP_KEPT (R430). -/
def OBS_FRZ_STATUS.SNAP_KEPT : Fld := ⟨0x7004, 4, 1, 0⟩
/-- OBS_FRZ_STATUS.LATE (R430). -/
def OBS_FRZ_STATUS.LATE : Fld := ⟨0x7004, 5, 1, 0⟩
/-- OBS_FRZ_STATUS.SCAN_BUSY (R430). -/
def OBS_FRZ_STATUS.SCAN_BUSY : Fld := ⟨0x7004, 6, 1, 0⟩
/-- OBS_FRZ_STATUS.SOURCE (R430). -/
def OBS_FRZ_STATUS.SOURCE : Fld := ⟨0x7004, 8, 4, 0⟩
/-- OBS_FRZ_STATUS.QUALITY (R430). -/
def OBS_FRZ_STATUS.QUALITY : Fld := ⟨0x7004, 12, 3, 0⟩
/-- OBS_FRZ_STATUS.WATCH (R430). -/
def OBS_FRZ_STATUS.WATCH : Fld := ⟨0x7004, 16, 5, 0⟩
/-- OBS_FRZ_STATUS.COUNT (R430). -/
def OBS_FRZ_STATUS.COUNT : Fld := ⟨0x7004, 24, 8, 0⟩
/-- OBS_FRZ_AT_LO.TIME (R430). -/
def OBS_FRZ_AT_LO.TIME : Fld := ⟨0x7008, 0, 32, 0⟩
/-- OBS_FRZ_AT_HI.TIME (R430). -/
def OBS_FRZ_AT_HI.TIME : Fld := ⟨0x700C, 0, 32, 0⟩
/-- OBS_FRZ_TS_LO.TS (R439). -/
def OBS_FRZ_TS_LO.TS : Fld := ⟨0x7010, 0, 32, 0⟩
/-- OBS_FRZ_TS_HI.TS (R439). -/
def OBS_FRZ_TS_HI.TS : Fld := ⟨0x7014, 0, 32, 0⟩
/-- OBS_SNAP_TS_LO.TS (R435). -/
def OBS_SNAP_TS_LO.TS : Fld := ⟨0x7018, 0, 32, 0⟩
/-- OBS_SNAP_TS_HI.TS (R435). -/
def OBS_SNAP_TS_HI.TS : Fld := ⟨0x701C, 0, 32, 0⟩
/-- OBS_SNAP_FRAME.FRAME (R435). -/
def OBS_SNAP_FRAME.FRAME : Fld := ⟨0x7020, 0, 32, 0⟩
/-- OBS_OP_SEL.CODE (R422). -/
def OBS_OP_SEL.CODE : Fld := ⟨0x7040, 0, 8, 0⟩
/-- OBS_LO_SEL.ENTRY (R423). -/
def OBS_LO_SEL.ENTRY : Fld := ⟨0x7060, 0, 10, 0⟩
/-- OBS_W_SEL.WATCH (R427). -/
def OBS_W_SEL.WATCH : Fld := ⟨0x7080, 0, 5, 0⟩
/-- OBS_W_ANY.TRIG (R428). -/
def OBS_W_ANY.TRIG : Fld := ⟨0x70B0, 0, 32, 0⟩
/-- SP_STATUS.RECORDS (R403). -/
def SP_STATUS.RECORDS : Fld := ⟨0x8000, 0, 11, 0⟩
/-- SP_STATUS.FULL (R403). -/
def SP_STATUS.FULL : Fld := ⟨0x8000, 11, 1, 0⟩
/-- SP_STATUS.VOID (R403). -/
def SP_STATUS.VOID : Fld := ⟨0x8000, 12, 8, 0⟩
/-- SP_STATUS.CORRECTED (R403). -/
def SP_STATUS.CORRECTED : Fld := ⟨0x8000, 20, 8, 0⟩
/-- SP_STATUS.OVERFLOW (R403). -/
def SP_STATUS.OVERFLOW : Fld := ⟨0x8000, 28, 1, 0⟩
/-- SP_STATUS.IGNORED (R403). -/
def SP_STATUS.IGNORED : Fld := ⟨0x8000, 29, 1, 0⟩
/-- SP_CFG.ROW_CE_LIMIT (R411). -/
def SP_CFG.ROW_CE_LIMIT : Fld := ⟨0x8004, 0, 4, 4⟩
/-- SP_ROWS.H0_STATE (R409). -/
def SP_ROWS.H0_STATE : Fld := ⟨0x8008, 0, 7, 0⟩
/-- SP_ROWS.H0_FW (R409). -/
def SP_ROWS.H0_FW : Fld := ⟨0x8008, 7, 5, 0⟩
/-- SP_ROWS.H1_STATE (R409). -/
def SP_ROWS.H1_STATE : Fld := ⟨0x8008, 16, 7, 0⟩
/-- SP_ROWS.H1_FW (R409). -/
def SP_ROWS.H1_FW : Fld := ⟨0x8008, 23, 5, 0⟩
/-- SP_LANE.FAILED (R412). -/
def SP_LANE.FAILED (i : Nat) : Fld := ⟨0x8010 + 4 * i, 0, 18, 0⟩
/-- SP_FUSE_SEL.WORD (R405). -/
def SP_FUSE_SEL.WORD : Fld := ⟨0x8020, 0, 12, 0⟩
/-- SP_WEAR_RW.RW (R416). -/
def SP_WEAR_RW.RW (j : Nat) : Fld := ⟨0x8040 + 4 * (j / 4), 8 * (j % 4), 8, (0xFFE1C4A9907964514031241910090401 >>> (8 * j)) % 256⟩
/-- SP_WEAR_MW.MW (R416). -/
def SP_WEAR_MW.MW (j : Nat) : Fld := ⟨0x8050, 8 * j, 8, (0x20181008 >>> (8 * j)) % 256⟩
/-- SP_WEAR_SEL.REGION (R416). -/
def SP_WEAR_SEL.REGION : Fld := ⟨0x8054, 0, 8, 0⟩
/-- SP_WEAR_LO.WEAR (R416). -/
def SP_WEAR_LO.WEAR : Fld := ⟨0x8058, 0, 32, 0⟩
/-- SP_WEAR_HI.WEAR (R416). -/
def SP_WEAR_HI.WEAR : Fld := ⟨0x805C, 0, 32, 0⟩
/-- SP_PORT_SEL.PORT (R417). -/
def SP_PORT_SEL.PORT : Fld := ⟨0x8060, 0, 8, 0⟩
/-- DU_LAG.NOW_NS (R365). -/
def DU_LAG.NOW_NS : Fld := ⟨0x9008, 0, 16, 0⟩
/-- DU_LAG.MAX_NS (R365). -/
def DU_LAG.MAX_NS : Fld := ⟨0x9008, 16, 16, 0⟩
/-- DU_CNT.TAKEOVERS (R369). -/
def DU_CNT.TAKEOVERS : Fld := ⟨0x900C, 0, 8, 0⟩
/-- DU_CNT.MIRROR_LOSSES (R369). -/
def DU_CNT.MIRROR_LOSSES : Fld := ⟨0x900C, 8, 8, 0⟩
/-- DU_CNT.HUB_FAULTS (R369). -/
def DU_CNT.HUB_FAULTS : Fld := ⟨0x900C, 16, 8, 0⟩
/-- DU_FAULT.LANE (R362). -/
def DU_FAULT.LANE : Fld := ⟨0x9010, 0, 1, 0⟩
/-- DU_FAULT.STATE_UE (R362). -/
def DU_FAULT.STATE_UE : Fld := ⟨0x9010, 1, 1, 0⟩
/-- DU_FAULT.MSG_UE (R362). -/
def DU_FAULT.MSG_UE : Fld := ⟨0x9010, 2, 1, 0⟩
/-- DU_FAULT.RC_LOSS (R362). -/
def DU_FAULT.RC_LOSS : Fld := ⟨0x9010, 3, 1, 0⟩
/-- DU_FAULT.PLL_LOSS (R362). -/
def DU_FAULT.PLL_LOSS : Fld := ⟨0x9010, 4, 1, 0⟩
/-- DU_FAULT.PC_RESIDUE (R362). -/
def DU_FAULT.PC_RESIDUE : Fld := ⟨0x9010, 5, 1, 0⟩
/-- DU_FAULT.FRAME_WD (R362). -/
def DU_FAULT.FRAME_WD : Fld := ⟨0x9010, 6, 1, 0⟩
/-- DU_FAULT.HB_LOST (R362). -/
def DU_FAULT.HB_LOST : Fld := ⟨0x9010, 7, 1, 0⟩
/-- DU_FAULT.MIRROR_LOST (R362). -/
def DU_FAULT.MIRROR_LOST : Fld := ⟨0x9010, 8, 1, 0⟩
/-- DU_FAULT.LINK (R362). -/
def DU_FAULT.LINK : Fld := ⟨0x9010, 9, 1, 0⟩
/-- DU_FAULT.FORCED (R362). -/
def DU_FAULT.FORCED : Fld := ⟨0x9010, 10, 1, 0⟩
/-- DU_FAULT.NO_COVER (R362). -/
def DU_FAULT.NO_COVER : Fld := ⟨0x9010, 11, 1, 0⟩
/-- DU_TKO_TS_LO.TS (R369). -/
def DU_TKO_TS_LO.TS : Fld := ⟨0x9014, 0, 32, 0⟩
/-- DU_TKO_TS_HI.TS (R369). -/
def DU_TKO_TS_HI.TS : Fld := ⟨0x9018, 0, 32, 0⟩
/-- FW_RESTARTS.SEC (R359). -/
def FW_RESTARTS.SEC : Fld := ⟨0x9104, 0, 8, 0⟩
/-- FW_RESTARTS.PWR (R359). -/
def FW_RESTARTS.PWR : Fld := ⟨0x9104, 8, 8, 0⟩
/-- FW_RESTARTS.SCHED (R359). -/
def FW_RESTARTS.SCHED : Fld := ⟨0x9104, 16, 8, 0⟩
/-- FW_RESTARTS.TILE (R359). -/
def FW_RESTARTS.TILE : Fld := ⟨0x9104, 24, 8, 0⟩
/-- FW_CFG.RESTART_LIMIT (R359). -/
def FW_CFG.RESTART_LIMIT : Fld := ⟨0x910C, 0, 4, 3⟩
/-- FW_CFG.AUTO_RESTART (R359). -/
def FW_CFG.AUTO_RESTART : Fld := ⟨0x910C, 4, 1, 1⟩
/-- FW_REJECT.REASON (R353). -/
def FW_REJECT.REASON : Fld := ⟨0x9110, 0, 4, 0⟩
/-- FW_REJECT.KIND (R353). -/
def FW_REJECT.KIND : Fld := ⟨0x9110, 4, 4, 0⟩
/-- FW_IMAGE.ID (R354). -/
def FW_IMAGE.ID (i : Nat) : Fld := ⟨0x9120 + 4 * i, 0, 32, 0⟩

end Sys2Proof.Machine.Reg

namespace Sys2Proof.Machine

/-- Registers by offset, part 0 (spec/15_register_index.md). -/
def regTable0 : List RegDef := [
  ⟨0x0000, 4, fun _ => 1, [⟨0, 32, 1, .ro, false, .none, fun _ _ => 0x00040201⟩]⟩,
  ⟨0x0004, 4, fun _ => 1, [⟨0, 32, 1, .ro, false, .none, fun _ _ => 0⟩]⟩,
  ⟨0x0008, 4, fun _ => 1, [⟨0, 32, 1, .ro, false, .none, fun _ _ => 0⟩]⟩,
  ⟨0x0100, 4, fun _ => 1, [⟨0, 4, 1, .ro, true, .none, fun _ _ => 0⟩, ⟨4, 1, 1, .ro, true, .none, fun _ _ => 0⟩, ⟨5, 1, 1, .ro, true, .none, fun _ _ => 0⟩, ⟨6, 1, 1, .ro, true, .none, fun _ _ => 0⟩, ⟨7, 1, 1, .ro, true, .none, fun _ _ => 0⟩, ⟨8, 4, 1, .ro, true, .none, fun _ _ => 0⟩, ⟨12, 8, 1, .ro, true, .none, fun _ _ => 0⟩]⟩,
  ⟨0x0104, 4, fun _ => 1, [⟨0, 1, 1, .w1c, true, .none, fun _ _ => 1⟩, ⟨1, 1, 1, .w1c, true, .none, fun _ _ => 0⟩, ⟨2, 1, 1, .w1c, true, .none, fun _ _ => 0⟩, ⟨3, 1, 1, .w1c, true, .none, fun _ _ => 0⟩, ⟨8, 8, 1, .ro, true, .none, fun _ _ => 0⟩]⟩,
  ⟨0x0108, 4, fun _ => 1, [⟨0, 2, 1, .ro, true, .none, fun _ _ => 0⟩, ⟨2, 2, 1, .ro, true, .none, fun _ _ => 0⟩, ⟨4, 1, 1, .ro, true, .none, fun _ _ => 0⟩, ⟨5, 1, 1, .ro, true, .none, fun _ _ => 0⟩]⟩,
  ⟨0x010C, 4, fun _ => 1, [⟨1, 8, 1, .rw, true, .none, fun _ _ => 0⟩, ⟨17, 8, 1, .ro, false, .none, fun _ _ => 0⟩]⟩,
  ⟨0x0110, 4, fun _ => 1, [⟨0, 8, 1, .rw, true, .clamp 1 128, fun _ _ => 0x10⟩, ⟨8, 8, 1, .rw, true, .none, fun _ _ => 0x14⟩, ⟨16, 12, 1, .rw, true, .clamp 1 4095, fun _ _ => 0x064⟩]⟩,
  ⟨0x0114, 4, fun _ => 1, [⟨0, 4, 1, .ro, true, .none, fun _ _ => 0⟩, ⟨4, 1, 1, .ro, true, .none, fun _ _ => 0⟩, ⟨16, 12, 1, .ro, true, .none, fun _ _ => 0⟩]⟩,
  ⟨0x0118, 4, fun _ => 1, [⟨0, 32, 1, .ro, true, .none, fun _ _ => 0⟩]⟩,
  ⟨0x011C, 4, fun _ => 1, [⟨0, 32, 1, .ro, true, .none, fun _ _ => 0⟩]⟩,
  ⟨0x0120, 4, fun _ => 1, [⟨0, 32, 1, .ro, true, .none, fun _ _ => 0⟩]⟩,
  ⟨0x0124, 4, fun _ => 1, [⟨0, 1, 1, .ro, true, .none, fun _ _ => 0⟩, ⟨8, 8, 1, .ro, true, .none, fun _ _ => 0⟩, ⟨16, 8, 1, .ro, true, .none, fun _ _ => 0⟩]⟩,
  ⟨0x0130, 4, fun _ => 4, [⟨0, 32, 1, .ro, true, .none, fun _ _ => 0⟩]⟩,
  ⟨0x0400, 4, fun _ => 1, [⟨0, 8, 1, .rw, true, .none, fun _ _ => 0x10⟩]⟩,
  ⟨0x0404, 4, fun _ => 1, [⟨0, 32, 1, .ro, false, .none, fun _ _ => 0x400⟩]⟩,
  ⟨0x0408, 4, fun _ => 1, [⟨0, 32, 1, .ro, false, .none, fun _ _ => 0⟩]⟩,
  ⟨0x040C, 4, fun _ => 1, [⟨0, 32, 1, .ro, false, .none, fun _ _ => 0⟩]⟩,
  ⟨0x0410, 4, fun _ => 1, [⟨0, 28, 1, .ro, false, .none, fun _ _ => 0⟩]⟩,
  ⟨0x0414, 4, fun _ => 1, [⟨0, 10, 1, .ro, true, .none, fun _ _ => 0⟩]⟩,
  ⟨0x0418, 4, fun _ => 1, [⟨0, 1, 1, .w1c, true, .none, fun _ _ => 0⟩, ⟨1, 1, 1, .w1c, true, .none, fun _ _ => 0⟩, ⟨2, 1, 1, .w1c, true, .none, fun _ _ => 0⟩, ⟨3, 1, 1, .w1c, true, .none, fun _ _ => 0⟩, ⟨4, 1, 1, .w1c, true, .none, fun _ _ => 0⟩, ⟨5, 1, 1, .w1c, true, .none, fun _ _ => 0⟩, ⟨6, 1, 1, .w1c, true, .none, fun _ _ => 0⟩, ⟨7, 1, 1, .w1c, true, .none, fun _ _ => 0⟩]⟩,
  ⟨0x041C, 4, fun _ => 1, [⟨0, 16, 1, .ro, true, .none, fun _ _ => 0⟩, ⟨16, 16, 1, .ro, true, .none, fun _ _ => 0⟩]⟩,
  ⟨0x0440, 4, fun _ => 1, [⟨0, 1, 1, .su, true, .none, fun _ _ => 0⟩, ⟨1, 3, 1, .su, true, .none, fun _ _ => 3⟩, ⟨8, 8, 1, .su, true, .none, fun _ _ => 0x10⟩, ⟨16, 16, 1, .su, true, .none, fun _ _ => 0x000A⟩]⟩,
  ⟨0x0444, 4, fun _ => 1, [⟨0, 32, 1, .ro, false, .none, fun _ _ => 0⟩]⟩,
  ⟨0x0448, 4, fun _ => 1, [⟨0, 32, 1, .ro, false, .none, fun _ _ => 0⟩]⟩,
  ⟨0x044C, 4, fun _ => 1, [⟨0, 32, 1, .ro, false, .none, fun _ _ => 0⟩]⟩,
  ⟨0x0450, 4, fun _ => 1, [⟨0, 32, 1, .ro, false, .none, fun _ _ => 0⟩]⟩,
  ⟨0x0454, 4, fun _ => 1, [⟨0, 32, 1, .ro, false, .none, fun _ _ => 0⟩]⟩,
  ⟨0x0458, 4, fun _ => 1, [⟨0, 32, 1, .ro, false, .none, fun _ _ => 0⟩]⟩,
  ⟨0x045C, 4, fun _ => 1, [⟨0, 8, 1, .ro, true, .none, fun _ _ => 0⟩, ⟨8, 8, 1, .ro, true, .none, fun _ _ => 0⟩, ⟨16, 8, 1, .ro, true, .none, fun _ _ => 0⟩, ⟨24, 8, 1, .ro, true, .none, fun _ _ => 0⟩]⟩,
  ⟨0x0480, 4, fun _ => 1, [⟨0, 8, 1, .su, true, .none, fun _ _ => 0x27⟩, ⟨8, 8, 1, .su, true, .clamp 1 255, fun _ _ => 2⟩, ⟨16, 4, 1, .su, true, .clamp 1 15, fun _ _ => 5⟩]⟩,
  ⟨0x0484, 4, fun _ => 1, [⟨0, 12, 1, .ro, true, .none, fun _ _ => 0⟩, ⟨16, 12, 1, .w1c, true, .none, fun _ _ => 0⟩]⟩,
  ⟨0x0800, 4, fun _ => 1, [⟨0, 1, 1, .rw, true, .none, fun _ _ => 0⟩, ⟨12, 20, 1, .rw, true, .none, fun _ _ => 0⟩]⟩,
  ⟨0x0804, 4, fun _ => 1, [⟨0, 32, 1, .rw, true, .none, fun _ _ => 0⟩]⟩,
  ⟨0x0808, 4, fun _ => 1, [⟨0, 7, 1, .rw, true, .clamp 1 64, fun _ _ => 4⟩]⟩,
  ⟨0x080C, 4, fun _ => 1, [⟨0, 32, 1, .ro, false, .none, fun _ _ => 0⟩]⟩,
  ⟨0x0810, 4, fun _ => 1, [⟨12, 20, 1, .rw, true, .none, fun _ _ => 0⟩]⟩,
  ⟨0x0814, 4, fun _ => 1, [⟨0, 32, 1, .rw, true, .none, fun _ _ => 0⟩]⟩,
  ⟨0x0818, 4, fun _ => 1, [⟨0, 5, 1, .rw, true, .clamp 6 16, fun _ _ => 6⟩, ⟨8, 1, 1, .rw, true, .none, fun _ _ => 0⟩]⟩,
  ⟨0x081C, 4, fun _ => 1, [⟨0, 32, 1, .ro, true, .none, fun _ _ => 0⟩]⟩]

/-- Registers by offset, part 1 (spec/15_register_index.md). -/
def regTable1 : List RegDef := [
  ⟨0x0820, 4, fun _ => 1, [⟨12, 20, 1, .rw, true, .none, fun _ _ => 0⟩]⟩,
  ⟨0x0824, 4, fun _ => 1, [⟨0, 32, 1, .rw, true, .none, fun _ _ => 0⟩]⟩,
  ⟨0x0828, 4, fun _ => 1, [⟨0, 5, 1, .rw, true, .clamp 6 16, fun _ _ => 6⟩, ⟨8, 1, 1, .rw, true, .none, fun _ _ => 0⟩, ⟨16, 16, 1, .rw, true, .zeroOrMin 10, fun _ _ => 0⟩]⟩,
  ⟨0x082C, 4, fun _ => 1, [⟨0, 32, 1, .ro, true, .none, fun _ _ => 0⟩]⟩,
  ⟨0x0830, 4, fun _ => 1, [⟨0, 1, 1, .w1c, true, .none, fun _ _ => 0⟩, ⟨1, 1, 1, .w1c, true, .none, fun _ _ => 0⟩, ⟨2, 1, 1, .w1c, true, .none, fun _ _ => 0⟩, ⟨3, 1, 1, .w1c, true, .none, fun _ _ => 0⟩, ⟨4, 1, 1, .w1c, true, .none, fun _ _ => 0⟩, ⟨5, 1, 1, .w1c, true, .none, fun _ _ => 0⟩]⟩,
  ⟨0x0834, 4, fun _ => 1, [⟨0, 6, 1, .ro, true, .none, fun _ _ => 0⟩]⟩,
  ⟨0x0838, 4, fun _ => 1, [⟨0, 32, 1, .ro, true, .none, fun _ _ => 0⟩]⟩,
  ⟨0x083C, 4, fun _ => 1, [⟨0, 32, 1, .ro, true, .none, fun _ _ => 0⟩]⟩,
  ⟨0x0A00, 16, fun _ => 64, [⟨12, 20, 1, .rw, true, .none, fun _ _ => 0⟩]⟩,
  ⟨0x0A04, 16, fun _ => 64, [⟨0, 32, 1, .rw, true, .none, fun _ _ => 0⟩]⟩,
  ⟨0x0A08, 16, fun _ => 64, [⟨0, 1, 1, .rw, true, .none, fun _ _ => 0⟩, ⟨1, 1, 1, .rw, true, .none, fun _ _ => 0⟩, ⟨2, 1, 1, .rw, true, .none, fun _ _ => 0⟩, ⟨8, 4, 1, .rw, true, .clamp 4 12, fun _ _ => 4⟩]⟩,
  ⟨0x0A0C, 16, fun _ => 64, [⟨0, 32, 1, .ro, false, .none, fun _ _ => 0x04000000⟩]⟩,
  ⟨0x0F00, 4, fun _ => 1, [⟨0, 16, 1, .rw, true, .none, fun _ _ => 0x64⟩, ⟨16, 9, 1, .rw, true, .maxOut, fun _ _ => 0x100⟩]⟩,
  ⟨0x0F04, 4, fun _ => 1, [⟨0, 1, 1, .w1c, true, .none, fun _ _ => 0⟩, ⟨1, 1, 1, .w1c, true, .none, fun _ _ => 0⟩, ⟨2, 1, 1, .w1c, true, .none, fun _ _ => 0⟩, ⟨3, 1, 1, .w1c, true, .none, fun _ _ => 0⟩, ⟨4, 1, 1, .w1c, true, .none, fun _ _ => 0⟩, ⟨5, 1, 1, .w1c, true, .none, fun _ _ => 0⟩, ⟨6, 1, 1, .w1c, true, .none, fun _ _ => 0⟩]⟩,
  ⟨0x0F08, 4, fun _ => 1, [⟨0, 32, 1, .ro, true, .none, fun _ _ => 0⟩]⟩,
  ⟨0x0F0C, 4, fun _ => 1, [⟨0, 32, 1, .ro, true, .none, fun _ _ => 0⟩]⟩,
  ⟨0x0F10, 4, fun _ => 1, [⟨0, 9, 1, .ro, false, .none, fun _ _ => 0⟩]⟩,
  ⟨0x1000, 64, fun _ => 4, [⟨0, 32, 1, .wo, false, .none, fun _ _ => 0⟩]⟩,
  ⟨0x1004, 64, fun _ => 4, [⟨0, 32, 1, .ro, false, .none, fun _ _ => 0⟩]⟩,
  ⟨0x1008, 64, fun _ => 4, [⟨0, 5, 1, .ro, false, .none, fun _ _ => 0⟩]⟩,
  ⟨0x100C, 64, fun _ => 4, [⟨0, 32, 1, .wo, false, .none, fun _ _ => 0⟩]⟩,
  ⟨0x1010, 64, fun _ => 4, [⟨0, 32, 1, .w1c, true, .none, fun _ _ => 0⟩]⟩,
  ⟨0x1014, 64, fun _ => 4, [⟨0, 32, 1, .rw, true, .none, fun _ _ => 0xFFFFFFFF⟩]⟩,
  ⟨0x1018, 64, fun _ => 4, [⟨0, 8, 1, .ro, true, .none, fun _ _ => 0⟩, ⟨8, 8, 1, .ro, true, .none, fun _ _ => 0⟩, ⟨16, 8, 1, .ro, true, .none, fun _ _ => 0⟩]⟩,
  ⟨0x2000, 4, fun _ => 1, [⟨0, 32, 1, .ro, false, .none, fun _ _ => 0x3FFFF⟩]⟩,
  ⟨0x2004, 4, fun _ => 1, [⟨0, 16, 1, .wo, false, .none, fun _ _ => 0⟩, ⟨16, 1, 1, .wo, false, .none, fun _ _ => 0⟩]⟩,
  ⟨0x2008, 4, fun _ => 1, [⟨0, 16, 1, .wo, false, .none, fun _ _ => 0⟩, ⟨16, 1, 1, .wo, false, .none, fun _ _ => 0⟩]⟩,
  ⟨0x200C, 4, fun _ => 1, [⟨0, 16, 1, .w1c, true, .none, fun _ _ => 0⟩, ⟨16, 1, 1, .w1c, true, .none, fun _ _ => 0⟩, ⟨17, 15, 1, .w1c, true, .none, fun _ _ => 0⟩]⟩,
  ⟨0x2010, 4, fun _ => 1, [⟨0, 10, 1, .ro, true, .none, fun _ _ => 0⟩, ⟨16, 4, 1, .ro, true, .none, fun _ _ => 0⟩, ⟨20, 4, 1, .ro, true, .none, fun _ _ => 0⟩]⟩,
  ⟨0x2014, 4, fun _ => 1, [⟨0, 12, 1, .su, true, .clamp 1 4095, fun _ _ => 0x800⟩]⟩,
  ⟨0x2018, 4, fun _ => 1, [⟨0, 32, 1, .ro, true, .none, fun _ _ => 0⟩]⟩,
  ⟨0x201C, 4, fun _ => 1, [⟨0, 1, 1, .w1c, true, .none, fun _ _ => 0⟩, ⟨1, 1, 1, .w1c, true, .none, fun _ _ => 0⟩]⟩,
  ⟨0x2020, 4, fun _ => 1, [⟨0, 4, 1, .rw, true, .none, fun _ _ => 0⟩]⟩,
  ⟨0x2024, 4, fun _ => 1, [⟨0, 12, 1, .rw, true, .none, fun _ _ => 0⟩]⟩,
  ⟨0x2028, 4, fun _ => 6, [⟨0, 10, 1, .rw, true, .none, fun _ _ => 0⟩, ⟨16, 10, 1, .rw, true, .none, fun _ _ => 0⟩]⟩,
  ⟨0x2040, 4, fun _ => 1, [⟨0, 9, 1, .ro, false, .none, fun _ _ => 0⟩]⟩,
  ⟨0x2044, 4, fun _ => 1, [⟨0, 32, 1, .ro, true, .none, fun _ _ => 0⟩]⟩,
  ⟨0x2080, 4, fun _ => 1, [⟨0, 10, 1, .rw, true, .none, fun _ _ => 0⟩]⟩,
  ⟨0x20C0, 4, fun _ => 16, [⟨0, 32, 1, .ro, false, .none, fun _ _ => 0⟩]⟩,
  ⟨0x2100, 4, fun _ => 16, [⟨0, 4, 8, .su, true, .none, fun _ _ => 0⟩]⟩]

/-- Registers by offset, part 2 (spec/15_register_index.md). -/
def regTable2 : List RegDef := [
  ⟨0x2140, 4, fun _ => 1, [⟨0, 4, 1, .su, true, .none, fun _ _ => 0⟩]⟩,
  ⟨0x2144, 4, fun _ => 1, [⟨0, 4, 8, .su, true, .none, fun _ _ => 0⟩]⟩,
  ⟨0x2148, 4, fun _ => 1, [⟨0, 4, 4, .su, true, .none, fun _ _ => 0⟩]⟩,
  ⟨0x2400, 32, fun _ => 64, [⟨0, 31, 1, .rw, true, .clamp 1 2147483647, fun i _ => if i = 0 then 0x02580000 else 0x7FFFFFFF⟩]⟩,
  ⟨0x2404, 32, fun _ => 64, [⟨0, 31, 1, .rw, true, .clamp 1 2147483647, fun i _ => if i = 0 then 0x00960000 else 0x7FFFFFFF⟩]⟩,
  ⟨0x2408, 32, fun _ => 64, [⟨0, 31, 1, .rw, true, .clamp 1 2147483647, fun i _ => if i = 0 then 0x00320000 else 0x7FFFFFFF⟩]⟩,
  ⟨0x240C, 32, fun _ => 64, [⟨0, 5, 1, .rw, true, .clamp 0 16, fun i _ => if i = 0 then 0x10 else 0⟩]⟩,
  ⟨0x2410, 32, fun _ => 64, [⟨0, 32, 1, .ro, false, .none, fun _ _ => 0⟩]⟩,
  ⟨0x2414, 32, fun _ => 64, [⟨0, 32, 1, .ro, false, .none, fun _ _ => 0⟩]⟩,
  ⟨0x2418, 32, fun _ => 64, [⟨0, 32, 1, .ro, false, .none, fun _ _ => 0⟩]⟩,
  ⟨0x241C, 32, fun _ => 64, [⟨0, 32, 1, .ro, false, .none, fun _ _ => 0⟩]⟩,
  ⟨0x2C00, 4, fun _ => 1, [⟨0, 1, 1, .rw, true, .none, fun _ _ => 0⟩, ⟨1, 1, 1, .rw, true, .none, fun _ _ => 0⟩, ⟨2, 1, 1, .rw, true, .none, fun _ _ => 0⟩, ⟨3, 1, 1, .rw, true, .none, fun _ _ => 0⟩, ⟨4, 4, 1, .rw, true, .none, fun _ _ => 3⟩, ⟨8, 9, 1, .su, true, .clamp 0 256, fun _ _ => 0xC0⟩, ⟨20, 4, 1, .su, true, .clamp 8 12, fun _ _ => 0xC⟩]⟩,
  ⟨0x2C04, 4, fun _ => 1, [⟨0, 12, 1, .rw, true, .none, fun _ _ => 0x20⟩, ⟨12, 8, 1, .rw, true, .clamp 1 255, fun _ _ => 8⟩, ⟨20, 7, 1, .rw, true, .clamp 0 100, fun _ _ => 0x5A⟩]⟩,
  ⟨0x2C08, 4, fun _ => 1, [⟨0, 8, 1, .rw, true, .none, fun _ _ => 0x14⟩, ⟨8, 4, 1, .rw, true, .none, fun _ _ => 4⟩, ⟨12, 8, 1, .rw, true, .none, fun _ _ => 0⟩, ⟨20, 12, 1, .rw, true, .none, fun _ _ => 0x1F4⟩]⟩,
  ⟨0x2C0C, 4, fun _ => 1, [⟨0, 13, 1, .rw, true, .none, fun _ _ => 0x800⟩, ⟨16, 8, 1, .rw, true, .none, fun _ _ => 0x19⟩, ⟨24, 4, 1, .rw, true, .none, fun _ _ => 4⟩]⟩,
  ⟨0x2C10, 4, fun _ => 1, [⟨0, 16, 1, .rw, true, .clamp 1 65535, fun _ _ => 0x3E8⟩]⟩,
  ⟨0x2C14, 4, fun _ => 1, [⟨0, 1, 1, .wo, false, .none, fun _ _ => 0⟩, ⟨1, 1, 1, .wo, false, .none, fun _ _ => 0⟩]⟩,
  ⟨0x2C18, 4, fun _ => 1, [⟨0, 32, 1, .ro, false, .none, fun _ _ => 0⟩]⟩,
  ⟨0x2C1C, 4, fun _ => 1, [⟨0, 32, 1, .ro, true, .none, fun _ _ => 0⟩]⟩,
  ⟨0x2C20, 4, fun _ => 1, [⟨0, 32, 1, .ro, false, .none, fun _ _ => 0⟩]⟩,
  ⟨0x2C24, 4, fun _ => 1, [⟨0, 4, 1, .ro, true, .none, fun _ _ => 0⟩, ⟨16, 11, 1, .ro, true, .none, fun _ _ => 0⟩]⟩,
  ⟨0x2C28, 4, fun _ => 1, [⟨0, 1, 1, .w1c, true, .none, fun _ _ => 0⟩, ⟨1, 1, 1, .w1c, true, .none, fun _ _ => 0⟩, ⟨2, 1, 1, .w1c, true, .none, fun _ _ => 0⟩, ⟨3, 1, 1, .w1c, true, .none, fun _ _ => 0⟩, ⟨4, 1, 1, .w1c, true, .none, fun _ _ => 0⟩, ⟨5, 1, 1, .w1c, true, .none, fun _ _ => 0⟩, ⟨6, 1, 1, .w1c, true, .none, fun _ _ => 0⟩]⟩,
  ⟨0x2C2C, 4, fun _ => 1, [⟨0, 16, 1, .ro, true, .none, fun _ _ => 0⟩, ⟨16, 16, 1, .ro, true, .none, fun _ _ => 0⟩]⟩,
  ⟨0x2C30, 4, fun _ => 1, [⟨0, 12, 1, .rw, true, .none, fun _ _ => 0⟩]⟩,
  ⟨0x2C34, 4, fun _ => 1, [⟨0, 32, 1, .ro, false, .none, fun _ _ => 0⟩]⟩,
  ⟨0x2C38, 4, fun _ => 1, [⟨0, 32, 1, .ro, false, .none, fun _ _ => 0⟩]⟩,
  ⟨0x2C3C, 4, fun _ => 1, [⟨0, 32, 1, .ro, false, .none, fun _ _ => 0⟩]⟩,
  ⟨0x2C40, 4, fun _ => 1, [⟨0, 9, 1, .ro, false, .none, fun _ _ => 0⟩]⟩,
  ⟨0x3000, 4, fun _ => 1, [⟨0, 32, 1, .ro, false, .none, fun _ _ => 0⟩]⟩,
  ⟨0x3004, 4, fun _ => 1, [⟨0, 1, 1, .w1c, true, .none, fun _ _ => 0⟩]⟩,
  ⟨0x3008, 4, fun _ => 1, [⟨0, 12, 1, .su, true, .none, fun _ _ => 0xFFF⟩, ⟨12, 4, 1, .su, true, .none, fun _ _ => 0⟩]⟩,
  ⟨0x300C, 4, fun _ => 1, [⟨0, 12, 1, .su, true, .none, fun _ _ => 0xFFF⟩, ⟨12, 4, 1, .su, true, .none, fun _ _ => 6⟩]⟩,
  ⟨0x3010, 4, fun _ => 1, [⟨0, 16, 1, .ro, true, .none, fun _ _ => 0⟩, ⟨16, 16, 1, .ro, true, .none, fun _ _ => 0⟩]⟩,
  ⟨0x3100, 64, fun b => b.rails, [⟨0, 1, 1, .rw, true, .none, fun _ _ => 0⟩, ⟨1, 1, 1, .rw, true, .none, fun _ _ => 0⟩, ⟨8, 8, 1, .su, true, .clamp 50 200, fun _ _ => 0x64⟩, ⟨16, 4, 1, .su, true, .none, fun _ _ => 0⟩, ⟨20, 8, 1, .su, true, .none, fun _ _ => 1⟩]⟩,
  ⟨0x3104, 64, fun b => b.rails, [⟨0, 10, 1, .su, true, .none, fun _ _ => 0⟩, ⟨16, 8, 1, .su, true, .none, fun _ _ => 0⟩]⟩,
  ⟨0x3108, 64, fun b => b.rails, [⟨0, 16, 1, .su, true, .none, fun _ _ => 0⟩, ⟨16, 8, 1, .su, true, .none, fun _ _ => 0x27⟩]⟩,
  ⟨0x310C, 64, fun b => b.rails, [⟨0, 16, 1, .su, true, .none, fun _ _ => 0⟩, ⟨16, 8, 1, .su, true, .none, fun _ _ => 0x27⟩]⟩,
  ⟨0x3110, 64, fun b => b.rails, [⟨0, 16, 1, .su, true, .none, fun _ _ => 0⟩, ⟨16, 16, 1, .su, true, .none, fun _ _ => 0⟩]⟩,
  ⟨0x3114, 64, fun b => b.rails, [⟨0, 16, 1, .su, true, .none, fun _ _ => 0⟩, ⟨16, 16, 1, .su, true, .none, fun _ _ => 0x4000⟩]⟩,
  ⟨0x3118, 64, fun b => b.rails, [⟨0, 8, 1, .su, true, .clamp 1 255, fun _ _ => 0x32⟩, ⟨8, 8, 1, .su, true, .clamp 1 255, fun _ _ => 0x64⟩, ⟨16, 8, 1, .su, true, .clamp 1 255, fun _ _ => 2⟩, ⟨24, 8, 1, .su, true, .clamp 1 255, fun _ _ => 0x64⟩]⟩]

/-- Registers by offset, part 3 (spec/15_register_index.md). -/
def regTable3 : List RegDef := [
  ⟨0x311C, 64, fun b => b.rails, [⟨0, 8, 1, .su, true, .none, fun _ _ => 0x3C⟩, ⟨8, 8, 1, .su, true, .none, fun _ _ => 0x7D⟩, ⟨16, 4, 1, .su, true, .none, fun _ _ => 2⟩, ⟨20, 12, 1, .su, true, .clamp 1 4095, fun _ _ => 0x14⟩]⟩,
  ⟨0x3120, 64, fun b => b.rails, [⟨0, 8, 1, .su, true, .none, fun _ _ => 0x1E⟩, ⟨8, 8, 1, .su, true, .clamp 5 255, fun _ _ => 0x32⟩, ⟨16, 8, 1, .su, true, .none, fun _ _ => 0x32⟩, ⟨24, 1, 1, .su, true, .none, fun _ _ => 1⟩]⟩,
  ⟨0x3124, 64, fun b => b.rails, [⟨0, 8, 1, .su, true, .clamp 1 255, fun _ _ => 0x19⟩, ⟨8, 4, 1, .su, true, .none, fun _ _ => 4⟩, ⟨12, 12, 1, .su, true, .clamp 1 4095, fun _ _ => 0xC8⟩, ⟨24, 8, 1, .su, true, .clamp 1 255, fun _ _ => 0xA⟩]⟩,
  ⟨0x3128, 64, fun b => b.rails, [⟨0, 32, 1, .ro, false, .none, fun _ _ => 0⟩]⟩,
  ⟨0x312C, 64, fun b => b.rails, [⟨0, 32, 1, .ro, false, .none, fun _ _ => 0⟩]⟩,
  ⟨0x3130, 64, fun b => b.rails, [⟨0, 13, 1, .ro, false, .none, fun _ _ => 0⟩]⟩,
  ⟨0x3134, 64, fun b => b.rails, [⟨0, 1, 1, .w1c, true, .none, fun _ _ => 0⟩, ⟨1, 1, 1, .w1c, true, .none, fun _ _ => 0⟩, ⟨2, 1, 1, .w1c, true, .none, fun _ _ => 0⟩, ⟨3, 1, 1, .w1c, true, .none, fun _ _ => 0⟩, ⟨4, 1, 1, .w1c, true, .none, fun _ _ => 0⟩, ⟨5, 1, 1, .w1c, true, .none, fun _ _ => 0⟩, ⟨6, 1, 1, .w1c, true, .none, fun _ _ => 0⟩]⟩,
  ⟨0x3138, 64, fun b => b.rails, [⟨0, 16, 1, .ro, true, .none, fun _ _ => 0⟩, ⟨16, 16, 1, .ro, true, .none, fun _ _ => 0⟩]⟩,
  ⟨0x3400, 4, fun b => 4 * b.rails, [⟨0, 10, 1, .su, true, .none, fun _ _ => 0⟩, ⟨16, 10, 1, .su, true, .none, fun _ _ => 0⟩]⟩,
  ⟨0x3800, 4, fun b => b.ports, [⟨0, 32, 1, .ro, false, .none, fun _ _ => 0x0000FF00⟩]⟩,
  ⟨0x4000, 4, fun _ => 1, [⟨0, 10, 1, .rw, true, .none, fun _ _ => 0x64⟩, ⟨12, 4, 1, .rw, true, .none, fun _ _ => 8⟩, ⟨16, 8, 1, .rw, true, .none, fun _ _ => 0⟩, ⟨24, 1, 1, .rw, true, .none, fun _ _ => 1⟩]⟩,
  ⟨0x4004, 4, fun _ => 1, [⟨0, 13, 1, .rw, true, .none, fun _ _ => 0x1FFF⟩]⟩,
  ⟨0x4008, 4, fun _ => 1, [⟨0, 17, 1, .ro, false, .none, fun _ _ => 0⟩]⟩,
  ⟨0x400C, 4, fun _ => 1, [⟨0, 17, 1, .ro, false, .none, fun _ _ => 0⟩]⟩,
  ⟨0x4010, 4, fun _ => 1, [⟨0, 17, 1, .ro, false, .none, fun _ _ => 0⟩]⟩,
  ⟨0x4014, 4, fun _ => 1, [⟨0, 17, 1, .ro, false, .none, fun _ _ => 0⟩]⟩,
  ⟨0x4018, 4, fun _ => 1, [⟨0, 16, 1, .rw, true, .clamp 100 65535, fun _ _ => 0x3E8⟩, ⟨16, 1, 1, .wo, false, .none, fun _ _ => 0⟩]⟩,
  ⟨0x401C, 4, fun _ => 1, [⟨0, 32, 1, .ro, true, .none, fun _ _ => 0⟩]⟩,
  ⟨0x4020, 4, fun _ => 1, [⟨0, 1, 1, .w1c, true, .none, fun _ _ => 0⟩, ⟨1, 1, 1, .w1c, true, .none, fun _ _ => 0⟩, ⟨2, 1, 1, .w1c, true, .none, fun _ _ => 0⟩, ⟨3, 1, 1, .w1c, true, .none, fun _ _ => 0⟩, ⟨4, 1, 1, .w1c, true, .none, fun _ _ => 0⟩, ⟨5, 1, 1, .w1c, true, .none, fun _ _ => 0⟩, ⟨6, 1, 1, .w1c, true, .none, fun _ _ => 0⟩]⟩,
  ⟨0x4024, 4, fun _ => 1, [⟨0, 16, 1, .rw, true, .none, fun _ _ => 0x2710⟩]⟩,
  ⟨0x4040, 4, fun _ => 1, [⟨0, 8, 1, .rw, true, .none, fun _ _ => 0x28⟩, ⟨8, 8, 1, .rw, true, .none, fun _ _ => 0x3C⟩, ⟨16, 4, 1, .rw, true, .none, fun _ _ => 4⟩, ⟨20, 2, 1, .rw, true, .none, fun _ _ => 0⟩, ⟨24, 8, 1, .rw, true, .none, fun _ _ => 0xC⟩]⟩,
  ⟨0x4044, 4, fun _ => 1, [⟨0, 16, 1, .rw, true, .none, fun _ _ => 0x3E8⟩, ⟨16, 8, 1, .rw, true, .clamp 1 255, fun _ _ => 0x64⟩]⟩,
  ⟨0x4080, 4, fun _ => 1, [⟨0, 8, 1, .rw, true, .none, fun _ _ => 0xFF⟩]⟩,
  ⟨0x4084, 4, fun _ => 9, [⟨0, 32, 1, .ro, false, .none, fun _ _ => 0⟩]⟩,
  ⟨0x4400, 4, fun _ => 64, [⟨0, 8, 4, .rw, true, .none, fun _ _ => 0xFF⟩]⟩,
  ⟨0x4800, 4, fun b => 4 * b.tiles, [⟨0, 32, 1, .ro, false, .none, fun _ _ => 0⟩]⟩,
  ⟨0x5000, 4, fun _ => 1, [⟨0, 1, 1, .rw, true, .none, fun _ _ => 0⟩, ⟨1, 1, 1, .su, true, .none, fun _ _ => 0⟩, ⟨2, 1, 1, .su, true, .none, fun _ _ => 0⟩, ⟨3, 1, 1, .rw, true, .none, fun _ _ => 0⟩]⟩,
  ⟨0x5004, 4, fun _ => 1, [⟨0, 32, 1, .ro, false, .none, fun _ _ => 0⟩]⟩,
  ⟨0x5008, 4, fun _ => 1, [⟨0, 11, 1, .rw, true, .clamp 100 1500, fun _ _ => 0x3E8⟩, ⟨16, 1, 1, .rw, true, .none, fun _ _ => 0⟩]⟩,
  ⟨0x500C, 4, fun _ => 1, [⟨0, 16, 1, .ro, true, .none, fun _ _ => 0xFFFF⟩, ⟨16, 12, 1, .ro, true, .none, fun _ _ => 0⟩, ⟨28, 1, 1, .ro, true, .none, fun _ _ => 0⟩]⟩,
  ⟨0x5010, 16, fun _ => 4, [⟨0, 12, 1, .rw, true, .none, fun _ _ => 0x5F0⟩, ⟨16, 12, 1, .rw, true, .none, fun _ _ => 0x640⟩]⟩,
  ⟨0x5014, 16, fun _ => 4, [⟨0, 12, 1, .rw, true, .none, fun _ _ => 0x690⟩, ⟨16, 12, 1, .rw, true, .none, fun _ _ => 0x6E0⟩]⟩,
  ⟨0x5018, 16, fun _ => 4, [⟨0, 12, 1, .rw, true, .none, fun _ _ => 0⟩, ⟨16, 12, 1, .rw, true, .none, fun _ _ => 0x460⟩]⟩,
  ⟨0x501C, 16, fun _ => 4, [⟨0, 12, 1, .rw, true, .none, fun _ _ => 0x280⟩, ⟨16, 4, 1, .rw, true, .none, fun _ _ => 7⟩, ⟨24, 4, 1, .rw, true, .none, fun _ _ => 8⟩]⟩,
  ⟨0x5050, 4, fun _ => 1, [⟨0, 8, 1, .rw, true, .none, fun _ _ => 0x30⟩, ⟨8, 8, 1, .rw, true, .none, fun _ _ => 0x40⟩, ⟨16, 8, 1, .rw, true, .clamp 1 255, fun _ _ => 0x10⟩, ⟨24, 8, 1, .rw, true, .none, fun _ _ => 0x80⟩]⟩,
  ⟨0x5054, 4, fun _ => 1, [⟨0, 8, 1, .rw, true, .clamp 1 255, fun _ _ => 0xA⟩, ⟨8, 7, 1, .rw, true, .none, fun _ _ => 0x50⟩, ⟨16, 7, 1, .rw, true, .none, fun _ _ => 0x32⟩, ⟨24, 4, 1, .rw, true, .clamp 1 15, fun _ _ => 3⟩]⟩,
  ⟨0x5058, 4, fun _ => 1, [⟨0, 16, 1, .rw, true, .none, fun _ _ => 0⟩, ⟨16, 12, 1, .rw, true, .none, fun _ _ => 0x230⟩]⟩,
  ⟨0x505C, 4, fun _ => 1, [⟨0, 16, 1, .ro, true, .none, fun _ _ => 0⟩, ⟨16, 1, 1, .ro, true, .none, fun _ _ => 0⟩, ⟨17, 1, 1, .ro, true, .none, fun _ _ => 0⟩, ⟨18, 1, 1, .ro, true, .none, fun _ _ => 0⟩]⟩,
  ⟨0x5060, 4, fun _ => 1, [⟨0, 32, 1, .ro, false, .none, fun _ _ => 0x230⟩]⟩,
  ⟨0x5064, 4, fun _ => 1, [⟨0, 12, 1, .ro, true, .none, fun _ _ => 0⟩, ⟨12, 1, 1, .ro, true, .none, fun _ _ => 0⟩, ⟨13, 1, 1, .ro, true, .none, fun _ _ => 0⟩, ⟨16, 4, 1, .ro, true, .none, fun _ _ => 0⟩, ⟨24, 8, 1, .ro, true, .none, fun _ _ => 0⟩]⟩]

/-- Registers by offset, part 4 (spec/15_register_index.md). -/
def regTable4 : List RegDef := [
  ⟨0x5068, 4, fun _ => 1, [⟨0, 32, 1, .ro, true, .none, fun _ _ => 0⟩]⟩,
  ⟨0x506C, 4, fun _ => 1, [⟨0, 3, 1, .ro, true, .none, fun _ _ => 0⟩]⟩,
  ⟨0x5070, 4, fun _ => 1, [⟨0, 1, 1, .w1c, true, .none, fun _ _ => 0⟩, ⟨1, 1, 1, .w1c, true, .none, fun _ _ => 0⟩, ⟨2, 1, 1, .w1c, true, .none, fun _ _ => 0⟩, ⟨3, 1, 1, .w1c, true, .none, fun _ _ => 0⟩, ⟨4, 1, 1, .w1c, true, .none, fun _ _ => 0⟩, ⟨5, 1, 1, .w1c, true, .none, fun _ _ => 0⟩, ⟨6, 1, 1, .w1c, true, .none, fun _ _ => 0⟩, ⟨7, 1, 1, .w1c, true, .none, fun _ _ => 0⟩, ⟨8, 1, 1, .w1c, true, .none, fun _ _ => 0⟩]⟩,
  ⟨0x5074, 4, fun _ => 1, [⟨0, 16, 1, .ro, true, .none, fun _ _ => 0⟩, ⟨16, 16, 1, .ro, true, .none, fun _ _ => 0⟩]⟩,
  ⟨0x5078, 4, fun _ => 1, [⟨0, 16, 1, .ro, true, .none, fun _ _ => 0⟩, ⟨16, 16, 1, .ro, true, .none, fun _ _ => 0⟩]⟩,
  ⟨0x507C, 4, fun _ => 1, [⟨0, 1, 1, .ro, true, .none, fun _ _ => 0⟩, ⟨1, 1, 1, .ro, true, .none, fun _ _ => 0⟩, ⟨16, 16, 1, .ro, true, .none, fun _ _ => 0⟩]⟩,
  ⟨0x5080, 4, fun _ => 1, [⟨0, 11, 1, .rw, true, .none, fun _ _ => 0⟩]⟩,
  ⟨0x5084, 4, fun _ => 3, [⟨0, 32, 1, .ro, false, .none, fun _ _ => 0⟩]⟩,
  ⟨0x5090, 4, fun _ => 1, [⟨0, 11, 1, .rw, true, .none, fun _ _ => 0⟩]⟩,
  ⟨0x5094, 4, fun _ => 2, [⟨0, 32, 1, .ro, false, .none, fun _ _ => 0⟩]⟩,
  ⟨0x50A0, 4, fun _ => 4, [⟨0, 32, 1, .ro, false, .none, fun _ _ => 0⟩]⟩,
  ⟨0x50B0, 4, fun _ => 1, [⟨0, 8, 1, .rw, true, .clamp 1 255, fun _ _ => 1⟩, ⟨8, 8, 1, .rw, true, .none, fun _ _ => 0x10⟩, ⟨16, 4, 1, .rw, true, .clamp 1 15, fun _ _ => 4⟩, ⟨20, 8, 1, .rw, true, .none, fun _ _ => 0x28⟩, ⟨28, 4, 1, .rw, true, .clamp 1 15, fun _ _ => 4⟩]⟩,
  ⟨0x50B4, 4, fun _ => 1, [⟨0, 8, 1, .rw, true, .none, fun _ _ => 0⟩, ⟨8, 6, 1, .rw, true, .none, fun _ _ => 0⟩]⟩,
  ⟨0x50B8, 4, fun _ => 1, [⟨0, 32, 1, .ro, false, .none, fun _ _ => 0⟩]⟩,
  ⟨0x6000, 4, fun _ => 1, [⟨0, 1, 1, .rw, true, .none, fun _ _ => 0⟩, ⟨1, 1, 1, .rw, true, .none, fun _ _ => 0⟩, ⟨2, 1, 1, .su, true, .none, fun _ _ => 0⟩, ⟨3, 2, 1, .rw, true, .none, fun _ _ => 0⟩, ⟨8, 4, 1, .rw, true, .none, fun _ _ => 7⟩, ⟨16, 8, 1, .rw, true, .none, fun _ _ => 3⟩, ⟨24, 8, 1, .rw, true, .clamp 0 50, fun _ _ => 5⟩]⟩,
  ⟨0x6004, 4, fun _ => 1, [⟨0, 32, 1, .ro, false, .none, fun _ _ => 0⟩]⟩,
  ⟨0x6008, 4, fun _ => 1, [⟨0, 32, 1, .ro, false, .none, fun _ _ => 0⟩]⟩,
  ⟨0x600C, 4, fun _ => 1, [⟨0, 32, 1, .ro, false, .none, fun _ _ => 0⟩]⟩,
  ⟨0x6010, 4, fun _ => 1, [⟨0, 32, 1, .ro, false, .none, fun _ _ => 0⟩]⟩,
  ⟨0x6014, 4, fun _ => 1, [⟨0, 32, 1, .ro, false, .none, fun _ _ => 0⟩]⟩,
  ⟨0x6018, 4, fun _ => 1, [⟨0, 32, 1, .ro, false, .none, fun _ _ => 0⟩]⟩,
  ⟨0x601C, 4, fun _ => 1, [⟨0, 32, 1, .ro, false, .none, fun _ _ => 0⟩]⟩,
  ⟨0x6020, 4, fun _ => 1, [⟨0, 32, 1, .ro, false, .none, fun _ _ => 0⟩]⟩,
  ⟨0x6024, 4, fun _ => 1, [⟨0, 16, 1, .rw, true, .clamp 10 65535, fun _ _ => 0x64⟩, ⟨16, 8, 1, .rw, true, .none, fun _ _ => 0x40⟩]⟩,
  ⟨0x6028, 4, fun _ => 1, [⟨0, 16, 1, .rw, true, .clamp 100 65535, fun _ _ => 0x3E8⟩, ⟨16, 8, 1, .rw, true, .clamp 1 255, fun _ _ => 0x14⟩, ⟨24, 4, 1, .rw, true, .none, fun _ _ => 4⟩]⟩,
  ⟨0x602C, 4, fun _ => 1, [⟨0, 16, 1, .rw, true, .none, fun _ _ => 0x3E8⟩, ⟨16, 16, 1, .ro, true, .none, fun _ _ => 0⟩]⟩,
  ⟨0x6030, 4, fun _ => 1, [⟨0, 32, 1, .ro, false, .none, fun _ _ => 0⟩]⟩,
  ⟨0x6034, 4, fun _ => 1, [⟨0, 13, 1, .rw, true, .none, fun _ _ => 0⟩]⟩,
  ⟨0x6038, 4, fun _ => 1, [⟨0, 32, 1, .ro, false, .none, fun _ _ => 0⟩]⟩,
  ⟨0x603C, 4, fun _ => 1, [⟨0, 32, 1, .ro, false, .none, fun _ _ => 0⟩]⟩,
  ⟨0x6040, 4, fun _ => 1, [⟨0, 32, 1, .ro, false, .none, fun _ _ => 0⟩]⟩,
  ⟨0x6044, 4, fun _ => 1, [⟨0, 32, 1, .ro, false, .none, fun _ _ => 0⟩]⟩,
  ⟨0x6048, 4, fun _ => 1, [⟨0, 32, 1, .ro, false, .none, fun _ _ => 0⟩]⟩,
  ⟨0x604C, 4, fun _ => 1, [⟨0, 8, 1, .rw, true, .clamp 0 50, fun _ _ => 0x19⟩, ⟨8, 8, 1, .rw, true, .clamp 0 20, fun _ _ => 5⟩, ⟨16, 16, 1, .rw, true, .none, fun _ _ => 0x320⟩]⟩,
  ⟨0x6050, 4, fun _ => 1, [⟨0, 16, 1, .rw, true, .clamp 1 65535, fun _ _ => 0x64⟩]⟩,
  ⟨0x6054, 4, fun _ => 1, [⟨0, 16, 1, .rw, true, .clamp 1 65535, fun _ _ => 0x40⟩, ⟨16, 4, 1, .rw, true, .clamp 1 15, fun _ _ => 3⟩, ⟨20, 4, 1, .rw, true, .none, fun _ _ => 1⟩]⟩,
  ⟨0x6058, 4, fun _ => 1, [⟨0, 32, 1, .ro, true, .none, fun _ _ => 0⟩]⟩,
  ⟨0x605C, 4, fun _ => 1, [⟨0, 32, 1, .ro, true, .none, fun _ _ => 0⟩]⟩,
  ⟨0x6060, 4, fun _ => 1, [⟨0, 14, 1, .ro, true, .none, fun _ _ => 0⟩, ⟨14, 2, 1, .ro, true, .none, fun _ _ => 0⟩, ⟨16, 4, 1, .ro, true, .none, fun _ _ => 0⟩, ⟨20, 1, 1, .ro, true, .none, fun _ _ => 0⟩]⟩,
  ⟨0x6064, 4, fun _ => 1, [⟨0, 8, 1, .rw, true, .none, fun _ _ => 8⟩, ⟨8, 8, 1, .rw, true, .none, fun _ _ => 0xA⟩, ⟨16, 8, 1, .rw, true, .clamp 1 255, fun _ _ => 3⟩, ⟨24, 8, 1, .rw, true, .clamp 1 255, fun _ _ => 0x64⟩]⟩]

/-- Registers by offset, part 5 (spec/15_register_index.md). -/
def regTable5 : List RegDef := [
  ⟨0x6068, 4, fun _ => 1, [⟨0, 32, 1, .ro, true, .none, fun _ _ => 0⟩]⟩,
  ⟨0x606C, 4, fun _ => 1, [⟨0, 16, 1, .ro, true, .none, fun _ _ => 0⟩, ⟨16, 16, 1, .ro, true, .none, fun _ _ => 0⟩]⟩,
  ⟨0x6070, 4, fun _ => 1, [⟨0, 1, 1, .w1c, true, .none, fun _ _ => 0⟩, ⟨1, 1, 1, .w1c, true, .none, fun _ _ => 0⟩, ⟨2, 1, 1, .w1c, true, .none, fun _ _ => 0⟩, ⟨3, 1, 1, .w1c, true, .none, fun _ _ => 0⟩, ⟨4, 1, 1, .w1c, true, .none, fun _ _ => 0⟩, ⟨5, 1, 1, .w1c, true, .none, fun _ _ => 0⟩, ⟨6, 1, 1, .w1c, true, .none, fun _ _ => 0⟩, ⟨7, 1, 1, .w1c, true, .none, fun _ _ => 0⟩, ⟨8, 1, 1, .w1c, true, .none, fun _ _ => 0⟩, ⟨9, 1, 1, .w1c, true, .none, fun _ _ => 0⟩, ⟨10, 1, 1, .w1c, true, .none, fun _ _ => 0⟩, ⟨11, 1, 1, .w1c, true, .none, fun _ _ => 0⟩, ⟨12, 1, 1, .w1c, true, .none, fun _ _ => 0⟩, ⟨13, 1, 1, .w1c, true, .none, fun _ _ => 0⟩, ⟨14, 1, 1, .w1c, true, .none, fun _ _ => 0⟩, ⟨15, 1, 1, .w1c, true, .none, fun _ _ => 0⟩, ⟨16, 1, 1, .w1c, true, .none, fun _ _ => 0⟩, ⟨17, 1, 1, .w1c, true, .none, fun _ _ => 0⟩]⟩,
  ⟨0x6074, 4, fun _ => 1, [⟨0, 14, 1, .ro, true, .none, fun _ _ => 0⟩]⟩,
  ⟨0x6078, 4, fun _ => 2, [⟨0, 32, 1, .ro, false, .none, fun _ _ => 0⟩]⟩,
  ⟨0x6080, 4, fun _ => 2, [⟨0, 32, 1, .ro, false, .none, fun _ _ => 0⟩]⟩,
  ⟨0x6088, 4, fun _ => 1, [⟨0, 32, 1, .ro, false, .none, fun _ _ => 0⟩]⟩,
  ⟨0x608C, 4, fun _ => 1, [⟨0, 32, 1, .rw, true, .none, fun _ _ => 0⟩]⟩,
  ⟨0x6090, 4, fun _ => 1, [⟨0, 16, 1, .ro, true, .none, fun _ _ => 0⟩, ⟨16, 16, 1, .ro, true, .none, fun _ _ => 0⟩]⟩,
  ⟨0x6094, 4, fun _ => 1, [⟨0, 32, 1, .ro, false, .none, fun _ _ => 0⟩]⟩,
  ⟨0x6098, 4, fun _ => 1, [⟨0, 32, 1, .ro, false, .none, fun _ _ => 0⟩]⟩,
  ⟨0x609C, 4, fun _ => 1, [⟨0, 16, 1, .rw, true, .clamp 1 65535, fun _ _ => 0x64⟩]⟩,
  ⟨0x60C0, 4, fun _ => 1, [⟨0, 6, 1, .rw, true, .none, fun _ _ => 0⟩]⟩,
  ⟨0x60C4, 4, fun _ => 4, [⟨0, 32, 1, .ro, false, .none, fun _ _ => 0⟩]⟩,
  ⟨0x6400, 4, fun b => b.tiles, [⟨0, 18, 1, .rw, true, .none, fun _ _ => 0⟩, ⟨31, 1, 1, .rw, true, .none, fun _ _ => 0⟩]⟩,
  ⟨0x7000, 4, fun _ => 1, [⟨0, 1, 1, .rw, true, .none, fun _ _ => 1⟩, ⟨1, 1, 1, .rw, true, .none, fun _ _ => 0⟩, ⟨2, 1, 1, .rw, true, .none, fun _ _ => 0⟩, ⟨3, 1, 1, .rw, true, .none, fun _ _ => 0⟩, ⟨4, 1, 1, .rw, true, .none, fun _ _ => 0⟩]⟩,
  ⟨0x7004, 4, fun _ => 1, [⟨0, 1, 1, .ro, true, .none, fun _ _ => 0⟩, ⟨1, 1, 1, .ro, true, .none, fun _ _ => 0⟩, ⟨2, 1, 1, .ro, true, .none, fun _ _ => 0⟩, ⟨3, 1, 1, .ro, true, .none, fun _ _ => 0⟩, ⟨4, 1, 1, .ro, true, .none, fun _ _ => 0⟩, ⟨5, 1, 1, .ro, true, .none, fun _ _ => 0⟩, ⟨6, 1, 1, .ro, true, .none, fun _ _ => 0⟩, ⟨8, 4, 1, .ro, true, .none, fun _ _ => 0⟩, ⟨12, 3, 1, .ro, true, .none, fun _ _ => 0⟩, ⟨16, 5, 1, .ro, true, .none, fun _ _ => 0⟩, ⟨24, 8, 1, .ro, true, .none, fun _ _ => 0⟩]⟩,
  ⟨0x7008, 4, fun _ => 1, [⟨0, 32, 1, .rw, true, .none, fun _ _ => 0⟩]⟩,
  ⟨0x700C, 4, fun _ => 1, [⟨0, 32, 1, .rw, true, .none, fun _ _ => 0⟩]⟩,
  ⟨0x7010, 4, fun _ => 1, [⟨0, 32, 1, .ro, true, .none, fun _ _ => 0⟩]⟩,
  ⟨0x7014, 4, fun _ => 1, [⟨0, 32, 1, .ro, true, .none, fun _ _ => 0⟩]⟩,
  ⟨0x7018, 4, fun _ => 1, [⟨0, 32, 1, .ro, true, .none, fun _ _ => 0⟩]⟩,
  ⟨0x701C, 4, fun _ => 1, [⟨0, 32, 1, .ro, true, .none, fun _ _ => 0⟩]⟩,
  ⟨0x7020, 4, fun _ => 1, [⟨0, 32, 1, .ro, true, .none, fun _ _ => 0⟩]⟩,
  ⟨0x7024, 4, fun _ => 1, [⟨0, 1, 1, .wo, false, .none, fun _ _ => 0⟩]⟩,
  ⟨0x7040, 4, fun _ => 1, [⟨0, 8, 1, .rw, true, .none, fun _ _ => 0⟩]⟩,
  ⟨0x7044, 4, fun _ => 6, [⟨0, 32, 1, .ro, false, .none, fun _ _ => 0⟩]⟩,
  ⟨0x7060, 4, fun _ => 1, [⟨0, 10, 1, .rw, true, .none, fun _ _ => 0⟩]⟩,
  ⟨0x7064, 4, fun _ => 5, [⟨0, 32, 1, .ro, false, .none, fun _ _ => 0⟩]⟩,
  ⟨0x7078, 4, fun _ => 1, [⟨0, 1, 1, .wo, false, .none, fun _ _ => 0⟩]⟩,
  ⟨0x7080, 4, fun _ => 1, [⟨0, 5, 1, .rw, true, .none, fun _ _ => 0⟩]⟩,
  ⟨0x7084, 4, fun _ => 11, [⟨0, 32, 1, .ro, false, .none, fun _ _ => 0⟩]⟩,
  ⟨0x70B0, 4, fun _ => 1, [⟨0, 32, 1, .w1c, true, .none, fun _ _ => 0⟩]⟩,
  ⟨0x8000, 4, fun _ => 1, [⟨0, 11, 1, .ro, true, .none, fun _ _ => 0⟩, ⟨11, 1, 1, .ro, true, .none, fun _ _ => 0⟩, ⟨12, 8, 1, .ro, true, .none, fun _ _ => 0⟩, ⟨20, 8, 1, .ro, true, .none, fun _ _ => 0⟩, ⟨28, 1, 1, .ro, true, .none, fun _ _ => 0⟩, ⟨29, 1, 1, .ro, true, .none, fun _ _ => 0⟩]⟩,
  ⟨0x8004, 4, fun _ => 1, [⟨0, 4, 1, .rw, true, .clamp 1 15, fun _ _ => 4⟩]⟩,
  ⟨0x8008, 4, fun _ => 1, [⟨0, 7, 1, .ro, true, .none, fun _ _ => 0⟩, ⟨7, 5, 1, .ro, true, .none, fun _ _ => 0⟩, ⟨16, 7, 1, .ro, true, .none, fun _ _ => 0⟩, ⟨23, 5, 1, .ro, true, .none, fun _ _ => 0⟩]⟩,
  ⟨0x800C, 4, fun _ => 1, [⟨0, 8, 1, .ro, false, .none, fun _ _ => 0⟩, ⟨8, 4, 1, .ro, false, .none, fun _ _ => 0⟩, ⟨12, 3, 1, .ro, false, .none, fun _ _ => 0⟩]⟩,
  ⟨0x8010, 4, fun _ => 2, [⟨0, 18, 1, .ro, true, .none, fun _ _ => 0⟩]⟩,
  ⟨0x8020, 4, fun _ => 1, [⟨0, 12, 1, .rw, true, .none, fun _ _ => 0⟩]⟩,
  ⟨0x8024, 4, fun _ => 1, [⟨0, 32, 1, .ro, false, .none, fun _ _ => 0⟩]⟩]

/-- Registers by offset, part 6 (spec/15_register_index.md). -/
def regTable6 : List RegDef := [
  ⟨0x8040, 4, fun _ => 4, [⟨0, 8, 4, .rw, true, .none, fun i k => (0xFFE1C4A9907964514031241910090401 >>> (32 * i + 8 * k)) % 256⟩]⟩,
  ⟨0x8050, 4, fun _ => 1, [⟨0, 8, 4, .rw, true, .none, fun _ k => (0x20181008 >>> (8 * k)) % 256⟩]⟩,
  ⟨0x8054, 4, fun _ => 1, [⟨0, 8, 1, .rw, true, .none, fun _ _ => 0⟩]⟩,
  ⟨0x8058, 4, fun _ => 1, [⟨0, 32, 1, .ro, true, .none, fun _ _ => 0⟩]⟩,
  ⟨0x805C, 4, fun _ => 1, [⟨0, 32, 1, .ro, true, .none, fun _ _ => 0⟩]⟩,
  ⟨0x8060, 4, fun _ => 1, [⟨0, 8, 1, .rw, true, .none, fun _ _ => 0⟩]⟩,
  ⟨0x8064, 4, fun _ => 3, [⟨0, 32, 1, .ro, false, .none, fun _ _ => 0⟩]⟩,
  ⟨0x9000, 4, fun _ => 1, [⟨0, 32, 1, .ro, false, .none, fun _ _ => 0⟩]⟩,
  ⟨0x9004, 4, fun _ => 1, [⟨0, 1, 1, .wo, false, .none, fun _ _ => 0⟩]⟩,
  ⟨0x9008, 4, fun _ => 1, [⟨0, 16, 1, .ro, true, .none, fun _ _ => 0⟩, ⟨16, 16, 1, .ro, true, .none, fun _ _ => 0⟩]⟩,
  ⟨0x900C, 4, fun _ => 1, [⟨0, 8, 1, .ro, true, .none, fun _ _ => 0⟩, ⟨8, 8, 1, .ro, true, .none, fun _ _ => 0⟩, ⟨16, 8, 1, .ro, true, .none, fun _ _ => 0⟩]⟩,
  ⟨0x9010, 4, fun _ => 1, [⟨0, 1, 1, .w1c, true, .none, fun _ _ => 0⟩, ⟨1, 1, 1, .w1c, true, .none, fun _ _ => 0⟩, ⟨2, 1, 1, .w1c, true, .none, fun _ _ => 0⟩, ⟨3, 1, 1, .w1c, true, .none, fun _ _ => 0⟩, ⟨4, 1, 1, .w1c, true, .none, fun _ _ => 0⟩, ⟨5, 1, 1, .w1c, true, .none, fun _ _ => 0⟩, ⟨6, 1, 1, .w1c, true, .none, fun _ _ => 0⟩, ⟨7, 1, 1, .w1c, true, .none, fun _ _ => 0⟩, ⟨8, 1, 1, .w1c, true, .none, fun _ _ => 0⟩, ⟨9, 1, 1, .w1c, true, .none, fun _ _ => 0⟩, ⟨10, 1, 1, .w1c, true, .none, fun _ _ => 0⟩, ⟨11, 1, 1, .w1c, true, .none, fun _ _ => 0⟩]⟩,
  ⟨0x9014, 4, fun _ => 1, [⟨0, 32, 1, .ro, true, .none, fun _ _ => 0⟩]⟩,
  ⟨0x9018, 4, fun _ => 1, [⟨0, 32, 1, .ro, true, .none, fun _ _ => 0⟩]⟩,
  ⟨0x9100, 4, fun _ => 1, [⟨0, 32, 1, .ro, false, .none, fun _ _ => 0⟩]⟩,
  ⟨0x9104, 4, fun _ => 1, [⟨0, 8, 1, .ro, true, .none, fun _ _ => 0⟩, ⟨8, 8, 1, .ro, true, .none, fun _ _ => 0⟩, ⟨16, 8, 1, .ro, true, .none, fun _ _ => 0⟩, ⟨24, 8, 1, .ro, true, .none, fun _ _ => 0⟩]⟩,
  ⟨0x9108, 4, fun _ => 1, [⟨0, 16, 1, .ro, false, .none, fun _ _ => 0xFFFF⟩]⟩,
  ⟨0x910C, 4, fun _ => 1, [⟨0, 4, 1, .rw, true, .clamp 1 15, fun _ _ => 3⟩, ⟨4, 1, 1, .rw, true, .none, fun _ _ => 1⟩]⟩,
  ⟨0x9110, 4, fun _ => 1, [⟨0, 4, 1, .ro, true, .none, fun _ _ => 0⟩, ⟨4, 4, 1, .ro, true, .none, fun _ _ => 0⟩]⟩,
  ⟨0x9120, 4, fun _ => 5, [⟨0, 32, 1, .ro, true, .none, fun _ _ => 0⟩]⟩,
  ⟨0x9140, 4, fun _ => 4, [⟨0, 32, 1, .ro, false, .none, fun _ _ => 0⟩]⟩]

/-- Every set-up register of FX-4 (R7). -/
def regTable : List RegDef := regTable0 ++ regTable1 ++ regTable2 ++ regTable3 ++ regTable4 ++ regTable5 ++ regTable6

end Sys2Proof.Machine
end

