-- ==== Sys2Proof/Machine/Ops.lean ====
section
/-! DEFINITION. The operations that every meaning shares: register fields, free values, time, the tables of units, GSTOP, master
requests, events, and the forming of completion records. -/

namespace Sys2Proof.Machine

/-! ## Register fields -/

/-- The value of a stored register field. -/
def getF (s : State) (f : Fld) : Nat := tget f.rst s.regs (32 * f.off + f.lo)

/-- Writes a stored register field. -/
def setF (s : State) (f : Fld) (v : Nat) : State :=
  { s with regs := tset f.rst s.regs (32 * f.off + f.lo) (v % 2 ^ f.w) }

/-- A one-bit field as a Bool. -/
def flagOn (s : State) (f : Fld) : Bool := getF s f != 0

/-- Adds 1 to a counter field that saturates. -/
def incSat (s : State) (f : Fld) : State := setF s f (satAdd (2 ^ f.w - 1) (getF s f) 1)

/-- Adds n to a counter field that saturates. -/
def addSat (s : State) (f : Fld) (n : Nat) : State := setF s f (satAdd (2 ^ f.w - 1) (getF s f) n)

/-- A field of the SU registers of the phase controllers: while PC is stopped, the value held at the stop (R118).
DEDUCED (log 45). -/
def getPc (s : State) (f : Fld) : Nat :=
  tget f.rst (if s.be.pcStopped then s.be.pcSnap else s.regs) (32 * f.off + f.lo)

/-! ## Units -/

def tile (s : State) (t : Nat) : Tile := tget {} s.cc.tiles t
def setTile (s : State) (t : Nat) (x : Tile) : State := { s with cc.tiles := tset {} s.cc.tiles t x }
def modTile (s : State) (t : Nat) (f : Tile → Tile) : State := setTile s t (f (tile s t))

def rail (s : State) (r : Nat) : Rail := tget {} s.pc.rails r
def setRail (s : State) (r : Nat) (x : Rail) : State := { s with pc.rails := tset {} s.pc.rails r x }
def modRail (s : State) (r : Nat) (f : Rail → Rail) : State := setRail s r (f (rail s r))

def port (s : State) (p : Nat) : Port := tget {} s.pc.ports p
def setPort (s : State) (p : Nat) (x : Port) : State := { s with pc.ports := tset {} s.pc.ports p x }
def modPort (s : State) (p : Nat) (f : Port → Port) : State := setPort s p (f (port s p))

def loop (s : State) (l : Nat) : Loop := tget {} s.be.loops l
def setLoop (s : State) (l : Nat) (x : Loop) : State := { s with be.loops := tset {} s.be.loops l x }
def modLoop (s : State) (l : Nat) (f : Loop → Loop) : State := setLoop s l (f (loop s l))

def pg (s : State) (p : Nat) : Pg := tget {} s.be.pgs p
def setPg (s : State) (p : Nat) (x : Pg) : State := { s with be.pgs := tset {} s.be.pgs p x }

def vfsRail (s : State) (r : Nat) : VfsRail := tget {} s.vfs r
def setVfs (s : State) (r : Nat) (x : VfsRail) : State := { s with vfs := tset {} s.vfs r x }

def ring (s : State) (n : Nat) : Ring := tget {} s.hr.rings n
def setRing (s : State) (n : Nat) (x : Ring) : State := { s with hr.rings := tset {} s.hr.rings n x }
def modRing (s : State) (n : Nat) (f : Ring → Ring) : State := setRing s n (f (ring s n))

def mbox (s : State) (c : Nat) : Mbox := tget {} s.mb c
def setMbox (s : State) (c : Nat) (x : Mbox) : State := { s with mb := tset {} s.mb c x }

def timer (s : State) (k : Nat) : Option Timer := tget none s.sa.timers k
def setTimer (s : State) (k : Nat) (x : Option Timer) : State := { s with sa.timers := tset none s.sa.timers k x }

def det (x : Tile) (d : Nat) : Det := tget {} x.dets d
def setDet (x : Tile) (d : Nat) (v : Det) : Tile := { x with dets := tset {} x.dets d v }
def eng (x : Tile) (e : Nat) : Eng := tget {} x.engs e
def setEng (x : Tile) (e : Nat) (v : Eng) : Tile := { x with engs := tset {} x.engs e v }

/-- The manifest's record of a tile agent; an absent one where the manifest is not in force. -/
def mfTile (s : State) (t : Nat) : MfTile := match s.mf with
  | some m => tget {} m.tiles t
  | none => {}

/-- The manifest's record of a rail. -/
def mfRail (s : State) (r : Nat) : Option MfRail := s.mf.bind (fun m => (m.rails.find? (·.1 == r)).map (·.2))

/-- Rails the manifest describes. -/
def mfRails (s : State) : List Nat := match s.mf with
  | some m => m.rails.map (·.1)
  | none => []

/-- Tile agents the manifest describes as present. -/
def mfTiles (s : State) : List Nat := match s.mf with
  | some m => (m.tiles.filter (·.2.present)).map (·.1)
  | none => []

/-- Tile agents assigned to a rail. -/
def railTiles (s : State) (r : Nat) : List Nat := (mfTiles s).filter (fun t => (mfTile s t).rail == r)

/-- Ports of a rail: every port that the manifest names for it. -/
def railPorts (s : State) (r : Nat) : List Nat := match mfRail s r with
  | some m => m.ports ++ m.spares
  | none => []

/-! ## Identifiers (R14) -/

def unitId (cls idx : Nat) : Nat := cls * 2 ^ 24 + idx
def hubUnit (s : State) : Nat := unitId 8 s.du.active
def tileUnit (t : Nat) : Nat := unitId 1 t
def detUnit (d : Nat) : Nat := unitId 2 d
def snsUnit (n : Nat) : Nat := unitId 3 n
def railUnit (r : Nat) : Nat := unitId 4 r
def phaseUnit (r p : Nat) : Nat := unitId 5 (256 * r + p)
def loopUnit (l : Nat) : Nat := unitId 6 l
def engUnit (e : Nat) : Nat := unitId 7 e
def peerUnit (p : Nat) : Nat := unitId 9 p
def acctUnit (a : Nat) : Nat := unitId 10 a

/-! ## What runs -/

/-- The block has its supply and no whole-block reset is asserted. -/
def alive (s : State) : Bool := s.pins.vdd && !s.rs.held

/-- Release step k has been taken (R384). -/
def released (s : State) (k : Nat) : Bool := alive s && decide (k ≤ s.rs.step)

/-- The slave window is open (R378). -/
def hostOpen (s : State) : Bool := alive s && decide (8 ≤ s.rs.done)

/-- Sub-block c is in reset, by RS_SUB or by BLOCK_RESET (R399, R400). -/
def subIn (s : State) (c : Nat) : Bool := bitAt (getF s Reg.RS_SUB.HOLD) (c - 1) || bitAt s.rs.subBlk c

/-- The Band Engine runs: released and not in reset. -/
def beRuns (s : State) : Bool := released s 6 && !subIn s 6
/-- The phase controllers run. -/
def pcRuns (s : State) : Bool := released s 6 && !subIn s 7
/-- Host access runs: rings, mailboxes and events may use the Host Access Port. -/
def hostRuns (s : State) : Bool := hostOpen s && !subIn s 8
/-- Tile agent t runs: released and not in a reset of its own. -/
def tileRuns (s : State) (t : Nat) : Bool :=
  released s 7 && decide (t < s.build.tiles) && (tget none s.rs.tileRst t).isNone

/-- The owning domain "Band Engine and phase controllers" is stopped (R114). -/
def allStopped (s : State) : Bool := s.be.stopped == 0xFFFF && s.be.pcStopped

/-! ## Free values -/

/-- Takes the next index of the model's free values. DESIGN CHOICE (log 2). -/
def bumpFree (s : State) : State := { s with free := s.free + 1 }

/-! ## GSTOP (R442) -/

/-- GSTOP is the OR of the holds: reset until step 6, shutdown, brake escalation, W3 stop, freeze with GSTOP. -/
def gstopHold (s : State) : Bool :=
  decide (s.rs.done < 6) || s.th.sd != .run || s.pc.brakeGstop || s.bg.stop ||
    (flagOn s Reg.OBS_FRZ_STATUS.FROZEN && flagOn s Reg.OBS_FRZ_CFG.GSTOP)

/-- Drives GSTOP from the holds in force. -/
def settle (s : State) : State := { s with pins.gstop := gstopHold s }

/-- Ends a command: GSTOP follows the holds, and the machine goes on. -/
def finish (s : State) : Host.Outcome State Fault Refusal := .next (settle s)

/-! ## Time -/

/-- Whether tile agent t issues no grant (R441: grant gate), the pool apart. -/
def grantBlocked (s : State) (t : Nat) : Bool :=
  let x := tile s t
  s.pins.gstop || s.pins.mirrorGstop || (flagOn s Reg.CC_CFG.GRANT_HOLD && x.stretch) || x.localTrip ||
    !x.pwrOk || x.hold10

/-- Engines of a tile agent that request a start and are not granted. -/
def waiting (x : Tile) : List (Nat × Nat) :=
  x.engs.filterMap (fun p => if p.2.running then none else p.2.start.map (fun c => (p.1, c)))

/-- Adds the time passed to the counts of R198, in fifths of a hub cycle (24 to a reference cycle). -/
def countTile (s : State) (d : Nat) (t : Nat) (x : Tile) : Tile :=
  let n := (waiting x).length
  let w := if x.pwrOk then 24 * d * n else 0
  let stop := grantBlocked s t
  { x with
    ops := x.engs.foldl (fun o p => if p.2.running && p.2.cost != 0 then
      let c := tget ({} : OpInc) o p.2.code
      tset {} o p.2.code { c with cyc := c.cyc + 24 * d * p.2.cost } else o) x.ops
    waitCredit := if stop then x.waitCredit else x.waitCredit + w
    waitStop := if stop then x.waitStop + w else x.waitStop
    stretchCyc := if x.stretch then x.stretchCyc + 24 * d else x.stretchCyc }

/-- PH_EN_N of a port is low (R134). -/
def portOn (p : Port) : Bool := p.st == .joining || p.st == .active || p.st == .draining || p.st == .fire

/-- Time moves to reference cycle t, where that is later: rack time advances by 4 ns a cycle (R74), and the counts that
add with time are brought up. DESIGN CHOICE (log 3). -/
def advanceTo (s : State) (t : Nat) : State :=
  let d := t - s.now
  if d = 0 then s else
    { s with
      now := t
      tb.time := if s.tb.running && alive s then (s.tb.time + 4 * d) % 2 ^ 64 else s.tb.time
      cc.tiles := s.cc.tiles.map (fun p => (p.1, countTile s d p.1 p.2))
      pc.ports := s.pc.ports.map (fun p => (p.1, if portOn p.2 then { p.2 with onNs := p.2.onNs + 4 * d } else p.2)) }

/-- Reference cycles in a number of microseconds. DESIGN CHOICE (log 3). -/
def us (n : Nat) : Nat := 250 * n
/-- Reference cycles in a number of milliseconds. DESIGN CHOICE (log 3). -/
def ms (n : Nat) : Nat := 250000 * n

/-! ## Master requests (R44, R449) -/

/-- Tags neither outstanding nor quarantined, nor of a request that a wrapper completed and whose response it still awaits (R52). -/
def freeTags (s : State) : List Nat :=
  (List.range 256).filter (fun k => !(s.hap.out.any (·.tag == k)) && !(s.hap.quar.any (·.tag == k)) && !(s.hap.iso.contains k))

/-- Master requests outstanding at most (R44). -/
def maxOut (s : State) : Nat := getF s Reg.HAP_CFG.MAX_OUT

/-- Tags that are not free: outstanding, quarantined, or of a request whose response a wrapper awaits (R44, R46, R52). -/
def usedTags (s : State) : Nat := 256 - (freeTags s).length

/-- A request of a traffic class may be issued now (R44, R449, R379): for classes 1 and 2, 32 of the MAX_OUT tags are free, and a
quarantined tag is not. DEDUCED (log 10). -/
def canIssue (s : State) (cls : Nat) : Bool :=
  !s.hap.stopped && decide (s.hap.out.length < maxOut s) && !(freeTags s).isEmpty &&
    (cls == 0 || cls == 3 || decide (32 ≤ maxOut s - usedTags s))

/-- The 32 bytes of beat k of a write: the data begins at its byte address within the first beat. DEDUCED (log 70). -/
def beatData (r : MReq) (k : Nat) : List Byte :=
  let bs := ((zeros (r.addr % 32) ++ r.data).drop (32 * k)).take 32
  bs ++ zeros (32 - bs.length)

/-- The byte enables of beat k of a write: the bytes that the data covers. DEDUCED (log 70). -/
def beatBe (r : MReq) (k : Nat) : Nat :=
  ofBits ((List.range 32).filter (fun j => decide (r.addr % 32 ≤ 32 * k + j) && decide (32 * k + j < r.addr % 32 + r.data.length)))

/-- Beat k of n of a request (R42). A read carries no data, and its BE enables whole beats. DEDUCED (log 70). -/
def mqBeat (r : MReq) (n k : Nat) : MqBeat :=
  let d := beatData r k
  { write := r.write, tag := r.tag, addr := r.addr / 32 * 32, len := r.beats - 1, sec := r.sec, noSnoop := Config.noSnoop, cls := r.cls
    be := if r.write then beatBe r k else 2 ^ 32 - 1
    data := if r.write then d else []
    chk := if r.write then some ((Config.checkBits (BitVec.ofNat 128 (leAt d 0 16))).toNat,
      (Config.checkBits (BitVec.ofNat 128 (leAt d 16 16))).toNat) else none
    last := k + 1 == n }

/-- The beats of a request: one for a read, LEN + 1 for a write (R42). DEDUCED (log 70). -/
def mqBeats (r : MReq) : List MqBeat :=
  let n := if r.write then r.beats else 1
  (List.range n).map (mqBeat r n)

/-- A request under the tag that the free value picks among the free tags, at this moment. DESIGN CHOICE (log 2). -/
def tagged (s : State) (r : MReq) : MReq :=
  let tags := freeTags s
  { r with tag := tags.getD (Config.tagPick s.free % tags.length) 0, issuedAt := s.now, timeoutUs := getF s Reg.HAP_CFG.TIMEOUT_US }

/-- Issues one waiting request: it is outstanding, and its beats stand behind those that have not passed (R41, R44).
DEDUCED (log 10, 70). -/
def issueNow (s : State) (r : MReq) : State :=
  bumpFree { s with hap.out := s.hap.out ++ [tagged s r], hap.mq := s.hap.mq ++ mqBeats (tagged s r) }

/-- The beats up to and including the last one of a tag have passed, as they must have where a response to it passes (R43).
DEDUCED (log 70). -/
def passUpTo (tag : Nat) : List MqBeat → List MqBeat
  | [] => []
  | b :: l => if (b :: l).any (·.tag == tag) then (if b.tag == tag && b.last then l else passUpTo tag l) else b :: l

/-- The mirror holds a copy, so that effects wait for its acknowledgement (R365). DEDUCED (log 33). -/
def journalled (s : State) : Bool := s.du.mode == 1 && s.du.synced

/-- Issues every waiting request that may go, oldest first. DEDUCED (log 10). -/
def hapPump (s : State) : State :=
  s.hap.wait.foldl
    (fun s r => if r.wait == 0 && canIssue s r.cls then issueNow s r else { s with hap.wait := s.hap.wait ++ [r] })
    { s with hap.wait := [] }

/-- Asks for a master request: issued at once where a tag is free, and waiting until then otherwise. DEDUCED (log 10). -/
def hapReq (s : State) (write : Bool) (addr beats cls : Nat) (sec : Bool) (data : List Byte) (p : Purpose) : State :=
  hapPump { s with hap.wait := s.hap.wait ++ [⟨0, write, addr, beats, cls, sec, data, p, 0, 0, none, if journalled s then 2 else 0⟩] }

/-- Hands a message to FMP_TX, or keeps it until the mirror holds it (R280, R365). -/
def fmpSend (s : State) (peer payload : Nat) : State :=
  let m : FmpMsg := ⟨BitVec.ofNat 14 peer, BitVec.ofNat 128 payload, false, false⟩
  if journalled s then { s with du.waitTx := s.du.waitTx ++ [(m, 2)] } else { s with bg.tx := s.bg.tx ++ [m] }

/-! ## Events (R341, R343) -/

/-- Whether a ring of n slots has room: producer less consumer, modulo 2^32, is below n (R313). -/
def ringRoom (prod cons size : Nat) : Bool := decide ((prod + 2 ^ 32 - cons) % 2 ^ 32 < size)

def evSize (s : State) : Nat := 2 ^ getF s Reg.HR_EV_CFG.SIZE_LOG2
def evBase (s : State) : Nat := 2 ^ 32 * getF s Reg.HR_EV_BASE_HI.ADDR + 4096 * getF s Reg.HR_EV_BASE_LO.ADDR
def evCan (s : State) : Bool :=
  hostRuns s && flagOn s Reg.HR_EV_CFG.EN && ringRoom s.hr.evProd s.hr.evCons (evSize s)

/-- PHASE of the record at a producer index: 1 on the first pass, 0 on the second, and so on (R320). -/
def phaseBit (idx size : Nat) : Nat := (idx / size + 1) % 2

/-- The 32 bytes of an event or telemetry record (R341, R344). -/
def recordBytes (e : Event) (phase : Nat) : List Byte :=
  leBytes 1 e.cls ++ leBytes 1 phase ++ leBytes 2 e.code ++ leBytes 4 e.unit ++ leBytes 8 e.time ++
    ((e.detail ++ zeros 16).take 16)

/-- Writes one event to the event ring. -/
def putEvent (s : State) (e : Event) : State :=
  let i := s.hr.evProd
  let n := evSize s
  hapReq { s with hr.evProd := (i + 1) % 2 ^ 32, hr.evOut := s.hr.evOut ++ [i] } true (evBase s + 32 * (i % n)) 1 0 false
    (recordBytes e (phaseBit i n)) (.event i)

/-- Writes one held event where the ring has room. -/
def flushOne (s : State) : State := match s.hr.evHeld with
  | e :: t => if evCan s then putEvent { s with hr.evHeld := t } e else s
  | [] => s

/-- Writes the held events while the ring has room, and then the count of those discarded (R343). -/
def flushEvents (s : State) : State :=
  let s := (List.range s.hr.evHeld.length).foldl (fun s _ => flushOne s) s
  if s.hr.evHeld.isEmpty && s.hr.evLost != 0 && evCan s then
    putEvent { s with hr.evLost := 0 } ⟨0x0F, 1, hubUnit s, s.tb.time, zeros 4 ++ leBytes 4 s.hr.evLost⟩
  else s

/-- Raises an event: written, held (up to 256) or discarded and counted (R343). -/
def raiseEvent (s : State) (cls code unit : Nat) (detail : List Byte) : State :=
  if s.hr.evHeld.length < 256 then
    flushEvents { s with hr.evHeld := s.hr.evHeld ++ [⟨cls, code, unit, s.tb.time, detail⟩] }
  else incSat { s with hr.evLost := s.hr.evLost + 1 } Reg.HR_EV_DROP.COUNT

/-! ## Telemetry (R344) -/

def telSize (s : State) : Nat := 2 ^ getF s Reg.HR_TEL_CFG.SIZE_LOG2
def telBase (s : State) : Nat := 2 ^ 32 * getF s Reg.HR_TEL_BASE_HI.ADDR + 4096 * getF s Reg.HR_TEL_BASE_LO.ADDR

/-- Writes a telemetry record, or discards it while the ring is full or disabled, with one Ring event for a run of discards. -/
def putTel (s : State) (e : Event) : State :=
  let i := s.hr.telProd
  let n := telSize s
  if hostRuns s && flagOn s Reg.HR_TEL_CFG.EN && ringRoom i s.hr.telCons n then
    hapReq { s with hr.telProd := (i + 1) % 2 ^ 32, hr.telOut := s.hr.telOut ++ [i], hr.telRun := false } true
      (telBase s + 32 * (i % n)) 1 1 false (recordBytes e (phaseBit i n)) (.tel i)
  else
    let s := incSat s Reg.HR_TEL_DROP.COUNT
    if s.hr.telRun then s
    else raiseEvent { s with hr.telRun := true } 0x0F 3 (hubUnit s) (zeros 4 ++ leBytes 4 (getF s Reg.HR_TEL_DROP.COUNT))

/-! ## Firmware duties (R350, R358) -/

def core (s : State) (k : Nat) : FwCore := tget {} s.du.cores k
def setCore (s : State) (k : Nat) (c : FwCore) : State := { s with du.cores := tset {} s.du.cores k c }
def tcore (s : State) (t : Nat) : FwCore := tget {} s.du.tcores t
def setTcore (s : State) (t : Nat) (c : FwCore) : State := { s with du.tcores := tset {} s.du.tcores t c }

/-- The duties of a tile agent's control core are carried: it runs, or the reserve complex carries them for a RETIRED one (R350, R360). -/
def tileDutyRuns (s : State) (t : Nat) : Bool := tileRuns s t && ((tcore s t).st == 1 || (tcore s t).st == 6)

/-- The active port of a tile agent is the port on the active hub's ring (R20). -/
def activePort (s : State) (x : Tile) : Tile := { x with portB := s.du.active == 1 }

/-- EN and DOM of a loop descriptor (R107). -/
def lpEn (x : Loop) : Bool := bitAt x.w0 0
def lpDom (x : Loop) : Nat := bitsAt x.w0 4 4

/-- An enabled loop of a running domain. -/
def lpRuns (s : State) (x : Loop) : Bool := lpEn x && !bitAt s.be.stopped (lpDom x)

/-- CC_HELD and CC_WAITING: Σ H_t and Σ W_t as last reported. COUNT has 17 bits, and W_t of all engines may exceed them, of which the spec
says nothing: it then stands at its top. DESIGN CHOICE (log 83). -/
def ccHeld (s : State) : Nat := s.cc.tiles.foldl (fun n p => n + p.2.hH) 0
def ccWaiting (s : State) : Nat := min 0x1FFFF (s.cc.tiles.foldl (fun n p => n + p.2.hW) 0)

/-- The duties of core 0x00, 0x01 or 0x02 are carried, by the core itself or by a reserve core that covers it. -/
def dutyRuns (s : State) (k : Nat) : Bool :=
  (core s k).st == 1 || s.du.cores.any (fun p => p.2.st == 3 && p.2.duty == some k)

/-! ## HAP errors (R50, R54) -/

/-- HAP_ERR is all 0. -/
def hapErrClear (s : State) : Bool :=
  !(flagOn s Reg.HAP_ERR.TIMEOUT || flagOn s Reg.HAP_ERR.TGTERR || flagOn s Reg.HAP_ERR.NOTGT || flagOn s Reg.HAP_ERR.POISON ||
    flagOn s Reg.HAP_ERR.STRAY || flagOn s Reg.HAP_ERR.CHK_CORR || flagOn s Reg.HAP_ERR.ISOL)

/-- Records an error in HAP_ERR: the address of the first one of bits [3:0], the bit, and an event when it goes from 0 to 1. -/
def hapErr (s : State) (f : Fld) (bit : Nat) (keepAddr : Bool) (addr tag status : Nat) : State :=
  let s := if keepAddr && hapErrClear s then
      setF (setF s Reg.HAP_ERR_ADDR_LO.ADDR (addr % 2 ^ 32)) Reg.HAP_ERR_ADDR_HI.ADDR (addr / 2 ^ 32) else s
  if flagOn s f then s
  else raiseEvent (setF s f 1) 1 bit (hubUnit s) (leBytes 8 addr ++ leBytes 1 tag ++ leBytes 1 status)

/-- The first beat on HAP_SS passes (R41, R43). -/
def passBeat : List SlaveResp → List SlaveResp
  | [] => []
  | r :: l => if r.more = 0 then l else { r with more := r.more - 1 } :: l

/-- A single-bit error on an incoming beat was corrected: no event (R51, R54). -/
def chkCorr (s : State) : State := setF s Reg.HAP_ERR.CHK_CORR 1

/-- Records the status of a failed master access: 1 TGTERR, 2 NOTGT, 3 POISON, 8 TIMEOUT (R50). DEDUCED (log 15). -/
def hapFail (s : State) (addr tag status : Nat) : State :=
  if status = 8 then hapErr s Reg.HAP_ERR.TIMEOUT 0 true addr tag 8
  else if status = 2 then hapErr s Reg.HAP_ERR.NOTGT 2 true addr tag 2
  else if status = 3 then hapErr s Reg.HAP_ERR.POISON 3 true addr tag 3
  else if status = 0 then s
  else hapErr s Reg.HAP_ERR.TGTERR 1 true addr tag 1

/-! ## Completions (R320, R321, R323) -/

def ringSize (s : State) (n : Nat) : Nat := 2 ^ getF s (Reg.RING_CFG.SIZE_LOG2 n)
def ringBase (s : State) (n : Nat) : Nat := 2 ^ 32 * getF s (Reg.RING_BASE_HI.ADDR n) + 4096 * getF s (Reg.RING_BASE_LO.ADDR n)
def ringSec (s : State) (n : Nat) : Bool := flagOn s (Reg.RING_CFG.SEC n)
def ringEn (s : State) (n : Nat) : Bool := flagOn s (Reg.RING_CFG.EN n)

/-- Descriptors in flight on a ring. -/
def ringFlights (s : State) (n : Nat) : List Flight := s.hr.flights.filter (·.ring == n)

/-- Completions of a ring that wait for the mirror (R365). -/
def ringWaits (s : State) (n : Nat) : Nat := (s.hr.cplWait.filter (·.ring == n)).length

/-- A disabled ring with nothing in flight becomes IDLE; records held in ERROR are discarded and counted (R316, R323).
DEDUCED (log 19). -/
def ringIdle (s : State) (n : Nat) : State :=
  if !ringEn s n && (ringFlights s n).isEmpty && ringWaits s n == 0 then
    modRing s n (fun r => { r with idle := true, error := false, ready := [], lost := satAdd 15 r.lost r.held.length, held := [] })
  else s

/-- The 16 bytes of a completion record (R320). -/
def cplBytes (tag status slot phase detail time : Nat) : List Byte :=
  leBytes 2 tag ++ leBytes 2 status ++ leBytes 1 (slot % 256) ++ leBytes 1 phase ++ leBytes 2 detail ++ leBytes 8 time

/-- Forms the completion record of a descriptor of ring n and writes it, or keeps it while the ring is in ERROR. -/
def putCpl (s : State) (n slot tag status detail : Nat) : State :=
  let r := ring s n
  let size := ringSize s n
  let i := r.cplProd
  let bytes := cplBytes tag status slot (phaseBit i size) detail s.tb.time
  if !hostRuns s then { s with hr.cplLost := s.hr.cplLost + 1 }
  else if r.error then setRing s n { r with held := r.held ++ [bytes] }
  else
    hapReq (setRing s n { r with cplProd := (i + 1) % 2 ^ 32, cplOut := r.cplOut ++ [i] }) true
      (ringBase s n + 64 * size + 16 * (i % size)) 1 0 (ringSec s n) bytes (.cpl n i)

/-- A completion: it is formed, in a duplex once the mirror has acknowledged the entry (R365). DEDUCED (log 33). -/
def formCpl (s : State) (n slot tag status detail : Nat) : State :=
  if journalled s then { s with hr.cplWait := s.hr.cplWait ++ [⟨n, slot, tag, status, detail, 2⟩] } else putCpl s n slot tag status detail

/-- Completes a descriptor in flight. -/
def complete (s : State) (f : Flight) (status detail : Nat) : State :=
  ringIdle (formCpl { s with hr.flights := s.hr.flights.filter (·.key != f.key) } f.ring f.slot f.tag status detail) f.ring

/-- Completes the descriptor in flight that has a key, if there is one. -/
def completeKey (s : State) (key : Nat) (status detail : Nat) : State :=
  match s.hr.flights.find? (·.key == key) with
  | some f => complete s f status detail
  | none => s

/-- Completes the descriptor a unit's request came from, where it came from one. -/
def completeOpt (s : State) (key : Option Nat) (status detail : Nat) : State :=
  match key with
  | some k => completeKey s k status detail
  | none => s

end Sys2Proof.Machine
end

