-- ==== Sys2Proof/Machine/Operands.lean ====
section
/-! DEFINITION. Descriptors: the validity of identifiers (R15), the order in which descriptors are taken (R317, R318), and the
checks every descriptor passes when it is taken (R319). -/

namespace Sys2Proof.Machine

/-! ## Identifiers -/

/-- The logical phases of a rail. -/
def railPhases (s : State) (r : Nat) : Nat := match mfRail s r with
  | some m => m.ports.length
  | none => 0

/-- A peer is described when GROUP names it as the member itself, its parent or a child (R15). -/
def peerDescribed (s : State) (p : Nat) : Bool := match s.mf.bind (·.group) with
  | some g => g.own == p || g.parent == some p || g.children.contains p
  | none => false

/-- An identifier is valid (R15). The spec does not say whether a TILE record that marks its tile agent not present, or an engine
whose bit is 0, describes the unit: the model takes both as not described, and takes an engine whose bit is 1 as described even where
its tile agent is marked not present. DESIGN CHOICE (log 71). -/
def validUnit (s : State) (id : Nat) : Bool :=
  let c := id / 2 ^ 24
  let i := id % 2 ^ 24
  match c with
  | 1 => (mfTile s i).present
  | 2 => match s.mf with
    | some m => m.dets.any (·.1 == i)
    | none => false
  | 3 => match s.mf with
    | some m => m.snss.any (·.1 == i)
    | none => false
  | 4 => (mfRail s i).isSome
  | 5 => decide (i < 65536) && decide (i % 256 < railPhases s (i / 256))
  | 6 => decide (i < 1024)
  | 7 => decide (i < 8192) && bitAt (mfTile s (i / 64)).engines (i % 64)
  | 8 => decide (i < s.build.hubs)
  | 9 => peerDescribed s i
  | 10 => decide (i < 262144) && (s.mf.bind (·.accounts)).isSome
  | _ => false

/-! ## Fetching and taking -/

/-- Bytes of a descriptor. -/
def dOp (d : List Byte) : Nat := byteAt d 0
def dFence (d : List Byte) : Bool := bitAt (byteAt d 1) 0
def dTag (d : List Byte) : Nat := leAt d 2 2
def dTarget (d : List Byte) : Nat := leAt d 4 4

/-- Fetches further descriptors of a ring: up to 4 in one request that does not cross a 256-byte boundary. -/
def fetchMore (s : State) (n : Nat) : State :=
  let r := ring s n
  let size := ringSize s n
  let avail := (r.prod + 2 ^ 32 - r.fetchIdx) % 2 ^ 32
  if hostRuns s && ringEn s n && !r.error && !r.fetching && decide (r.ready.length < 4) && decide (0 < avail) then
    let k := min avail (4 - r.fetchIdx % 4)
    hapReq (setRing s n { r with fetching := true }) false (ringBase s n + 64 * (r.fetchIdx % size)) (2 * k) 0 (ringSec s n) []
      (.fetch n r.fetchIdx k)
  else s

/-- A loop's domain is running and the loop is enabled, so that live words wait for an evaluation (R110). -/
def loopLive (s : State) (l : Nat) : Bool :=
  let w0 := (loop s l).w0
  bitAt w0 0 && !bitAt s.be.stopped (bitsAt w0 4 4)

/-- Live words that a LOOP_WRITE names (R111). -/
def liveCount (d : List Byte) : Nat :=
  if byteAt d 8 ≤ 7 then (((List.range (byteAt d 8)).map (fun i => byteAt d (9 + i))).filter (fun i => decide (2 ≤ i))).length else 0

/-- The descriptor at the head of a ring can be taken (R317). -/
def canTake (s : State) (n : Nat) (d : List Byte) : Bool :=
  let r := ring s n
  let fl := (ringFlights s n).length + ringWaits s n
  !(dFence d && decide (0 < fl)) && decide (s.hr.flights.length + s.hr.cplWait.length < 512) &&
    decide ((r.cplProd + 2 ^ 32 - r.cplCons) % 2 ^ 32 + fl < ringSize s n) &&
    !(dOp d == 0x10 && loopLive s (dTarget d % 1024) && decide (256 < s.be.words.length + liveCount d))

/-- A ring has a descriptor that can be taken now. -/
def ringReady (s : State) (n : Nat) : Bool :=
  let r := ring s n
  ringEn s n && !r.error && match r.ready with
    | d :: _ => canTake s n d
    | [] => false

/-- The ring whose turn it is to give a descriptor: PRIO 1 before PRIO 0, round-robin within a priority (R318). -/
def turnOf (s : State) : Option Nat :=
  if hostRuns s && !s.hap.stopped && dutyRuns s 2 then
    let hi := ((List.range 64).map (fun k => (s.hr.lastHi + 1 + k) % 64)).find?
      (fun n => flagOn s (Reg.RING_CFG.PRIO n) && ringReady s n)
    match hi with
    | some n => some n
    | none => ((List.range 64).map (fun k => (s.hr.lastLo + 1 + k) % 64)).find?
        (fun n => !flagOn s (Reg.RING_CFG.PRIO n) && ringReady s n)
  else none

/-- The ring that gives the next descriptor, in a duplex once the mirror has acknowledged that it holds the entry (R365).
DEDUCED (log 33). -/
def takeTurn (s : State) : Option Nat := if journalled s && s.hr.turn != 0 then none else turnOf s

/-- Takes the descriptor at the head of ring n: the consumer index advances and the descriptor is in flight. -/
def takeHead (s : State) (n : Nat) (d : List Byte) (job : Job) : State × Flight :=
  let r := ring s n
  let f : Flight := ⟨s.hr.nextKey, n, r.cons % ringSize s n, dTag d, dOp d, job⟩
  let s := setRing s n { r with cons := (r.cons + 1) % 2 ^ 32, ready := r.ready.tail }
  let s := { s with
    hr.flights := s.hr.flights ++ [f]
    hr.nextKey := s.hr.nextKey + 1
    hr.turn := if journalled s then 2 else 0
    hr.readTurn := if journalled s then 2 else 0
    hr.lastHi := if flagOn s (Reg.RING_CFG.PRIO n) then n else s.hr.lastHi
    hr.lastLo := if flagOn s (Reg.RING_CFG.PRIO n) then s.hr.lastLo else n }
  (fetchMore s n, f)

/-- Changes what a descriptor in flight waits for. -/
def setJob (s : State) (f : Flight) (j : Job) : State :=
  { s with hr.flights := lmod (·.key == f.key) (fun x => { x with job := j }) s.hr.flights }

/-! ## Checks (R319) -/

/-- What the opcode table and the layouts ask of one descriptor (R326 to R329). -/
structure OpSpec where
  secure : Bool := false
  manifest : Bool := true
  /-- Operand bytes the layout names, as offset and length. -/
  named : List (Nat × Nat) := []
  /-- Bits of a named byte that are not reserved. -/
  bits : List (Nat × Nat) := []
  target : Bool := true
  /-- Byte offset of the first operand outside its range. -/
  operand : Option Nat := none

/-- Bits of operand byte k that may be other than 0. -/
def allowedBits (sp : OpSpec) (k : Nat) : Nat :=
  match sp.bits.find? (·.1 == k) with
  | some (_, m) => m
  | none => if sp.named.any (fun p => decide (p.1 ≤ k) && decide (k < p.1 + p.2)) then 255 else 0

/-- The first byte with a reserved bit set: FLAGS[7:1], and every operand byte or bit that the layout does not name (R11).
DEDUCED (log 20). -/
def firstReserved (sp : OpSpec) (d : List Byte) : Option Nat :=
  if 2 ≤ byteAt d 1 then some 1
  else ((List.range 56).map (· + 8)).find? (fun k => clrBits (byteAt d k) (allowedBits sp k) != 0)

/-- The sub-block of R399 that executes an opcode and whose reset abandons it; 0 where there is none. DEDUCED (log 20). -/
def subOf (op : Nat) : Nat :=
  if op = 0x20 ∨ op = 0x21 ∨ op = 0x22 then 7
  else if op = 0x10 ∨ op = 0x11 ∨ op = 0x12 ∨ op = 0x13 ∨ op = 0x30 ∨ op = 0x31 ∨ op = 0x40 then 6
  else 0

/-- The first failing check of R319, orders 2 to 7, as status and DETAIL. DEDUCED (log 20). -/
def checkDesc (s : State) (f : Flight) (d : List Byte) (sp : OpSpec) : Option (Nat × Nat) :=
  if s.hr.flights.any (fun x => x.ring == f.ring && x.tag == f.tag) || s.hr.cplWait.any (fun x => x.ring == f.ring && x.tag == f.tag) then
    some (0x0002, 0)
  else if sp.secure && !ringSec s f.ring then some (0x0003, 0)
  else match firstReserved sp d with
    | some k => some (0x0004, k)
    | none =>
      if sp.manifest && !s.hr.mfAccepted then some (0x0005, 0)
      else if !sp.target then some (0x0006, 0)
      else match sp.operand with
        | some k => some (0x0007, k)
        | none => if subOf (dOp d) != 0 && subIn s (subOf (dOp d)) then some (0x001C, 0) else none

/-- A TARGET of a row that has none is 0 (R319). DEDUCED (log 20). -/
def noTarget (d : List Byte) : Bool := dTarget d == 0

/-- The requests of a read of a traffic class can be made: a tag and room are there (R44, R449), and in a duplex the mirror has
acknowledged that it holds the entry (R365). DESIGN CHOICE (log 8). -/
def readOpen (s : State) (cls : Nat) : Bool := canIssue s cls && (!journalled s || s.hr.readTurn == 0)

/-- The read of a row's command cannot be made yet: its descriptor has the turn and passes its checks, and `held` says that what its
operands ask for must wait. DESIGN CHOICE (log 8). -/
def readHeld (s : State) (sel : List Byte → Bool) (job : Job) (sp : State → List Byte → OpSpec)
    (held : State → List Byte → Bool) : Bool :=
  match takeTurn s with
  | none => false
  | some n =>
    match (ring s n).ready with
    | [] => false
    | d :: _ => sel d && (checkDesc s (takeHead s n d job).2 d (sp s d)).isNone && held s d

/-- Takes the descriptor whose turn it is, where its opcode and operands are those of the row (`sel`), checks it, and completes
it with the first failing check or carries it out. Where another row's descriptor has the turn, nothing happens.
DEDUCED (log 4). -/
def runDesc (s : State) (sel : List Byte → Bool) (job : Job) (sp : State → List Byte → OpSpec)
    (body : State → Flight → List Byte → State) : State :=
  match takeTurn s with
  | none => s
  | some n =>
    match (ring s n).ready with
    | [] => s
    | d :: _ =>
      if sel d then
        let (s1, f) := takeHead s n d job
        match checkDesc s f d (sp s d) with
        | some (st, det) => complete s1 f st det
        | none => body s1 f d
      else s

/-- The same for a command that reads memory, whose row stands for the end of its reads: while they cannot be made the row's event
cannot happen. DEDUCED (log 4). DESIGN CHOICE (log 8). -/
def runRead (s : State) (sel : List Byte → Bool) (job : Job) (sp : State → List Byte → OpSpec)
    (held : State → List Byte → Bool) (body : State → Flight → List Byte → State) : State :=
  if readHeld s sel job sp held then s else runDesc s sel job sp body

/-- Statuses as FX-4 reports them (R50): a reserved status, and one that only FX-4 raises, count as TGTERR. DEDUCED (log 15). -/
def normStatus (n : Nat) : Nat := if n = 0 ∨ n = 2 ∨ n = 3 ∨ n = 8 then n else 1

/-- The reads of n bytes from an address, in requests of whole beats and at most 256 bytes that do not cross a 256-byte boundary: the
first ends where such a block does. DESIGN CHOICE (log 8). -/
def readSpans : Nat → Nat → Nat → List (Nat × Nat)
  | 0, _, _ => []
  | k + 1, a, n => if n = 0 then [] else
    let m := min n (256 - a % 256)
    (a, ceilDiv m 32) :: readSpans k (a + m) (n - m)

/-- One of them: it takes a tag, its beats pass, and it is answered; what it gives is an operand of the row.
DESIGN CHOICE (log 8). -/
def loadRead (cls : Nat) (sec : Bool) (key : Nat) (s : State) (p : Nat × Nat) : State :=
  let r := tagged s ⟨0, false, p.1, p.2, cls, sec, [], .result key, 0, 0, none, 0⟩
  bumpFree { s with hap.reads := s.hap.reads ++ [r] }

/-- The reads that a command makes of a structure in memory (R327, R333, R340), with SEC as its ring has it. DESIGN CHOICE (log 8). -/
def loadReads (s : State) (f : Flight) (addr len cls : Nat) : State :=
  (readSpans (len / 32 + 2) addr len).foldl (loadRead cls (ringSec s f.ring) f.key) { s with hap.reads := [] }

/-- A read of a structure in memory fails (R46, R50, R327): the requests are made, one of them, which `at_` picks, fails, the error is
recorded with its address and tag, a tag that timed out is quarantined, and the command completes with the status.
DESIGN CHOICE (log 8). -/
def readFailAt (at_ : Nat) (s : State) (f : Flight) (addr len cls status : Nat) : State :=
  let s := loadReads s f addr len cls
  let st := max 1 (normStatus status)
  let (a, tag) := ((s.hap.reads[at_ % s.hap.reads.length]?).map (fun r => (r.addr, r.tag))).getD (addr, 0)
  let s := if st = 8 then { s with hap.quar := s.hap.quar ++ [⟨tag, .response⟩] } else s
  complete (hapFail s a tag st) f 0x0010 st

/-- The same where the row does not say which request fails: it is free. DESIGN CHOICE (log 8). -/
def readFail (s : State) (f : Flight) (addr len cls status : Nat) : State :=
  readFailAt (Config.tagPick s.free) (bumpFree s) f addr len cls status

/-- A read whose response carried a corrected single-bit error (R51, R54). DESIGN CHOICE (log 8). -/
def readCorr (corr : Bool) (s : State) : State := if corr then chkCorr s else s

/-- A structure in memory has been read: the requests are made, and a corrected error is counted. DESIGN CHOICE (log 8). -/
def readDone (corr : Bool) (s : State) (f : Flight) (addr len cls : Nat) : State := readCorr corr (loadReads s f addr len cls)

/-- The beat of the queue map that holds a queue's entry, or the first bytes of it (R338): the map need not lie on a beat. -/
def mapBeat (qmap q : Nat) : Nat := (qmap + 4 * q) / 32 * 32

/-- Bytes of the beats that hold a queue's entry: two beats where it crosses into the next. -/
def mapLen (qmap q : Nat) : Nat := if (qmap + 4 * q) % 32 ≤ 28 then 32 else 64

/-- The operands of the loads (R327): ADDR 32-byte aligned, LEN from 32 bytes to 4 MiB. -/
def loadOperand (d : List Byte) : Option Nat :=
  if leAt d 8 8 % 32 ≠ 0 then some 8
  else if leAt d 16 4 < 32 ∨ 4194304 < leAt d 16 4 then some 16
  else none

/-- The specification of a load of a structure other than FIRMWARE_LOAD. DESIGN CHOICE (log 8). -/
def loadSpec (manifest : Bool) (d : List Byte) : OpSpec :=
  { manifest := manifest, named := [(8, 8), (16, 4)], target := noTarget d, operand := loadOperand d }

/-- The opcodes of R326. -/
def definedOp (op : Nat) : Bool :=
  [0x01, 0x02, 0x03, 0x04, 0x05, 0x10, 0x11, 0x12, 0x13, 0x20, 0x21, 0x22, 0x30, 0x31, 0x32, 0x40, 0x41, 0x50, 0x51, 0x52, 0x53,
    0x54, 0x60, 0x61, 0x70].contains op

end Sys2Proof.Machine
end

