-- ==== Sys2Proof/Machine/Hap.lean ====
section
/-! DEFINITION. The master side of the Host Access Port (R44 to R54, R458): how a response, a timeout or a misfit completes a
request, and where the result goes. -/

namespace Sys2Proof.Machine

/-- HR_ERR is all 0. -/
def hrErrClear (s : State) : Bool :=
  !(flagOn s Reg.HR_ERR.DB_READ || flagOn s Reg.HR_ERR.FETCH || flagOn s Reg.HR_ERR.CPL_WRITE || flagOn s Reg.HR_ERR.EV_WRITE ||
    flagOn s Reg.HR_ERR.TEL_WRITE || flagOn s Reg.HR_ERR.CFG_BUSY)

/-- Sets a bit of HR_ERR; the ring of the first error while HR_ERR was all 0 is recorded. -/
def hrErr (s : State) (f : Fld) (ringNo : Option Nat) : State :=
  let s := match ringNo with
    | some n => if hrErrClear s then setF s Reg.HR_ERR_RING.RING n else s
    | none => s
  setF s f 1

/-- Address of a word of the doorbell page. -/
def dbAddr (s : State) (byte : Nat) : Nat :=
  2 ^ 32 * getF s Reg.HR_DB_BASE_HI.ADDR + 4096 * getF s Reg.HR_DB_BASE_LO.ADDR + byte

/-- The producer index that the records answered GOOD cover: the oldest one still out, or the producer index (R321). -/
def coverIdx (out : List Nat) (prod : Nat) : Nat := out.headD prod

/-- GOOD for an event record, or its failure: it is written again (R343, HR_ERR.EV_WRITE). -/
def eventDone (s : State) (i status : Nat) (r : MReq) : State :=
  if status = 0 then
    let before := coverIdx s.hr.evOut s.hr.evProd
    let out := s.hr.evOut.filter (· != i)
    let s := { s with hr.evOut := out }
    let after := coverIdx out s.hr.evProd
    if after = before then s else hapReq s true (dbAddr s 2304) 1 0 false (leBytes 4 after) (.evIdx after)
  else hapReq (hrErr s Reg.HR_ERR.EV_WRITE none) true r.addr r.beats r.cls r.sec r.data r.purpose

/-- GOOD for a telemetry record, or its failure: the record is discarded (HR_ERR.TEL_WRITE). -/
def telDone (s : State) (i status : Nat) : State :=
  let before := coverIdx s.hr.telOut s.hr.telProd
  let out := s.hr.telOut.filter (· != i)
  let s := { s with hr.telOut := out }
  let s := if status = 0 then s else hrErr s Reg.HR_ERR.TEL_WRITE none
  let after := coverIdx out s.hr.telProd
  if after = before then s else hapReq s true (dbAddr s 2308) 1 1 false (leBytes 4 after) (.telIdx after)

/-- Hands a completed request to its owner. DEDUCED (log 11, 18). -/
def routeDone (s : State) (r : MReq) (status : Nat) (data : List Byte) : State :=
  match r.purpose with
  | .event i => eventDone s i status r
  | .tel i => telDone s i status
  | .evIdx _ | .telIdx _ => if status = 0 then s else hrErr s Reg.HR_ERR.CPL_WRITE none
  | .cplIdx n _ => if status = 0 then s else hrErr s Reg.HR_ERR.CPL_WRITE (some n)
  | p => { s with hap.done := s.hap.done ++ [⟨p, status, data⟩] }

/-- Removes a request from those outstanding. -/
def dropReq (s : State) (tag : Nat) : State := { s with hap.out := s.hap.out.filter (·.tag != tag) }

/-- A response fits its request (R458). -/
def respFits (r : MReq) (m : MasterResp) : Bool := m.last && m.beats == (if r.write then 1 else r.beats)

/-- A response whose beats so far neither end it nor show a misfit. DEDUCED (log 15). -/
def respOpen (r : MReq) (m : MasterResp) : Bool := !m.last && decide (m.beats < (if r.write then 1 else r.beats))

/-- A response to an outstanding request: it completes the request with its status, or, where it does not fit, as TGTERR. Its
beats have passed. DEDUCED (log 15, 70). -/
def takeResp (s : State) (r : MReq) (m : MasterResp) : State :=
  let s := { s with hap.mq := passUpTo r.tag s.hap.mq }
  if respOpen r m then s
  else if respFits r m then
    let st := if m.chk == .bad then 3 else normStatus m.status.toNat
    let s := dropReq s r.tag
    let s := if st = 0 then s else hapFail s r.addr r.tag st
    routeDone s r st (if st = 0 then m.data else [])
  else
    let s := if m.last then dropReq s r.tag
      else { s with hap.out := lmod (·.tag == r.tag) (fun x => { x with misfitAt := some s.now }) s.hap.out }
    routeDone (hapFail s r.addr r.tag 1) r 1 []

/-- A response that FX-4 discards (R46), with the status that it carried (R50). -/
def strayResp (s : State) (tag status : Nat) : State := hapErr s Reg.HAP_ERR.STRAY 4 false 0 tag status

/-- The beats of a response complete a request: a double-bit error among them is then its status. DEDUCED (log 15). -/
def respCompletes (s : State) (m : MasterResp) : Bool := match s.hap.out.find? (·.tag == m.tag.toNat) with
  | some r => r.misfitAt.isNone && !respOpen r m && respFits r m
  | none => false

/-- CHK of every incoming beat is checked (R51): a corrected error is noted, and a double-bit error sets POISON, under the address of
the request that the tag has, or 0. DEDUCED (log 15). -/
def checkBeats (s : State) (m : MasterResp) : State := match m.chk with
  | .good => s
  | .corrected => chkCorr s
  | .bad =>
    if respCompletes s m then s
    else hapErr s Reg.HAP_ERR.POISON 3 true (((s.hap.out.find? (·.tag == m.tag.toNat)).map (·.addr)).getD 0) m.tag.toNat 3

/-- What a tag that is not outstanding makes of its response: a wrapper discards it (R52), a quarantine ends, or it is stray (R46).
DEDUCED (log 15). -/
def otherResp (s : State) (tag status : Nat) : State :=
  if s.hap.iso.contains tag then { s with hap.iso := s.hap.iso.filter (· != tag) }
  else if s.hap.quar.any (·.tag == tag) then strayResp { s with hap.quar := s.hap.quar.filter (·.tag != tag) } tag status
  else strayResp s tag status

/-- The status of a response as records and registers give it (R50, R51). -/
def respStatus (m : MasterResp) : Nat := if m.chk == .bad then 3 else normStatus m.status.toNat

/-- A transaction on HAP_MS is taken whole (R43, R46, R51, R458). -/
def hapResponse (s : State) (m : MasterResp) : State :=
  if !alive s then s
  else
    let tag := m.tag.toNat
    let s := checkBeats s m
    hapPump <| match s.hap.out.find? (·.tag == tag) with
      | some r => if r.misfitAt.isNone then takeResp s r m else if m.last then dropReq s tag else s
      | none => otherResp s tag (respStatus m)

/-- TIMEOUT_US has passed since the request was issued: it fails with TIMEOUT and its tag is quarantined (R46). -/
def hapTimeout (s : State) (tag : Nat) : State :=
  match s.hap.out.find? (fun r => r.tag == tag && r.misfitAt.isNone && r.timeoutUs != 0) with
  | none => s
  | some r =>
    let s := advanceTo s (r.issuedAt + us r.timeoutUs)
    let s := dropReq s tag
    let s := hapFail { s with hap.quar := s.hap.quar ++ [⟨tag, .response⟩] } r.addr tag 8
    hapPump (routeDone s r 8 [])

/-- TIMEOUT_US has passed since a misfit with no LAST: the tag is quarantined (R458). -/
def misfitTimeout (s : State) (tag : Nat) : State :=
  match s.hap.out.find? (fun r => r.tag == tag && r.misfitAt.isSome && r.timeoutUs != 0) with
  | none => s
  | some r =>
    let s := advanceTo s (r.misfitAt.getD 0 + us r.timeoutUs)
    hapPump (dropReq { s with hap.quar := s.hap.quar ++ [⟨tag, .response⟩] } tag)

/-- A quarantine that ends by itself ends (R379, R370). -/
def quarRelease (s : State) (tag : Nat) : State :=
  match s.hap.quar.find? (·.tag == tag) with
  | some ⟨_, .window⟩ =>
    if hostOpen s then
      let s := advanceTo s (s.rs.openAt + us 100)
      hapPump { s with hap.quar := s.hap.quar.filter (·.tag != tag) }
    else s
  | some ⟨_, .atTime t⟩ =>
    let s := advanceTo s t
    hapPump { s with hap.quar := s.hap.quar.filter (·.tag != tag) }
  | _ => s

/-- Takes the oldest completed request whose purpose satisfies p. DEDUCED (log 11). -/
def takeDone (s : State) (p : Purpose → Bool) : Option (Done × State) :=
  (s.hap.done.find? (fun d => p d.purpose)).map (fun d => (d, { s with hap.done := s.hap.done.erase d }))

/-- QUARANTINE_RELEASE (R379, R370). -/
def execQuarantineRelease (tag : BitVec 8) (s : State) : Host.Outcome State Fault Refusal := finish (quarRelease s tag.toNat)

end Sys2Proof.Machine
end

