-- ==== Sys2Proof/Machine/Levels.lean ====
section
/-! DEFINITION. Actuator values, the Brim, and the level of each cluster (R99, R100, R115, R116, R248, R443). Actuator
identifiers are those of R99: FREQ of tile agent t is t, DISP is 0x1000, VTGT of rail r is 0x2000 + r. -/

namespace Sys2Proof.Machine

def actFreq (t : Nat) : Nat := t
def actDisp : Nat := 0x1000
def actVtgt (r : Nat) : Nat := 0x2000 + r

/-- Every actuator of the block. -/
def allActs (s : State) : List Nat :=
  (List.range s.build.tiles).map actFreq ++ [actDisp] ++ (List.range s.build.rails).map actVtgt

/-- The control domain of an actuator (R113). -/
def actDom (s : State) (a : Nat) : Nat :=
  if a < 0x1000 then getF s (Reg.BE_ADOM_FREQ.DOM a)
  else if a < 0x2000 then getF s Reg.BE_ADOM_DISP.DOM
  else if a - 0x2000 < 8 then getF s (Reg.BE_ADOM_VTGT0.DOM (a - 0x2000))
  else getF s (Reg.BE_ADOM_VTGT1.DOM (a - 0x2008))

/-- The Brim value of an actuator, in its unit: a level, A/µs or mV (R116). -/
def brimVal (s : State) (a : Nat) : Nat :=
  if a < 0x1000 then getF s Reg.BRIM_FREQ.LEVEL + 1
  else if a < 0x2000 then getF s Reg.BRIM_DISP.RATE
  else
    let r := a - 0x2000
    400 + (if r % 2 = 0 then getF s (Reg.BRIM_VTGT.LO (r / 2)) else getF s (Reg.BRIM_VTGT.HI (r / 2)))

/-- The actuator's value from u, in Q1.15 steps (R99). A voltage of 1,400 mV is no ceiling. -/
def actFromU (s : State) (a u : Nat) : Nat :=
  if a < 0x1000 then u / 2048 + 1
  else if a < 0x2000 then (if u = 0x7FFF then getF s Reg.BE_DISP_FS.FS else u * getF s Reg.BE_DISP_FS.FS / 32768)
  else if u = 0x7FFF then 1400 else 400 + u * 1000 / 32768

/-- The inverse of R99, for a restart (R120). -/
def actToU (s : State) (a v : Nat) : Nat :=
  if a < 0x1000 then (v - 1) * 2048
  else if a < 0x2000 then ceilDiv (v * 32768) (getF s Reg.BE_DISP_FS.FS)
  else if 1400 ≤ v then 0x7FFF else ceilDiv ((v - 400) * 32768) 1000

/-- The actuator's domain is stopped, or its actuators are not yet released after a restart (R115, R120). -/
def actHeld (s : State) (a : Nat) : Bool :=
  let d := actDom s a
  bitAt s.be.stopped d || bitAt s.be.firstFrame d

/-- The hold of a stopped domain: the lower of the Brim value and the value at the stop (R115). The hold of a running domain after a
takeover is the value that the journal gave (R369). -/
def holdVal (s : State) (a : Nat) : Nat :=
  let v := tget 0xFFFF s.be.atStop a
  if bitAt s.be.carried (actDom s a) then v else min (brimVal s a) v

/-- The value FX-4 presents at an actuator (R100, R102, R115). -/
def actVal (s : State) (a : Nat) : Nat := if actHeld s a then holdVal s a else actFromU s a (tget 0x7FFF s.be.arb a)

/-- The stored value that VSEL selects for a rail, mV (R141). -/
def storedMv (s : State) (r : Nat) : Nat :=
  let j := 4 * r + s.pins.vsel / 2
  400 + (if s.pins.vsel % 2 = 0 then getPc s (Reg.RAIL_VSTORE.LO j) else getPc s (Reg.RAIL_VSTORE.HI j))

/-- RAILr_CFG.SRC: true for the load line (R142). -/
def railSrc (s : State) (r : Nat) : Bool := flagOn s (Reg.RAIL_CFG.SRC r)

/-- The VTGT ceiling of a rail, mV; a lower stored value acts as one in stored-value mode (R80, R142). DEDUCED (log 35). -/
def vtgtCeil (s : State) (r : Nat) : Nat :=
  let c := actVal s (actVtgt r)
  if railSrc s r then c else min c (storedMv s r)

/-- The voltage-frequency entry of a rail for a level, mV (R78). -/
def vfEntry (s : State) (r k : Nat) : Nat := match mfRail s r with
  | some m => m.vf.getD (k - 1) 0
  | none => 0

/-- The highest level whose entry a voltage supports; 0 where it supports none (R80). -/
def supported (s : State) (r mv : Nat) : Nat :=
  (List.range 16).foldl (fun best i => if vfEntry s r (i + 1) ≤ mv then max best (i + 1) else best) 0

/-- The level a cluster can reach at or below k in the throttle mode in force (R248). -/
def reachable (s : State) (k : Nat) : Nat :=
  if flagOn s Reg.TH_CFG.THR_MODE then
    if 16 ≤ k then 16 else if 8 ≤ k then 8 else if 6 ≤ k then 6 else if 4 ≤ k then 4 else max k 1
  else max k 1

/-- CL_DIV and CL_SKIP for a level (R248). -/
def throttle (s : State) (k : Nat) : Nat × Nat :=
  if flagOn s Reg.TH_CFG.THR_MODE then
    (if 16 ≤ k then 0 else if 8 ≤ k then 1 else if 6 ≤ k then 2 else if 4 ≤ k then 3 else if k = 3 then 5
      else if k = 2 then 7 else 15, 0)
  else (0, 16 - k)

/-- The level of the deterministic plan in force, less DOWN (R295). -/
def planLevel (s : State) : Option Nat :=
  if flagOn s Reg.BG_CFG.DET_EN && s.bg.plan.isSome then s.bg.planNow.map (fun p => max 1 (p - s.bg.down)) else none

/-- What the arbitration or the plan gives a cluster under every hold and ceiling (R443, R295). DEDUCED (log 35). -/
def ceilLevel (s : State) (t : Nat) : Nat :=
  let base := actVal s (actFreq t)
  let base := match planLevel s with
    | some p => if actHeld s (actFreq t) then min p base else p
    | none => base
  let k := if s.pc.brake then min base (getPc s Reg.PC_BRAKE0.FREQ + 1) else base
  let k := min k (tget ({} : ThCeil) s.th.ceils t).level
  let k := if s.bg.ceil || s.bg.stop then min k (getF s Reg.BG_CFG.CEIL_LEVEL + 1) else k
  if s.bg.pacing && !flagOn s Reg.BG_CFG.DET_EN then min k s.bg.paceLevel else k

/-- The level of a cluster before the voltage limit: steps 1 and 2 of R443; level 1 from a hard stop or the start of a wave (R253, R394).
DEDUCED (log 35). -/
def wantLevel (s : State) (t : Nat) : Nat := if (tile s t).levelOne then 1 else ceilLevel s t

/-- The level the sequencer may grant a cluster now: the want, limited by the voltage target, rounded to a reachable level. Where the
target supports no level none is granted, and the cluster stays at level 1, or goes down to it at once, since a cluster has no lower one
(R79, R80, R248). DEDUCED (log 35). -/
def grantLevel (s : State) (t : Nat) : Nat :=
  let r := (mfTile s t).rail
  reachable s (min (wantLevel s t) (supported s r (vtgtCeil s r)))

/-- The required level of a rail: the highest of the commanded and applied levels of its clusters (R78). -/
def reqLevel (s : State) (r : Nat) : Nat :=
  (railTiles s r).foldl (fun m t => max m (max (tile s t).cmd (tile s t).applied)) 1

/-- Effects of the Phase Book act: the tracker is neither LOST nor OFF (R210). -/
def pbOn (s : State) : Bool := s.sa.state == .acquiring || s.sa.state == .tracking

/-- The highest value of the active effects of a kind on a target (R210). -/
def pbMax (s : State) (kind target : Nat) : Nat :=
  s.pb.active.foldl (fun m a => if a.kind == kind && a.target == target then max m a.value else m) 0

/-- Pre-open contributed by the active forecasts, A (R220). -/
def fcPreopen (s : State) : Nat :=
  s.pb.active.foldl (fun m a => if a.kind == 0 then max m (a.value * getF s Reg.PB_LIMIT.FC_FRAC / 128) else m) 0

/-- The pre-open floor in force, A (R210). -/
def pbPreopen (s : State) : Nat :=
  if pbOn s then min (getF s Reg.PB_LIMIT.PREOPEN_MAX_A) (max (max (pbMax s 1 0) (fcPreopen s)) s.pb.autoPre) else 0

/-- The phase floor of a rail (R210). -/
def pbFloor (s : State) (r : Nat) : Nat := if pbOn s then pbMax s 2 r else 0

/-- The boost of a rail in force, mV (R210, R213). -/
def pbBoost (s : State) (r : Nat) : Nat :=
  if pbOn s then
    min (getF s Reg.PB_LIMIT.BOOST_MAX_MV) (max (pbMax s 3 r) (if (railTiles s r).isEmpty then 0 else s.pb.autoBoost))
  else 0

/-- Frame a lies after frame b, as the 32-bit frame count wraps. -/
def laterFrame (a b : Nat) : Bool := let d := (a + 2 ^ 32 - b) % 2 ^ 32; decide (0 < d) && decide (d < 2 ^ 31)

/-- The SETPOINT action of a channel that started last (R212). -/
def pbLast (s : State) (ch : Nat) : Option PbActive :=
  s.pb.active.foldl (fun m a =>
    if a.kind == 4 && a.target == ch then match m with
      | none => some a
      | some b => match a.eff, b.eff with
        | .action i, .action j => if laterFrame a.frame b.frame || (b.frame == a.frame && decide (j < i)) then some a else some b
        | _, _ => some b
    else m) none

/-- The set-point target of a loop with SP_SRC = 10 (R212, R224). -/
def pbSp (s : State) (l : Nat) : Int := match s.pb.prog with
  | none => 0
  | some p => match p.chans.findIdx? (·.1 == l) with
    | none => 0
    | some ch => toSigned 16 (if pbOn s then match pbLast s ch with
        | some a => a.value
        | none => (p.chans.getD ch (0, 0)).2
      else (p.chans.getD ch (0, 0)).2)

/-- Boost of a rail from the Phase Book, mV: 0 while the brake is on or the rail is stopping (R211, R445). -/
def railBoost (s : State) (r : Nat) : Nat :=
  if s.pc.brake || (rail s r).st == .stopping || (rail s r).fastOff then 0 else pbBoost s r

end Sys2Proof.Machine
end

