-- ==== Sys2Proof/Machine/TileOps.lean ====
section
/-! DEFINITION. What a tile agent does with its credits, its engines and its cluster's power, shared by the credit rows, the
resets and the shutdowns (R184 to R187, R192). -/

namespace Sys2Proof.Machine

/-- The open recall: the mark less the tile agent's own running total of returns, where that is above 0 (R189). An orphan answers
no recall (R195). DEDUCED (log 47). -/
def recallOpen (x : Tile) : Nat :=
  let d := (x.mark + 2 ^ 32 - x.retTot) % 2 ^ 32
  if d < 2 ^ 31 && !x.orphan then d else 0

/-- Sends n credits toward the hub, with the running total (R192). -/
def sendHub (x : Tile) (n : Nat) : Tile :=
  if n = 0 then x
  else { x with retTot := (x.retTot + n) % 2 ^ 32, up := x.up ++ [⟨n, (x.retTot + n) % 2 ^ 32⟩] }

/-- A running engine's credits come back: an open recall is served first, the rest goes to the pool (R185). -/
def returnCost (x : Tile) (e : Nat) : Tile :=
  let g := eng x e
  if g.running then
    let r := min g.cost (recallOpen x)
    let x := sendHub { x with held := x.held - g.cost } r
    setEng { x with pool := x.pool + (g.cost - r) } e { g with running := false, cost := 0, opMax := false }
  else x

/-- A reset reaches an engine (R187): its held credits come back, and its record is cleared. -/
def resetEngine (x : Tile) (e : Nat) : Tile := setEng (returnCost x e) e {}

/-- Sends the whole pool to the hub. -/
def sendPool (x : Tile) : Tile := { sendHub x x.pool with pool := 0 }

/-- Answers an open recall from the pool (R189). -/
def serveRecall (x : Tile) : Tile :=
  let r := min x.pool (recallOpen x)
  { sendHub x r with pool := x.pool - r }

/-- A reset reaches the cluster, or it is ordered off: every engine is reset, the pool goes to the hub, and CL_PWR_EN goes low
once no credits are held (R187, R332, R253). -/
def clusterOff (x : Tile) : Tile :=
  let x := (List.range 64).foldl (fun x e => if (eng x e).running then resetEngine x e else x) x
  let x := sendPool x
  { x with pwrEn := if x.held = 0 then false else x.pwrEn, offOrder := x.held != 0 }

/-- Sends a level to a tile agent over the hub ring (R79). -/
def orderLevel (x : Tile) (k : Nat) : Tile := { x with order := some k, cmd := k }

/-- The level a tile agent applies: the lower of the order and its own ceilings (R443, R247, R195). -/
def localLevel (x : Tile) (k : Nat) : Nat :=
  let k := min k x.localCeil
  let k := if x.orphan then min k x.brimRx else k
  if x.localTrip then 1 else k

/-- Applies a level at CL_DIV and CL_SKIP (R248). -/
def applyLevel (s : State) (x : Tile) (k : Nat) : Tile :=
  let k := reachable s (localLevel x k)
  let (d, n) := throttle s k
  { x with level := k, div := d, skip := n }

/-- The counts of R198 of a tile agent. -/
def lwCounts (x : Tile) : List Nat := [x.waitCredit, x.waitStop, x.stretchCyc, x.grantCnt, x.stretches, x.uvfs]

/-- Sets an error bit of CC_ERR and raises the droop and credit event of its code (R342, class 0x06). -/
def ccEvent (s : State) (f : Fld) (code unit : Nat) (det : List Byte) : State := raiseEvent (setF s f 1) 6 code unit det

/-- A hub reaches a tile agent that was orphaned: CC_ERR records it (R195). -/
def seeOrphan (s : State) (t : Nat) : State :=
  let x := tile s t
  if x.orphan && !x.orphanSeen then setF (setTile s t { x with orphanSeen := true }) Reg.CC_ERR.ORPHAN 1 else s

end Sys2Proof.Machine
end

