-- ==== Sys2Proof/Machine/RailOps.lean ====
section
/-! DEFINITION. What the phase controllers do to a rail and its ports, shared by the rows of the regulator, the shutdowns and the
resets (R134 to R166, R445, R446). -/

namespace Sys2Proof.Machine

/-- Units of 0.5 µV in a millivolt. DEDUCED (log 66). -/
def mv (n : Nat) : Nat := 2000 * n

/-- FIRES, JOINS and the falling edges of PH_EN_N are counted as a port's state changes (R417); the periods of R166 are consecutive in
ACTIVE. DEDUCED (log 66). -/
def toState (p : Port) (st : PortSt) : Port :=
  let q : Port := { p with st := st, imbRun := if st == .active then p.imbRun else 0, balRun := if st == .active then p.balRun else 0 }
  { q with
    joins := if portOn q && !portOn p then satAdd 0xFFFFFFFF p.joins 1 else p.joins
    fires := if st == .fire && p.st != .fire then satAdd 0xFFFF p.fires 1 else p.fires }

/-- Ports of a rail in given states. -/
def portsIn (s : State) (r : Nat) (f : PortSt → Bool) : List Nat := (railPorts s r).filter (fun p => f (port s p).st)

/-- N_active and N_avail (R134). -/
def nActive (s : State) (r : Nat) : Nat :=
  (portsIn s r (fun t => t == .joining || t == .active || t == .draining || t == .fire)).length
def nAvail (s : State) (r : Nat) : Nat := nActive s r + (portsIn s r (· == .standby)).length

/-- I_rail in 0.03125 A: the last IPH of every port in JOINING, ACTIVE or DRAINING (R137). It is formed from the ports' states at every
use: R137 updates it at each accepted frame, and leaves open what it holds where a port changes state between frames, as when all of
them fire. DESIGN CHOICE (log 74). -/
def iRail (s : State) (r : Nat) : Int :=
  (portsIn s r (fun t => t == .joining || t == .active || t == .draining)).foldl (fun a p => a + (port s p).iph) 0

/-- Period power of the chip (R168) in 7.8125 µW: the sum over the UP rails of their last complete period, signed as I_rail is. -/
def periodPower (s : State) : Int :=
  (mfRails s).foldl (fun n r => if (rail s r).st == .up then n + (rail s r).power else n) 0

/-- Chip power P_f (R269), in 7.8125 µW. The counts of energy only rise: where the sum lies below 0, it counts as 0.
DESIGN CHOICE (log 74). -/
def chipPower (s : State) : Nat := (periodPower s).toNat

/-- What limits the moving Vset, mV: the VTGT ceiling, and, while a tile agent has still to report a lower level that the ceiling asks for,
the entry of the level that it counts with (R79, R211). DEDUCED (log 35). -/
def vsetCap (s : State) (r : Nat) : Nat :=
  let c := actVal s (actVtgt r)
  if (railTiles s r).isEmpty || decide (reqLevel s r ≤ max 1 (supported s r c)) then c else max c (vfEntry s r (reqLevel s r))

/-- The goal of the moving Vset of the load-line mode with a boost in mV, in 0.5 µV (R136, R211). -/
def vsetWith (s : State) (r boost : Nat) : Nat :=
  let base := if (railTiles s r).isEmpty then 400 + getPc s (Reg.RAIL_VSET.VSET r) else (vfsRail s r).goal
  mv (min (min (base + boost) (vsetCap s r)) 1400)

def vsetGoal (s : State) (r : Nat) : Nat := vsetWith s r (railBoost s r)

/-- The load-line target in 0.25 mV: Vset - R_LL × I_rail, exact, rounded to nearest even and clamped to 1,400 mV (R137). -/
def loadLine (s : State) (r vset : Nat) : Nat :=
  (clampInt 0 5600 (roundEven ((vset : Int) * 64 - (getPc s (Reg.RAIL_VSET.RLL r) : Int) * iRail s r) 32000)).toNat

/-- The rail's voltage target in 0.25 mV (R446). -/
def railTarget (s : State) (r : Nat) : Nat :=
  let x := rail s r
  match x.st with
  | .off | .delay | .test | .hiccup | .faulted => if x.fastOff then (roundEven x.tgt 500).toNat else 0
  | .up => if x.fastOff || x.srcMove || !railSrc s r then (roundEven x.tgt 500).toNat else loadLine s r x.vset
  | _ => (roundEven x.tgt 500).toNat

/-- One step of a moving value. -/
def moveTo (cur goal step : Nat) : Nat := if cur < goal then min goal (cur + step) else max goal (cur - step)

/-- The target of a rail that is UP moves over 10 ns (R142, R446). -/
def moveUp (s : State) (r : Nat) (x : Rail) : Rail :=
  let slew := getPc s Reg.VFS_CFG.SLEW + 1
  let stored := mv (storedMv s r)
  if railSrc s r then
    let vset := moveTo x.vset (vsetGoal s r) slew
    let vset0 := moveTo x.vset0 (vsetWith s r 0) slew
    let goal := 500 * loadLine s r vset
    let goal0 := 500 * loadLine s r vset0
    if x.srcMove then
      let t := moveTo x.tgt goal slew
      { x with vset := vset, vset0 := vset0, tgt := t, tgt0 := moveTo x.tgt0 goal0 slew, srcMove := t != goal }
    else { x with vset := vset, vset0 := vset0, tgt := goal, tgt0 := goal0 }
  else
    let wait := decide (stored < x.tgt) && !(railTiles s r).isEmpty && decide (storedMv s r < vfEntry s r (reqLevel s r))
    let move := fun (t : Nat) => if wait then t else moveTo t stored (if x.srcMove then slew else getPc s (Reg.RAIL_SEQ_ON.RAMP r) + 1)
    { x with vset := vsetGoal s r, vset0 := vsetWith s r 0, tgt := move x.tgt, tgt0 := move x.tgt0
             srcMove := x.srcMove && move x.tgt != stored }

/-- A rail's target moves over 10 ns, by the first rule of R446 that applies. -/
def moveTarget (s : State) (r : Nat) (x : Rail) : Rail :=
  if x.fastOff then { x with tgt := x.tgt - 256 }
  else match x.st with
    | .stopping => { x with tgt := x.tgt - (getPc s (Reg.RAIL_SEQ_OFF.RAMP r) + 1) }
    | .ramp | .settle => { x with tgt := moveTo x.tgt (mv (storedMv s r)) (getPc s (Reg.RAIL_SEQ_ON.RAMP r) + 1) }
    | .up => moveUp s r x
    | _ => x

/-- A regulator event (R342, class 0x05). -/
def regEvent (s : State) (code unit cause p : Nat) : State := raiseEvent s 5 code unit (leBytes 1 cause ++ leBytes 1 p)

/-- RAILr_FLT[7:0]. -/
def railFlt (s : State) (r : Nat) : Nat :=
  getF s (Reg.RAIL_FLT.SHORT r) + 2 * getF s (Reg.RAIL_FLT.START_TO r) + 4 * getF s (Reg.RAIL_FLT.OV r) +
    8 * getF s (Reg.RAIL_FLT.UV r) + 16 * getF s (Reg.RAIL_FLT.MASS_LOSS r) + 32 * getF s (Reg.RAIL_FLT.CAPACITY r) +
    64 * getF s (Reg.RAIL_FLT.FIRE_MAX r)

/-- Sets a cause in RAILr_FLT and raises the regulator event of a rail fault (R154). -/
def railFault (s : State) (r : Nat) (f : Fld) (code : Nat) : State :=
  let s := setF s f 1
  regEvent s code (railUnit r) (railFlt s r) 0

/-- The capacity judgement (R154): one event each time the bit goes from 0 to 1. DEDUCED (log 42). -/
def capacity (s : State) (r : Nat) : State :=
  match mfRail s r with
  | some m =>
    if (rail s r).st == .up && decide (nAvail s r * getPc s (Reg.RAIL_SHED.I_PER_PHASE r) < m.design)
        && !flagOn s (Reg.RAIL_FLT.CAPACITY r) then railFault s r (Reg.RAIL_FLT.CAPACITY r) 2
    else s
  | none => s

/-- What becomes of a port when its rail is disabled: a spare still in TEST goes back to SPARE, SPARE and RETIRED stay, and any
other goes to `st` (R135, R155). -/
def portDown (st : PortSt) (p : Port) : Port :=
  match p.st with
  | .spare | .retired => p
  | .test => if p.lphase.isNone then { toState p .spare with forPhase := none, testN := 0, goodRun := 0, vswHi := 0, missed8 := [] }
      else toState p st
  | _ => toState p st

/-- Every port of a rail leaves its state together. -/
def portsDown (s : State) (r : Nat) (st : PortSt) : State :=
  (railPorts s r).foldl (fun s p => modPort s p (portDown st)) s

/-- A rail is disabled: PH_EN_N high on every port, the rail and its ports in the states given (R148, R149, R154). -/
def disableRail (s : State) (r : Nat) (st : RailSt) (pst : PortSt) : State :=
  modRail (portsDown s r pst) r (fun x => { x with
    st := st, tgt := 0, fastOff := false, fltOff := false, srcMove := false, firing := false, armed := false, drain := none,
    belowSince := none, shedding := false, shortRun := 0, ovRun := 0, uvRun := 0, iacc := 0, duty := 0, frozen := false,
    first := true, testOn := false, settledAt := none, fireHold := false, stepAt := s.now })

/-- A marked-absent unit, or a spare brought in: a Reset and spares event (R413). -/
def spareEvent (s : State) (code unit kind : Nat) : State := raiseEvent s 0x0E code unit (leBytes 1 kind)

/-- A port is retired (R155): pins off, cause recorded, an event that names the logical phase, and the phase waits for a spare.
DEDUCED (log 42). R166 names only the clearing of IMB after 64 periods: a retirement clears it too. DESIGN CHOICE (log 82). A spare that
fails its test has carried no phase yet (R135, R414). -/
def retirePort (s : State) (r p cause : Nat) : State :=
  let x := port s p
  let ph := match x.lphase with
    | some l => some l
    | none => x.forPhase
  let s := setPort s p { toState x .retired with
    cause := cause, lphase := none, was := x.lphase, forPhase := none, fault := 0, imb := false }
  let s := modRail s r (fun y => { y with
    need := match ph with
      | some l => if y.need.contains l then y.need else y.need ++ [l]
      | none => y.need
    drain := match y.drain with
      | some d => if d.port = p then none else some d
      | none => none
    belowSince := match y.drain with
      | some d => if d.port = p then none else y.belowSince
      | none => y.belowSince
    shedding := match y.drain with
      | some d => if d.port = p then false else y.shedding
      | none => y.shedding })
  regEvent s 1 (phaseUnit r (ph.getD 0)) cause p

/-- The lowest-numbered spare port of a rail in SPARE. -/
def lowestSpare (s : State) (r : Nat) : Option Nat :=
  (portsIn s r (· == .spare)).foldl (fun a p => match a with
    | some q => some (min p q)
    | none => some p) none

/-- A spare is tried for one logical phase that waits for one; where none is left the phase is marked absent (R155, R156). -/
def trySpare (s : State) (r ph : Nat) : State :=
  if (railPorts s r).any (fun p => (port s p).st == .test && (port s p).forPhase == some ph) then s
  else match lowestSpare s r with
    | some p => modPort s p (fun x => { toState x .test with
        forPhase := some ph, testN := 0, goodRun := 0, vswHi := 0, missed8 := [], missRun := 0, got := false, late := false })
    | none =>
      let s := modRail s r (fun y => { y with need := y.need.filter (· != ph), absent := y.absent ++ [ph] })
      capacity (spareEvent s 4 (phaseUnit r ph) 4) r

/-- Spares are brought in at a period boundary of a rail in TEST, RAMP, SETTLE, UP or STOPPING (R155). -/
def bringSpares (s : State) (r : Nat) : State := (rail s r).need.foldl (fun s ph => trySpare s r ph) s

/-- A port passes the short test (R135, R145): a logical phase's port enters STANDBY, and a spare takes its logical number first. -/
def passTest (s : State) (r p : Nat) : State :=
  let x := port s p
  match x.forPhase with
  | some ph =>
    let s := setPort s p { toState x .standby with lphase := some ph, forPhase := none }
    let s := modRail s r (fun y => { y with need := y.need.filter (· != ph) })
    spareEvent s 3 (phaseUnit r ph) 5
  | none => setPort s p (toState x .standby)

/-- Fire may be taken on a rail: RAMP, SETTLE or UP, and no fast off (R445). -/
def canFire (s : State) (r : Nat) : Bool :=
  let x := rail s r
  (x.st == .ramp || x.st == .settle || x.st == .up) && !x.fastOff && !x.firing

/-- All-phase fire (R158, R159): every port in STANDBY, JOINING, ACTIVE or DRAINING enters FIRE, and a drain is aborted.
DEDUCED (log 43). A fire breaks a port's run of missing frames, of which R152 does not speak. DESIGN CHOICE (log 82). -/
def fireRail (s : State) (r : Nat) : State :=
  let x := rail s r
  let s := (portsIn s r (fun t => t == .standby || t == .joining || t == .active || t == .draining)).foldl
    (fun s p => modPort s p (fun q => { toState q .fire with missRun := 0 })) s
  let s := if x.drain.isSome then incSat s (Reg.RAIL_CNT.SHED_ABORTS r) else s
  let s := modRail s r (fun y => { y with
    firing := true, fireAt := s.now, drain := none, belowSince := none, shedding := false })
  incSat s (Reg.RAIL_CNT.FIRES r)

/-- The end of fire (R160): the ports enter ACTIVE, and shed decisions wait FIRE_HOLD_US. DEDUCED (log 43). -/
def endFire (s : State) (r : Nat) : State :=
  let s := (portsIn s r (· == .fire)).foldl (fun s p => modPort s p (fun q => { toState q .active with got := true, late := false })) s
  modRail s r (fun y => { y with
    firing := false, fireEndAt := s.now, fireHold := getPc s (Reg.RAIL_FIRE.FIRE_HOLD_US r) != 0, belowSince := none,
    shedding := false })

/-! ## Sequences -/

/-- Groups rails by RAILr_CFG.ORDER, ascending (R144). -/
def orderGroups (s : State) (rails : List Nat) : List (List Nat) :=
  ((List.range 16).map (fun o => rails.filter (fun r => getPc s (Reg.RAIL_CFG.ORDER r) == o))).filter (fun g => !g.isEmpty)

/-- A rail is down for a stop sequence. -/
def railDown (s : State) (r : Nat) : Bool := (rail s r).st == .off || (rail s r).st == .faulted

/-- Rails FAULTED among some, as the DETAIL of RAIL_FAILED (R336). -/
def faultedMask (s : State) (rails : List Nat) : Nat := ofBits (rails.filter (fun r => (rail s r).st == .faulted))

/-- Replaces a sequence by another. -/
def setRailJob (s : State) (old new : RailJob) : State := { s with pc.jobs := s.pc.jobs.map (fun j => if j = old then new else j) }
def dropRailJob (s : State) (j : RailJob) : State := { s with pc.jobs := s.pc.jobs.filter (· != j) }

/-- Begins the delay of the next start group: rails that are not UP enter DELAY (R144). DEDUCED (log 41). -/
def beginGroup (s : State) (g : List Nat) (start : Bool) : State :=
  if start then g.foldl (fun s r => modRail s r (fun x => { x with st := .delay, stepAt := s.now, retries := 0, byStart := false })) s
  else s

/-- A rail of a start group has come UP, failed or been taken down. -/
def startOver (s : State) (r : Nat) : Bool :=
  match (rail s r).st with
  | .delay | .test | .ramp | .settle | .hiccup => false
  | _ => true

/-- The stop of what a failed start brought UP, in descending ORDER (R151). DEDUCED (log 41). -/
def failedStop (s : State) (j : RailJob) : RailJob :=
  { j with
    start := false, cur := [], delayAt := s.now
    groups := (orderGroups s (j.mask.filter (fun q => (rail s q).byStart && (rail s q).st == .up))).reverse }

/-- Advances one sequence: the next group begins when the current one is done, and the command completes after the last.
DEDUCED (log 41). -/
def stepJob (s : State) (j : RailJob) : State :=
  let done := j.cur.all (fun r => if j.start then startOver s r else railDown s r)
  let k := if j.start && j.failed then failedStop s j else j
  if !done then s
  else match k.groups.dropWhile (fun g => !k.start && g.all (railDown s)) with
    | g :: rest =>
      let g := if k.start then g else g.filter (fun r => !railDown s r)
      setRailJob (beginGroup s g k.start) j { k with groups := rest, cur := g, delayAt := s.now }
    | [] =>
      let s := dropRailJob s j
      if j.failed then completeOpt s j.key 0x000E (faultedMask s j.mask) else completeOpt s j.key 0 0

/-- Every sequence looks whether its group is done. -/
def stepJobs (s : State) : State := s.pc.jobs.foldl (fun s j => if s.pc.jobs.contains j then stepJob s j else s) s

/-- The sequence that has a rail in its present group. -/
def jobOf (s : State) (r : Nat) : Option RailJob := s.pc.jobs.find? (fun j => j.cur.contains r)

/-- A start fails (R151): the rail is FAULTED and its ports OFF, the groups not begun are abandoned, and what the start brought
UP is stopped in descending ORDER, once no rail of the group is on its way, before the command completes with failure. -/
def failStart (s : State) (r : Nat) (f : Fld) : State :=
  let s := disableRail s r .faulted .off
  let s := railFault s r f 3
  match jobOf s r with
  | none => s
  | some j => stepJobs (if j.start then setRailJob s j { j with failed := true, groups := [] } else s)

/-- A rail comes UP (R144): its load-line move begins where SRC is 1. -/
def railUp (s : State) (r : Nat) : State :=
  let s := setVfs s r { (vfsRail s r) with goal := vfEntry s r (reqLevel s r) }
  let s := modRail s r (fun x => { x with
    st := .up, byStart := true, srcMove := railSrc s r, vset := vsetGoal s r, vset0 := vsetWith s r 0, tgt0 := x.tgt, ovRun := 0, uvRun := 0, shortRun := 0 })
  capacity (stepJobs s) r

/-- A fast off begins on every rail (R149, R445): a fire ends, a rail without voltage is disabled at once, and every ramp is
replaced. A RAIL_START in flight completes with SHUTDOWN (R453). DEDUCED (log 41). -/
def fastOffAll (s : State) (sd : Nat) : State :=
  let s := s.pc.jobs.foldl (fun s j =>
    if j.start || j.failed then completeOpt (dropRailJob s j) j.key 0x000C sd else s) s
  (mfRails s).foldl (fun s r =>
    let x := rail s r
    match x.st with
    | .off | .faulted => s
    | .delay | .test | .hiccup => disableRail s r .off .off
    | _ =>
      let s := if x.firing then endFire s r else s
      modRail s r (fun y => { y with
        tgt := 500 * railTarget s r, st := .stopping, fastOff := true, srcMove := false, drain := none, iacc := 0 })) s

/-- Every PH_EN_N is high: no port of a rail is on. -/
def allDisabled (s : State) : Bool := s.pc.ports.all (fun p => !portOn p.2) && s.pc.rails.all (fun p => !p.2.fastOff)

end Sys2Proof.Machine
end

