-- ==== Sys2Proof/Machine/TimeBase.lean ====
section
/-! DEFINITION. Reference sources, trimming, the Timing Link and rack time (R62 to R77). -/

namespace Sys2Proof.Machine

/-- CLK_MODE as committed (R33). -/
def clkMode (s : State) : Nat := getF s Reg.RS_STRAPS.CLK_MODE

def srcCode : Src → Nat
  | .rc => 0
  | .xtal => 1
  | .tl => 2

/-- TB_STATUS.TRIM_REF (R71). -/
def trimRef (s : State) : Nat :=
  if clkMode s = 1 then 0 else match s.tb.src with
    | .tl => 2
    | .xtal => 1
    | .rc => if s.tb.marks then 3 else 0

/-- TB_STATUS.QUALITY, by the encoding table; 3 from a loss that leaves the RC oscillator with its trim frozen until a trim reference
returns (R72). -/
def quality (s : State) : Nat :=
  if clkMode s = 1 && s.rs.committed then 5
  else if s.tb.src == .rc && s.tb.lostHigher && trimRef s == 0 then 3
  else if !s.tb.aligned then (if s.tb.src == .tl && s.tb.seenFrame && !s.tb.valid then 1 else 4)
  else match s.tb.src with
    | .tl => if s.tb.valid then 0 else 1
    | .xtal => 2
    | .rc => 3

/-- TB_STATUS. -/
def tbStatus (s : State) : Nat :=
  srcCode s.tb.src + 4 * b2n s.tb.tlStable + 8 * b2n s.tb.xtalStable + 16 * b2n s.tb.rcTrimmed + 32 * trimRef s +
    128 * b2n (s.tb.slewLeft != 0) + 256 * quality s + 2048 * b2n s.tb.pllStable

/-- The offset of R74, in ps: manifest delay plus pin latency. -/
def tbOffset (s : State) : Nat := s.tb.pinLatPs + (match s.mf with
  | some m => m.tlDelayPs
  | none => 0)

/-- DETAIL of a time-base event (R342). -/
def tbDetail (s : State) (step : Int) (r : Nat) : List Byte := leBytes 8 (ofSigned 64 step) ++ leBytes 2 (tbStatus s) ++ leBytes 1 r

/-- Sets a bit of TB_ERR; going from 0 to 1 it raises a time-base event (R69). -/
def tbErr (s : State) (f : Fld) (bit : Nat) : State :=
  if flagOn s f then s else
    let s := setF s f 1
    raiseEvent s 2 bit (hubUnit s) (tbDetail s 0 0)

/-- A source may be returned to (R68): it is stable, and where it was lost, it has been so for REVERT_HOLD_MS, which is not 0. -/
def mayReturn (s : State) (stable lost : Bool) (since : Nat) : Bool :=
  let hold := getF s Reg.TB_CFG.REVERT_HOLD_MS
  stable && (!lost || (hold != 0 && decide (since + ms hold ≤ s.now)))

/-- The best source that is stable, for a switch away from the lost one x (R66): one of higher priority than x only where it may be
returned to (R68). DEDUCED (log 34). -/
def nextSource (s : State) (x : Src) : Src :=
  if clkMode s = 3 && mayReturn s s.tb.tlStable (s.tb.tlLost && x != .tl) s.tb.tlStableAt then .tl
  else if mayReturn s s.tb.xtalStable (s.tb.xtalLost && x == .rc) s.tb.xtalStableAt then .xtal else .rc

/-- Trim windows begin anew where the trim reference is not what it was (R71). DEDUCED (log 34). -/
def trimRestart (s : State) : State := { s with tb.trimFrom := s.now, tb.trimMarks := 0 }
def trimFollow (was : Nat) (s : State) : State := if trimRef s = was then s else trimRestart s

/-- A source is selected; with the first selection the count of hub PLL lock begins (R70). DEDUCED (log 34). -/
def selectSource (s : State) (x : Src) : State :=
  { s with tb.switchTo := some x, tb.waited := true, tb.pllFrom := s.tb.pllFrom.or (some s.now) }

/-- The source in use, or the one that a switch under way goes to. -/
def aimSource (s : State) : Src := s.tb.switchTo.getD s.tb.src

/-- A source has been judged stable (R66, R68, R70). Before the first selection the source that CLK_MODE puts first is selected; after
it, one of higher priority than that in use is, unless it was lost before, when REVERT_TO_SOURCE returns to it. DEDUCED (log 34). -/
def stableSelect (s : State) (x : Src) (lost : Bool) : State :=
  if s.tb.waited then (if !lost && decide (srcCode (aimSource s) < srcCode x) then selectSource s x else s)
  else if x == .tl || clkMode s == 2 then selectSource s x
  else s

/-- Reference cycles that 65,536 cycles of an oscillator last (R63). -/
def oscCycles : Osc → Nat
  | .rc => 40960
  | .tl | .pll => 65536
  | .xtal => 163840

/-- An oscillator whose count runs is judged stable at its end (R63): the RC oscillator counts from the supply, through RESET_N (R380),
the crystal from the clocks release, the Timing Link from CDR lock, and the hub PLL from the selection of a source (R70).
DEDUCED (log 34). -/
def oscStable (o : Osc) (s : State) : State :=
  let done := fun (from_ : Nat) => advanceTo s (from_ + oscCycles o)
  match o with
  | .rc => match s.tb.rcFrom with
    | some t => if s.pins.vdd then (let s := done t; { s with tb.rcStable := true, tb.rcFrom := none, tb.rcStableAt := s.now }) else s
    | none => s
  | .tl => match s.tb.tlFrom with
    | some t => if released s 2 && s.tb.tlOn then
        (let s := done t; stableSelect { s with tb.tlStable := true, tb.tlFrom := none, tb.tlStableAt := s.now } .tl s.tb.tlLost) else s
    | none => s
  | .xtal => match s.tb.xtalFrom with
    | some t => if released s 2 && s.tb.xtalOn then
        (let s := done t; stableSelect { s with tb.xtalStable := true, tb.xtalFrom := none, tb.xtalStableAt := s.now } .xtal s.tb.xtalLost)
      else s
    | none => s
  | .pll => match s.tb.pllFrom with
    | some t => if released s 2 && !s.tb.pllStable then (let s := done t; { s with tb.pllStable := true }) else s
    | none => s

def execOscStable (o : Osc) (s : State) : Host.Outcome State Fault Refusal := finish (oscStable o s)

/-- 10 ms after the clocks release with CLK_MODE 11, the crystal is selected, or, where it is not stable, the RC oscillator, which is then
the highest source that is (R66, R70). -/
def tlWaitTimeout (s : State) : State :=
  if released s 2 && !s.tb.waited && clkMode s = 3 then
    let s := advanceTo s (s.rs.stepAt + ms 10)
    selectSource s (if s.tb.xtalStable then .xtal else .rc)
  else s

def execTlWaitTimeout (s : State) : Host.Outcome State Fault Refusal := finish (tlWaitTimeout s)

/-- The synthesiser leaves a lost source (R66, R67). DEDUCED (log 34). -/
def leaveSource (x : Src) (s : State) : State :=
  if s.tb.src == x || s.tb.switchTo == some x then { s with tb.switchTo := some (nextSource s x), tb.lostHigher := true }
  else { s with tb.lostHigher := true }

/-- Running on the RC oscillator after a higher-priority source was lost (R69). -/
def holdoverRc (s : State) : State := if s.tb.src == .rc && s.tb.lostHigher then tbErr s Reg.TB_ERR.HOLDOVER_RC 2 else s

/-- The Timing Link is judged lost (R64, R69): its stability count restarts. -/
def tlLoss (s : State) : State :=
  if released s 2 && s.tb.tlOn then
    let t := trimFollow (trimRef s) { s with
      tb.tlStable := false, tb.tlLost := true, tb.tlFrom := if s.tb.tlStable || s.tb.tlFrom.isSome then some s.now else none
      tb.marks := false, tb.badMarks := 0, tb.disagree := 0 }
    holdoverRc (tbErr (leaveSource .tl t) Reg.TB_ERR.TL_LOSS 0)
  else s

def execTlLoss (s : State) : Host.Outcome State Fault Refusal := finish (tlLoss s)

/-- The crystal is judged lost (R64, R69). -/
def xtalLoss (s : State) : State :=
  if released s 2 && s.tb.xtalOn then
    holdoverRc (tbErr (leaveSource .xtal { s with tb.xtalStable := false, tb.xtalLost := true, tb.xtalFrom := some s.now })
      Reg.TB_ERR.XTAL_LOSS 1)
  else s

def execXtalLoss (s : State) : Host.Outcome State Fault Refusal := finish (xtalLoss s)

/-- The reference comes from a source (R69): each change sets TB_ERR.SWITCH. -/
def changeSource (s : State) (x : Src) : State :=
  if s.tb.src == x then { s with tb.switchTo := none }
  else holdoverRc (tbErr (trimFollow (trimRef s) { s with tb.src := x, tb.switchTo := none }) Reg.TB_ERR.SWITCH 7)

/-- The synthesiser completes a switch of source (R67, R69). -/
def sourceSwitch (s : State) : State := match s.tb.switchTo with
  | none => s
  | some x => changeSource s x

def execSourceSwitch (s : State) : Host.Outcome State Fault Refusal := finish (sourceSwitch s)

/-- A higher-priority source has been stable for REVERT_HOLD_MS: FX-4 returns to it (R68). DEDUCED (log 34). -/
def revertSource (x : Src) (s : State) : State :=
  let hold := getF s Reg.TB_CFG.REVERT_HOLD_MS
  let ok := match x with
    | .tl => s.tb.tlStable && clkMode s == 3
    | .xtal => s.tb.xtalStable && (clkMode s == 3 || clkMode s == 2)
    | .rc => false
  if released s 2 && hold != 0 && ok && decide (srcCode s.tb.src < srcCode x) then
    let since := if x == .tl then s.tb.tlStableAt else s.tb.xtalStableAt
    let s := advanceTo s (since + ms hold)
    { s with tb.switchTo := some x }
  else s

def execRevertToSource (x : Src) (s : State) : Host.Outcome State Fault Refusal := finish (revertSource x s)

/-- CDR lock: the pin latency is measured and TB_OFFSET follows it (R74); the Timing Link's stability count starts (R63). -/
def cdrLock (ps : Nat) (s : State) : State :=
  if released s 2 && s.tb.tlOn then
    { s with tb.pinLatPs := min ps 200000, tb.pinMeasured := true, tb.tlFrom := if s.tb.tlStable then none else some s.now }
  else s

def execCdrLock (ps : Nat) (s : State) : Host.Outcome State Fault Refusal := finish (cdrLock ps s)

/-- A step of rack time lies in the report periods that run (R304). -/
def markTimeStep (s : State) : State :=
  { s with bg.sec.flags := s.bg.sec.flags ||| 1, bg.min_.flags := s.bg.min_.flags ||| 1 }

/-- Closes a difference between the counter and the Timing Link: a slew up to 100 µs, a step beyond (R76). DEDUCED (log 34). -/
def closeDiff (s : State) (d : Int) : State :=
  if d.natAbs ≤ 100000 then { s with tb.slewLeft := d, tb.slewAt := s.now }
  else
    let s := setF { s with tb.time := ((s.tb.time + d) % (2 ^ 64 : Nat)).toNat, tb.slewLeft := 0 } Reg.TB_ERR.TIME_STEP 1
    raiseEvent (markTimeStep s) 2 5 (hubUnit s) (tbDetail s d 0)

/-- The counter's difference from a frame's value (R74): signed, modulo 2^64. DEDUCED (log 34). -/
def frameDiff (s : State) (time : Nat) : Int :=
  let v := (time + (roundEven (tbOffset s) 1000).toNat) % 2 ^ 64
  toSigned 64 (v + 2 ^ 64 - s.tb.time)

/-- A mark passes, good or not: time moves a frame on, and the field that the next frame must carry moves by 1,000 ns.
DEDUCED (log 34). -/
def frameTick (s : State) : State :=
  let s := advanceTo s (if s.tb.markAt = 0 then s.now else s.tb.markAt + us 1)
  { s with tb.markAt := s.now, tb.lastField := s.tb.lastField.map (fun f => (f + 1000) % 2 ^ 64) }

/-- A good frame with TIME_VALID = 1 (R74, R75, R76): it agrees with the counter where their difference is what a slew has still to close.
DEDUCED (log 34). -/
def goodTime (s : State) (t : Nat) (expect : Option Nat) : State :=
  if expect.isSome && expect != some t then setF { s with tb.disagree := 1 } Reg.TB_ERR.TL_TIME 1
  else if s.tb.src != .tl then s
  else
    let d := frameDiff s t
    if !s.tb.aligned then
      { s with tb.aligned := true, tb.time := (t + (roundEven (tbOffset s) 1000).toNat) % 2 ^ 64, tb.disagree := 0, tb.slewLeft := 0 }
    else if d = s.tb.slewLeft then { s with tb.disagree := 0 }
    else if s.tb.disagree + 1 < 4 then { s with tb.disagree := s.tb.disagree + 1 }
    else closeDiff { s with tb.disagree := 0 } d

/-- A frame mark is missing or fails its CRC: at the third in a row the link is judged lost (R64), and no run of good frames goes on
over one (R75). -/
def badMark (s : State) : State :=
  let n := s.tb.badMarks + 1
  if n < 3 then { s with tb.badMarks := n, tb.disagree := 0 } else tlLoss s

/-- A frame mark is received, and counts for the trim window where the marks are its reference (R71). DEDUCED (log 34). -/
def markReceived (s : State) : State :=
  let s := trimFollow (trimRef s) { s with tb.marks := true }
  { s with tb.trimMarks := s.tb.trimMarks + 1 }

/-- A Timing Link frame is taken whole (R64, R73 to R76). -/
def tlFrame (f : TlFrame) (s : State) : State :=
  if released s 2 && s.tb.tlOn then
    let s := markReceived (frameTick s)
    if crc16 (leBytes 8 f.time.toNat ++ [f.flags]) != f.crc.toNat then
      badMark (setF (incSat s Reg.TB_TL_CNT.CRC_ERRS) Reg.TB_ERR.TL_CRC 1)
    else
      let s := { s with tb.badMarks := 0 }
      let expect := s.tb.lastField
      let v := bitAt f.flags.toNat 0
      let s := { s with tb.lastField := some f.time.toNat, tb.seenFrame := true, tb.valid := v }
      if v then goodTime s f.time.toNat expect
      else if expect.isSome && expect != some f.time.toNat then setF { s with tb.disagree := 0 } Reg.TB_ERR.TL_TIME 1
      else { s with tb.disagree := 0 }
  else s

def execTlFrame (f : TlFrame) (s : State) : Host.Outcome State Fault Refusal := finish (tlFrame f s)

/-- An expected mark did not arrive (R64, R73). When marks cease to be received for the trim reference the spec does not say: at the
first that is missed, TRIM_REF reads 00 until the next one comes. DESIGN CHOICE (log 72). -/
def tlMarkMissed (s : State) : State :=
  if released s 2 && s.tb.tlOn then
    badMark (incSat (trimFollow (trimRef s) { frameTick s with tb.marks := false }) Reg.TB_TL_CNT.MISSED_MARKS)
  else s

def execTlMarkMissed (s : State) : Host.Outcome State Fault Refusal := finish (tlMarkMissed s)

/-- One slewed cycle: the counter gains or loses 1 ns (R76). A slew that runs when another source comes into use goes on until its
difference is closed: R76 ends it there, and R77 has the counter keep to 4 ns a cycle without saying what becomes of a slew.
DESIGN CHOICE (log 80). -/
def slewCycle (s : State) : State :=
  if released s 2 && s.tb.slewLeft != 0 then
    let s := advanceTo s (s.tb.slewAt + 250)
    { s with
      tb.time := ((s.tb.time + sgn s.tb.slewLeft) % (2 ^ 64 : Nat)).toNat
      tb.slewLeft := s.tb.slewLeft - sgn s.tb.slewLeft
      tb.slewAt := s.now }
  else s

def execSlewCycle (s : State) : Host.Outcome State Fault Refusal := finish (slewCycle s)

/-- The count a trim window expects (R71). -/
def trimExpect (s : State) : Nat := if trimRef s = 3 then 6400 else 4096

/-- One step of the trim code toward the expected count (R71). The spec gives the size of a step and not its sense: a higher code is
taken as a higher frequency, so that the code is raised where the count is low. DESIGN CHOICE (log 72). -/
def trimMove (s : State) (count : Nat) : State :=
  let e := trimExpect s
  let code := getF s Reg.TB_TRIM.CODE
  if count + 1 < e then
    if code = 0x3FF then setF s Reg.TB_ERR.TRIM_LIMIT 1 else setF s Reg.TB_TRIM.CODE (code + 1)
  else if e + 1 < count then
    if code = 0 then setF s Reg.TB_ERR.TRIM_LIMIT 1 else setF s Reg.TB_TRIM.CODE (code - 1)
  else s

/-- The trim window that runs ends: 2,560 reference cycles after it began, or with its 16th frame mark (R71). -/
def windowEnds (s : State) : Bool := trimRef s != 3 || decide (16 ≤ s.tb.trimMarks)

/-- The end of a trim window that measured `count` RC cycles (R71); the next begins. DEDUCED (log 34). -/
def trimWindow (count : Nat) (s : State) : State :=
  if released s 2 && trimRef s != 0 && windowEnds s then
    let s := trimRestart (if trimRef s = 3 then s else advanceTo s (s.tb.trimFrom + 2560))
    let e := trimExpect s
    let inBand := decide (((count : Int) - e).natAbs * 1000 ≤ e)
    let s := trimMove s count
    let tin := if inBand then s.tb.trimIn + 1 else 0
    let tout := if inBand then 0 else s.tb.trimOut + 1
    { s with
      tb.trimIn := min 4 tin
      tb.trimOut := min 4 tout
      tb.rcTrimmed := if 4 ≤ tin then true else if 4 ≤ tout then false else s.tb.rcTrimmed }
  else s

def execTrimWindow (count : Nat) (s : State) : Host.Outcome State Fault Refusal := finish (trimWindow count s)

end Sys2Proof.Machine
end

