-- ==== Sys2Proof/Machine/ObsOps.lean ====
section
/-! DEFINITION. Freezing and thawing the observation values (R430 to R435), shared by every source of a freeze. -/

namespace Sys2Proof.Machine

/-- Rack time as a low and a high register. -/
def setTs (s : State) (lo hi : Fld) (t : Nat) : State := setF (setF s lo (t % 2 ^ 32)) hi (t / 2 ^ 32)

/-- A tile agent sends its op-code increments, which the hub adds to its chip totals (R422). -/
def opTransfer (s : State) (t : Nat) : State :=
  let x := tile s t
  let ops := x.ops.foldl (fun o p =>
    let c := tget ((0, 0) : Nat × Nat) o p.1
    tset (0, 0) o p.1 ((c.1 + p.2.grants) % 2 ^ 64, (c.2 + p.2.nj) % 2 ^ 64)) s.obs.ops
  setTile { s with obs.ops := ops } t { x with
    ops := (x.ops.map (fun p => (p.1, { p.2 with grants := 0, nj := 0 }))).filter (fun p => p.2.cyc != 0) }

/-- Every tile agent sends its increments. -/
def opTransferAll (s : State) : State := s.cc.tiles.foldl (fun s p => opTransfer s p.1) s

/-- Every tile agent sends its counts of R198, as the freeze marker passes it (R432). -/
def lwSend (s : State) : State :=
  { s with cc.tiles := s.cc.tiles.map (fun p => (p.1, { p.2 with lwHub := lwCounts p.2, lwAt := s.now })) }

/-- The values that a freeze holds (R431). DEDUCED (log 62). -/
def heldNow (s : State) : Held :=
  { ops := s.obs.ops, idle := s.obs.idle, lo := s.obs.lo ++ [s.obs.other], loFull := s.obs.loFull, watches := s.obs.watches,
    lw := s.cc.tiles.map (fun p => (p.1, lwCounts p.2)) }

/-- A freeze source acts (R430): it freezes, or adds to COUNT while a freeze is in force. DEDUCED (log 62). -/
def freezeNow (s : State) (source watch late : Nat) : State :=
  let s := incSat s Reg.OBS_FRZ_STATUS.COUNT
  if flagOn s Reg.OBS_FRZ_STATUS.FROZEN then s
  else
    let s := lwSend (opTransferAll s)
    let s := { s with obs.held := some (heldNow s), obs.marked := some (heldNow s), obs.marker := true, obs.frozenAt := s.now }
    let s := setF (setF (setF s Reg.OBS_FRZ_STATUS.FROZEN 1) Reg.OBS_FRZ_STATUS.SETTLED 0) Reg.OBS_FRZ_STATUS.LATE late
    let s := setF (setF (setF s Reg.OBS_FRZ_STATUS.SOURCE source) Reg.OBS_FRZ_STATUS.QUALITY (quality s))
      Reg.OBS_FRZ_STATUS.WATCH watch
    let s := setTs s Reg.OBS_FRZ_TS_LO.TS Reg.OBS_FRZ_TS_HI.TS s.tb.time
    if !flagOn s Reg.OBS_FRZ_CFG.SNAP_EN then s
    else if flagOn s Reg.OBS_FRZ_STATUS.SCAN_BUSY then setF s Reg.OBS_FRZ_STATUS.SNAP_KEPT 1
    else
      { setF (setF s Reg.OBS_FRZ_STATUS.SNAP_KEPT 0) Reg.OBS_FRZ_STATUS.SNAP_VALID 0 with
        obs.snapDue := true, obs.snapCap := false }

/-- Thaw (R434): the visible values take the shadow values, and an armed timed freeze is disarmed. DEDUCED (log 62). -/
def thawNow (s : State) : State :=
  let s := { s with obs.held := none, obs.marker := false }
  let key := s.obs.timedKey
  let s := setF (setF { s with obs.timedKey := none } Reg.OBS_FRZ_STATUS.FROZEN 0) Reg.OBS_FRZ_STATUS.ARMED 0
  completeOpt s key 0x0013 0

end Sys2Proof.Machine
end

