-- ==== Sys2Proof/Machine/Shutdown.lean ====
section
/-! DEFINITION. Shutdown: the calls, the orderly stop and the hard stop (R250 to R258, R396, R453). -/

namespace Sys2Proof.Machine

def sdCode : SdState → Nat
  | .run => 0
  | .orderly => 1
  | .hard => 2
  | .down => 3

/-- Values used for limits of the sized sensors (R241). -/
def usedVals (s : State) : List Int := (s.th.sns.filter (fun p => p.2.st != .unsized)).map (·.2.used)

/-- The highest value used over the sized sensors, in 0.0625 °C (R241); a free value where there is none. -/
def maxUsed (s : State) : Int := match usedVals s with
  | [] => Config.noTemp s.free
  | v :: l => l.foldl max v

/-- A thermal event (R342, class 0x08). -/
def thEvent (s : State) (code unit : Nat) (temp : Int) (cause engs : Nat) : State :=
  raiseEvent s 8 code unit (leBytes 2 (ofSigned 16 temp) ++ leBytes 1 cause ++ leBytes 1 (sdCode s.th.sd) ++ leBytes 2 engs)

/-- A shutdown ends the waves of every CLUSTER_POWER (R396). -/
def endWaves (s : State) : State :=
  let js := s.rs.waves
  js.foldl (fun s j => completeKey s j.key 0x000C (sdCode s.th.sd)) { s with rs.waves := [] }

/-- Every tile agent that hears the hub takes an order. -/
def orderTiles (s : State) (f : Tile → Tile) : State :=
  (mfTiles s).foldl (fun s t => if (tile s t).orphan then s else modTile s t f) s

/-- SRC is 0 on every rail (R143). -/
def srcOff (s : State) : State :=
  (List.range s.build.rails).foldl (fun s r => modRail (setF s (Reg.RAIL_CFG.SRC r) 0) r (fun x => { x with srcMove := false })) s

/-- The last PH_EN_N of a hard stop is high (R253). DEDUCED (log 52). -/
def hardDown (s : State) : State :=
  if s.th.sd == .hard && allDisabled s then incSat { srcOff s with th.sd := .down } Reg.TH_CNT1.HARD else s

/-- THERMTRIP_N on a hard stop (R255). -/
def tripOn (s : State) (cause : Nat) : Bool :=
  cause == 4 || (flagOn s Reg.TH_SD_CFG.TRIP_ON_HARD && (cause == 1 || cause == 2 || cause == 3 || cause == 5 || cause == 6 || cause == 9))

/-- The decision of a hard stop (R253). DEDUCED (log 52). -/
def hardStop (s : State) (cause : Nat) : State :=
  let s := { s with
    th.sd := .hard, th.cause := cause, th.ordStep := 0, th.sdAt := s.now, th.stepAt := s.now,
    pins.thermtrip := s.pins.thermtrip || tripOn s cause }
  let s := endWaves s
  let s := orderTiles s (fun x => clusterOff { x with levelOne := true, order := some 1, cmd := 1 })
  let s := fastOffAll s (sdCode .hard)
  let s := thEvent s 5 (hubUnit s) (maxUsed s) cause 0
  let s := if flagOn s Reg.OBS_FRZ_CFG.ON_HARD then freezeNow s 5 0 0 else s
  hardDown (stepJobs s)

/-- Step 1 of an orderly stop, and step 2 begins (R251). DEDUCED (log 52). -/
def orderlyStop (s : State) (cause : Nat) : State :=
  let s := { s with th.sd := .orderly, th.cause := cause, th.ordStep := 2, th.sdAt := s.now, th.stepAt := s.now }
  thEvent (endWaves s) 5 (hubUnit s) (maxUsed s) cause 0

/-- The cause takes a hard stop, by the choice of R250 on TAU_US as it stands. -/
def callHard (s : State) (cause : Nat) : Bool :=
  !(cause == 1 || cause == 2 || cause == 6) || decide (getF s Reg.TH_TAU.TAU_US < 2000)

/-- A call to shut down (R250, R252). In HARD and DOWN it starts nothing; in HARD a cause of the lower path, the orderly stop, is reported
by its event (R452). DEDUCED (log 52). -/
def callShutdown (s : State) (cause : Nat) : State :=
  match s.th.sd with
  | .run => if callHard s cause then hardStop s cause else orderlyStop s cause
  | .orderly => if callHard s cause then hardStop s cause else thEvent s 5 (hubUnit s) (maxUsed s) cause 0
  | .hard => if callHard s cause then s else thEvent s 5 (hubUnit s) (maxUsed s) cause 0
  | .down => s

/-- Engines that hold a grant at a tile agent. -/
def runningEngs (x : Tile) : Nat := (x.engs.filter (·.2.running)).length

/-- Steps 2 to 3: the drain ends, and every tile agent that hears the hub resets its running engines, which the event counts, and turns
its cluster off (R251). -/
def orderlyOff (s : State) : State :=
  let n := ((mfTiles s).filter (fun t => !(tile s t).orphan)).foldl (fun n t => n + runningEngs (tile s t)) 0
  let s := orderTiles { s with th.ordStep := 3, th.stepAt := s.now } clusterOff
  thEvent s 6 (hubUnit s) (maxUsed s) s.th.cause n

/-- Every rail is off. -/
def railsOff (s : State) : Bool := (mfRails s).all (railDown s)

/-- Step 5: DOWN (R251). DEDUCED (log 52). -/
def orderlyDown (s : State) : State :=
  if s.th.sd == .orderly && s.th.ordStep == 4 && railsOff s then
    let s := { srcOff s with th.sd := .down, th.ordStep := 5, th.stepAt := s.now }
    thEvent (incSat s Reg.TH_CNT1.ORDERLY) 5 (hubUnit s) (maxUsed s) s.th.cause 0
  else s

/-- A rail start in flight ends when the orderly stop takes its rails (R453): it completes with SHUTDOWN. -/
def endStarts (s : State) : State :=
  s.pc.jobs.foldl (fun s j => if j.start then completeOpt (dropRailJob s j) j.key 0x000C (sdCode s.th.sd) else s) s

/-- Step 4: every rail that is not already named by a RAIL_STOP is stopped in descending ORDER (R251, R453). -/
def orderlyRails (s : State) : State :=
  let s := endStarts { s with th.ordStep := 4, th.stepAt := s.now }
  let s := (mfRails s).foldl (fun s r => match (rail s r).st with
    | .delay | .test | .hiccup => disableRail s r .off .off
    | _ => s) s
  let named := s.pc.jobs.foldl (fun l j => l ++ (if j.failed then j.cur ++ j.groups.flatten else j.mask)) []
  let rails := (mfRails s).filter (fun r => !railDown s r && !named.contains r)
  let s := if rails.isEmpty then s else
    let j : RailJob := { key := none, start := false, groups := (orderGroups s rails).reverse, cur := [], delayAt := s.now, mask := rails }
    stepJobs { s with pc.jobs := s.pc.jobs ++ [j] }
  orderlyDown s

/-! ## Rows -/

/-- The tile agent is in a reset of its own: its cluster counts as off for the steps of an orderly stop (R400). -/
def tileRstNow (s : State) (t : Nat) : Bool := (tget none s.rs.tileRst t).isSome

/-- ORDERLY_DRAIN_DONE (R251): every tile agent has reported no held credits. -/
def drainDone (s : State) : State :=
  if s.th.sd == .orderly && s.th.ordStep == 2 && (mfTiles s).all (fun t => tileRstNow s t || (tile s t).hH == 0) then orderlyOff s else s

def execOrderlyDrainDone (s : State) : Host.Outcome State Fault Refusal := finish (drainDone s)

/-- ORDERLY_DRAIN_TIMEOUT (R251): DRAIN_US after step 1. -/
def drainTimeout (s : State) : State :=
  if s.th.sd == .orderly && s.th.ordStep == 2 then orderlyOff (advanceTo s (s.th.stepAt + us (getF s Reg.TH_SD_CFG.DRAIN_US))) else s

def execOrderlyDrainTimeout (s : State) : Host.Outcome State Fault Refusal := finish (drainTimeout s)

/-- ORDERLY_CLUSTERS_OFF (R251): every CL_PWR_OK is low, or 100 µs have passed since step 3 began. -/
def clustersOff (s : State) : State :=
  if s.th.sd == .orderly && s.th.ordStep == 3 then
    let low := (mfTiles s).all (fun t => tileRstNow s t || !(tile s t).pwrOk)
    orderlyRails (if low then s else advanceTo s (s.th.stepAt + us 100))
  else s

def execOrderlyClustersOff (s : State) : Host.Outcome State Fault Refusal := finish (clustersOff s)

/-- A node of a valid observer carries limits (R244). -/
def obsValid (s : State) : Bool :=
  s.th.model.isSome && flagOn s Reg.TH_CFG.OBS_EN && !s.th.settling

/-- Temperature of a position against a limit: a node's Q1.15 of 256 °C is 8 steps to 0.0625 °C. -/
def nodeTemp (n : ThNode) : Int := n.t.fdiv 8

/-- Limit set of a sensor, from the manifest (R244). -/
def snsSet (s : State) (n : Nat) : Nat := match s.mf with
  | some m => (tget ({} : MfSns) m.snss n).set
  | none => 0

/-- Sensors that the manifest describes. -/
def mfSns (s : State) : List Nat := match s.mf with
  | some m => m.snss.map (·.1)
  | none => []

def hotNodes (s : State) : List (Nat × NodeDef) := match s.th.model with
  | some m => if obsValid s then ((List.range m.nodes.length).zip m.nodes).filter (·.2.hot) else []
  | none => []

/-- The first failing condition of R257; 0 where every one holds. -/
def rearmReason (s : State) : Nat :=
  if s.th.sd != .down then 1
  else if !((mfSns s).all (fun n => decide ((tget ({} : Sns) s.th.sns n).used < getF s (Reg.TH_LS_C.T_REARM (snsSet s n)))) &&
      (hotNodes s).all (fun p => decide ((tget ({} : ThNode) s.th.nodes p.1).t < 8 * getF s (Reg.TH_LS_C.T_REARM p.2.set)))) then 2
  else if !s.pins.flowOk then 3
  else if s.th.belowMin then 4
  else if !s.pins.pwrgd then 5
  else if !(List.range s.build.rails).all (fun r => railFlt s r % 32 == 0) then 6
  else 0

/-- What an accepted THERMAL_REARM does (R258). -/
def rearm (s : State) : State :=
  { s with
    th.sd := .run, th.cause := 0, th.ordStep := 0, pins.thermtrip := false
    cc.tiles := s.cc.tiles.map (fun p => (p.1, { p.2 with localTrip := false, hTrip := 0, levelOne := false })) }

/-- RS_STATUS.PHASE is 11: ready has been declared (R391). -/
def isReady (s : State) : Bool := getF s Reg.RS_STATUS.PHASE == 11

/-- DEDUCED (log 52). -/
def rearmBody (s : State) (f : Flight) (_d : List Byte) : State :=
  if !isReady s then complete s f 0x0008 (getF s Reg.RS_STATUS.PHASE)
  else
    let k := rearmReason s
    if k = 0 then complete (rearm s) f 0 0 else complete (setF s Reg.TH_REARM.REASON k) f 0x000D k

/-- THERMAL_REARM (R257, R258, R391). -/
def thermalRearm (s : State) : State :=
  runDesc s (fun d => dOp d == 0x41) .taken (fun _ d => { target := noTarget d }) rearmBody

def execThermalRearm (s : State) : Host.Outcome State Fault Refusal := finish (thermalRearm s)

/-- FLOW_OK held low (R261). -/
def flowLow (s : State) : State :=
  let s := { s with pins.flowOk := false }
  let s := if s.du.hbAbsent then { s with pins.mirrorGstop := true } else s
  if released s 6 then callShutdown s 5 else s

def execFlowOkLow (s : State) : Host.Outcome State Fault Refusal := finish (flowLow s)

/-- FLOW_OK held high (R261). -/
def execFlowOkHigh (s : State) : Host.Outcome State Fault Refusal := finish { s with pins.flowOk := true }

/-- PWRGD held low (R32): a hard stop with cause 7 while a rail is up. -/
def pwrgdFall (s : State) : State :=
  let s := { s with pins.pwrgd := false }
  let s := if s.du.hbAbsent then { s with pins.mirrorGstop := true } else s
  if released s 6 && !railsOff s then callShutdown s 7 else s

def execPwrgdFall (s : State) : Host.Outcome State Fault Refusal := finish (pwrgdFall s)

/-- PWRGD held high (R32). -/
def execPwrgdRise (s : State) : Host.Outcome State Fault Refusal := finish { s with pins.pwrgd := true }

end Sys2Proof.Machine
end

