-- ==== Sys2Proof/Machine/PbOps.lean ====
section
/-! DEFINITION. The Phase Book, forecasts and the frequency plan against the step angle: instances, angle timers, the start and
the end of effects, and what jumps and loss of the angle do to them (R200 to R224, R294 to R297). -/

namespace Sys2Proof.Machine

/-! ## Bins -/

/-- The bin of an angle (R200). -/
def binOf (s : State) (a : Angle) : Nat := a.toNat % 65536 / 2 ^ (16 - getF s Reg.PB_CFG.BIN_LOG2)

def bin (s : State) (k : Nat) : Bin := tget {} s.pb.bins k
def setBin (s : State) (k : Nat) (b : Bin) : State := { s with pb.bins := tset {} s.pb.bins k b }

/-- The active forecast that started last, whose identifiers go into bins (R205). DEDUCED (log 48). -/
def activeForecast (s : State) : Option Forecast :=
  s.pb.active.reverse.findSome? (fun a => match a.eff with
    | .forecast id => s.pb.fcs.find? (·.id == id)
    | .action _ => none)

/-- The bins that A_x enters on its way from x, in order: every one it passes within a step, and the one it lands in after a jump.
DEDUCED (log 48). -/
def binsEntered (s : State) (x : Angle) : List Nat :=
  let n := 2 ^ getF s Reg.PB_CFG.BIN_LOG2
  let d := (s.sa.aX - x).toNat
  let p := x.toNat % 65536
  if d ≤ 65536 then (List.range ((p + d) / (65536 / n) - p / (65536 / n))).map (fun i => (p / (65536 / n) + 1 + i) % n)
  else if binOf s s.sa.aX = binOf s x then [] else [binOf s s.sa.aX]

/-- While a forecast is active its LAYER and OPER go into every bin that A_x enters (R205). DEDUCED (log 48). -/
def enterBins (s : State) (x : Angle) : State := match activeForecast s with
  | some f => (binsEntered s x).foldl (fun s k => setBin s k { bin s k with layer := f.layer, oper := f.oper }) s
  | none => s

/-- PB_STATUS.SETTLED (R203). -/
def settledBins (s : State) : Nat := (s.pb.bins.filter (·.2.settled)).length

/-- PB_STATUS.CONVERGED (R203). -/
def converged (s : State) : Bool :=
  decide (getF s Reg.PB_LEARN.CONV_PCT * 2 ^ getF s Reg.PB_CFG.BIN_LOG2 ≤ settledBins s * 100)

/-- A Phase Book event (R342, class 0x07). -/
def pbEvent (s : State) (code : Nat) : State :=
  raiseEvent s 7 code (hubUnit s) (leBytes 4 (getF s Reg.PB_PROG_ID.ID) ++ leBytes 1 (b2n (converged s)))

/-- Raises the event of R203 where a change has turned CONVERGED over. -/
def convEvent (before : State) (s : State) : State := if converged before != converged s then pbEvent s 1 else s

/-- Every bin cleared to SEEN = 0, HITS = 0, LAYER = 0, OPER = 0 (R200). -/
def clearBins (s : State) : State := convEvent s { s with pb.bins := [] }

/-! ## Instances and angle timers (R207, R214, R447) -/

/-- The trigger of an action in a step (R214). -/
def trigOf (a : PbAction) (step : Nat) : Angle := BitVec.ofNat 32 (step * 65536 + a.phase)

/-- The first qualifying trigger of an action ahead of an angle. -/
def nextInst (a : PbAction) (x : Angle) : Option Angle :=
  let s0 := x.toNat / 65536
  (List.range (2 * a.mod + 4)).findSome? (fun k =>
    let st := (s0 + k) % 65536
    if st % (a.mod + 1) = a.res && ahead (trigOf a st) x then some (trigOf a st) else none)

def pbAction (s : State) (i : Nat) : Option PbAction := s.pb.prog.bind (fun p => p.actions[i]?)

/-- The next instance of every action of the loaded program ahead of an angle; none while ACTIONS is 0 (R216, R217). -/
def freshInst (s : State) (x : Angle) : List (Nat × Angle) :=
  match s.pb.prog with
  | some p => if flagOn s Reg.PB_CFG.ACTIONS then
      ((List.range p.actions.length).zip p.actions).filterMap (fun q => (nextInst q.2 x).map (fun t => (q.1, t)))
    else []
  | none => []

/-- What waits for an angle timer: the pending instances of the Phase Book and the forecasts. -/
def pbWants (s : State) : List Timer :=
  s.pb.inst.filterMap (fun q => (pbAction s q.1).map (fun a => ⟨q.2, a.lead, .action q.1⟩)) ++
    (s.pb.fcs.filter (fun f => !f.active && !f.past)).map (fun f => ⟨f.start, f.lead, .forecast f.id⟩)

/-- What waits for a timer of the plan: entries, and the open STEP (R294, R296). -/
def planWants (s : State) : List Timer :=
  s.bg.planInst.map (fun q => ⟨q.2, 0, .plan q.1⟩) ++ (match s.bg.step with
    | some m => [⟨m.angle, 0, .step m.down⟩]
    | none => [])

/-- Inserts a timer into a list ordered by the distance of its trigger ahead of A_x. -/
def insertTimer (x : Angle) (t : Timer) : List Timer → List Timer
  | [] => [t]
  | u :: l => if (t.trig - x).toNat < (u.trig - x).toNat then t :: u :: l else u :: insertTimer x t l

/-- Arms the earliest of what waits on the timers lo to lo + n - 1, one instance to a timer; a timer that already carries one of
them keeps it, and so does one whose trigger A_x has passed and that has still to fire (R87, R88, R207). -/
def armGroup (s : State) (lo n : Nat) (wants : List Timer) : State :=
  let mine := fun (k : Nat) => decide (lo ≤ k) && decide (k < lo + n)
  let due := (s.sa.timers.filter (fun p => mine p.1 && (match p.2 with
    | some t => !ahead t.trig s.sa.aX && wants.contains t
    | none => false))).map (·.1)
  let top := ((wants.filter (fun t => ahead t.trig s.sa.aX)).foldl (fun l t => insertTimer s.sa.aX t l) []).take (n - due.length)
  let kept := s.sa.timers.filter (fun p => !mine p.1 || due.contains p.1 || (match p.2 with
    | some t => top.contains t
    | none => false))
  let new := top.filter (fun t => !kept.any (fun p => mine p.1 && p.2 == some t))
  let free := ((List.range n).map (· + lo)).filter (fun k => !kept.any (·.1 == k))
  { s with sa.timers := (free.zip new).foldl (fun l q => tput l q.1 (some q.2)) kept }

/-- floor(ω × L) (R87): the angle a lead stands for; 0 while ACQUIRING. -/
def leadAngle (s : State) (l : Nat) : Angle :=
  if s.sa.state == .acquiring then 0 else BitVec.ofNat 32 (s.sa.rate * l / 2 ^ 28)

/-- A timer's trigger is no longer ahead of A_x + floor(ω × L) (R87). -/
def timerDue (s : State) (t : Timer) : Bool :=
  (s.sa.state == .acquiring || s.sa.state == .tracking) && !ahead t.trig (s.sa.aX + leadAngle s t.lead)

/-- What waits unarmed and is due, by its lead, is late from now on (R207). -/
def markLate (s : State) : State :=
  let l := (pbWants s).filter (fun t => timerDue s t && !s.pb.late.contains t && !s.sa.timers.any (·.2 == some t))
  { s with pb.late := s.pb.late ++ l }

/-- What an angle timer of the Phase Book may carry: what waits and is not late (R207). -/
def pbArmable (s : State) : List Timer := (pbWants s).filter (fun t => !s.pb.late.contains t)

/-- Arms every timer anew where the scheduler core's duties run (R207, R361). -/
def armTimers (s : State) : State :=
  if s.pb.inst.isEmpty && s.pb.fcs.isEmpty && s.bg.planInst.isEmpty && s.bg.step.isNone && s.sa.timers.isEmpty then s
  else if dutyRuns s 2 then
    let n := getF s Reg.PB_CFG.TIMERS
    armGroup (armGroup s 0 n (pbArmable s)) n (256 - n) (planWants s)
  else s

/-- The timer that carries an owner, if one does. -/
def isArmed (s : State) (o : TimerOwner) : Bool := s.sa.timers.any (fun p => match p.2 with
  | some t => t.owner == o
  | none => false)

/-! ## Start and end of effects -/

/-- Starts a program action at an instance (R208): the effect stands until its end angle, and the next instance is taken; nothing
starts while ACTIONS is 0 (R217). -/
def startAction (s : State) (i : Nat) (trig : Angle) : State :=
  match pbAction s i with
  | none => { s with pb.inst := tdel s.pb.inst i }
  | some a =>
    if !flagOn s Reg.PB_CFG.ACTIONS then { s with pb.inst := tdel s.pb.inst i } else
    let s := incSat s Reg.PB_CNT.FIRED
    let act : PbActive := {
      eff := .action i, kind := a.kind, target := a.target, value := a.value,
      endAt := trig + BitVec.ofNat 32 a.span, since := s.now, frame := getF s Reg.BE_FRAME.COUNT }
    { s with
      pb.active := s.pb.active ++ [act]
      pb.inst := match nextInst a trig with
        | some t => tput s.pb.inst i t
        | none => tdel s.pb.inst i }

/-- Starts a forecast (R208, R220). -/
def startForecast (s : State) (id : Nat) : State :=
  match s.pb.fcs.find? (fun f => f.id == id && !f.active) with
  | none => s
  | some f =>
    let s := incSat s Reg.PB_CNT.FIRED
    let act : PbActive := {
      eff := .forecast id, kind := 0, target := 0, value := f.peak,
      endAt := f.start + BitVec.ofNat 32 f.span, since := s.now, frame := getF s Reg.BE_FRAME.COUNT }
    { s with
      pb.active := s.pb.active ++ [act]
      pb.fcs := lmod (·.id == id) (fun f => { f with active := true, gain := 0 }) s.pb.fcs }

/-- The outcome record of a forecast that closes (R221): 0 ended, 1 cut, 2 cancelled, 3 discarded; one that was discarded, or
cancelled before it started, has gained nothing. -/
def closeForecast (s : State) (f : Forecast) (code : Nat) : State :=
  putTel { s with pb.fcs := s.pb.fcs.filter (·.id != f.id) } ⟨1, 0, acctUnit f.acct, s.tb.time,
    leBytes 2 f.id ++ leBytes 1 code ++ zeros 1 ++ leBytes 4 f.energy ++ leBytes 8 (if f.active && code != 3 then f.gain / 1000 else 0)⟩

/-- How an active effect ends at this frame boundary, if it does (R209, R223): its close code. -/
def endCode (s : State) (a : PbActive) : Option Nat := match a.ending with
  | some c => some c
  | none => if !ahead a.endAt s.sa.aX then some 0 else none

/-- Ends one effect. -/
def endEffect (s : State) (a : PbActive) (code : Nat) : State :=
  let s := { s with pb.active := s.pb.active.filter (· != a) }
  let s := if code = 1 then pbEvent (setF s Reg.PB_ERR.CUT 1) 3 else s
  match a.eff with
  | .action _ => s
  | .forecast id => match s.pb.fcs.find? (·.id == id) with
    | some f => closeForecast s f code
    | none => s

/-- Marks effects to end at the next frame boundary. -/
def markEnd (s : State) (p : PbActive → Bool) (code : Nat) : State :=
  { s with pb.active := lmod (fun a => p a && a.ending.isNone) (fun a => { a with ending := some code }) s.pb.active }

/-- It has come due while it was not armed (R207). -/
def cameDue (s : State) (t : Timer) : Bool := s.pb.late.contains t || (!isArmed s t.owner && timerDue s t)

/-- An instance that came due while it was not armed starts late (R207). -/
def lateAction (s : State) (q : Nat × Angle) : State :=
  match pbAction s q.1 with
  | some a => if cameDue s ⟨q.2, a.lead, .action q.1⟩ then
      startAction (setF s Reg.PB_ERR.LATE 1) q.1 q.2 else s
  | none => s

/-- A forecast that waits for a frame boundary: past when it was taken (R218), or due while not armed (R207). -/
def lateForecast (s : State) (f : Forecast) : State :=
  if f.active then s
  else if f.past then (if pbOn s then startForecast s f.id else s)
  else if cameDue s ⟨f.start, f.lead, .forecast f.id⟩ then
    startForecast (setF s Reg.PB_ERR.LATE 1) f.id
  else s

/-- The Phase Book's part of a frame boundary: effects that end, then instances that start late. -/
def pbFrame (s : State) : State :=
  let s := s.pb.active.foldl (fun s a => match endCode s a with
    | some c => endEffect s a c
    | none => s) s
  let s := s.pb.inst.foldl lateAction s
  let s := s.pb.fcs.foldl lateForecast s
  armTimers { s with pb.late := s.pb.late.filter (pbWants s).contains }

/-! ## The frequency plan -/

/-- The plan level at an angle (R294): the last entry whose PHASE is not ahead of the angle's phase, else the last entry. -/
def planAt (p : Plan) (a : Angle) : Option Nat :=
  let ph := a.toNat % 65536
  match (p.entries.filter (fun e => decide (e.1 ≤ ph))).getLast? with
  | some e => some e.2
  | none => p.entries.getLast?.map (·.2)

/-- The next trigger of a plan entry ahead of an angle. -/
def planTrig (phase : Nat) (x : Angle) : Angle :=
  let s0 := x.toNat / 65536
  let t0 := BitVec.ofNat 32 (s0 * 65536 + phase)
  if ahead t0 x then t0 else BitVec.ofNat 32 ((s0 + 1) * 65536 + phase)

/-- The plan follows the angle anew: level at A_x, and the next trigger of every entry (R294, R297). -/
def planFollow (s : State) : State := match s.bg.plan with
  | some p => { s with
      bg.planNow := planAt p s.sa.aX
      bg.planInst := ((List.range p.entries.length).zip p.entries).map (fun q => (q.1, planTrig q.2.1 s.sa.aX)) }
  | none => { s with bg.planNow := none, bg.planInst := [] }

/-- An entry of the plan applies. -/
def planFire (s : State) (i : Nat) : State := match s.bg.plan.bind (fun p => p.entries[i]?) with
  | some e => { s with
      bg.planNow := some e.2
      bg.planInst := s.bg.planInst.map (fun q => if q.1 = i then (i, planTrig e.1 q.2) else q) }
  | none => s

/-- A STEP applies its DOWN, and is counted where it lowers the level (R296). -/
def stepApply (s : State) : State := match s.bg.step with
  | some m =>
    let s := if s.bg.down < m.down then incSat s Reg.BG_DET_CNT.STEPDOWNS else s
    { s with bg.down := m.down, bg.step := none }
  | none => s

/-- Entries of the plan and a STEP that came due while no timer carried them apply at the frame boundary (R447). -/
def planFrame (s : State) : State :=
  let s := s.bg.planInst.foldl (fun s q =>
    if !isArmed s (.plan q.1) && timerDue s ⟨q.2, 0, .plan q.1⟩ then planFire s q.1 else s) s
  match s.bg.step with
  | some m => if !isArmed s (.step m.down) && timerDue s ⟨m.angle, 0, .step m.down⟩ then stepApply s else s
  | none => s

/-! ## Angle faults (R222 to R224, R297) -/

/-- The angle lies in the range passed by a jump from x to y. -/
def passed (x y a : Angle) : Bool := ahead a x && !ahead a y

/-- The least of some triggers, by their distance ahead of x. -/
def lowestTrig (x : Angle) : List Angle → Option Angle
  | [] => none
  | a :: l => match lowestTrig x l with
    | some b => if (a - x).toNat ≤ (b - x).toNat then some a else some b
    | none => some a

/-- A step-angle event (R342, class 0x03). -/
def saEvent (s : State) (code : Nat) (x y : Angle) (n : Nat) (low : Option Angle) : State :=
  raiseEvent s 3 code (hubUnit s) (leBytes 4 x.toNat ++ leBytes 4 y.toNat ++ leBytes 2 n ++ zeros 2 ++
    leBytes 4 ((low.getD 0).toNat))

/-- A forward jump from x to A_x (R88, R222, R297). DEDUCED (log 36). -/
def forwardJump (s : State) (x : Angle) : State :=
  let y := s.sa.aX
  let gone := s.sa.timers.filterMap (fun p => match p.2 with
    | some t => if passed x y t.trig then some t else none
    | none => none)
  let acts := s.pb.inst.filter (fun q => passed x y q.2)
  let fcs := s.pb.fcs.filter (fun f => !f.active && passed x y f.start)
  let loose := (acts.filter (fun q => !isArmed s (.action q.1))).map (·.2) ++
    (fcs.filter (fun f => !isArmed s (.forecast f.id))).map (·.start)
  let trigs := gone.map (·.trig) ++ loose
  let skipped := acts.length + fcs.length
  let s := saEvent s 1 x y trigs.length (lowestTrig x trigs)
  let s := { s with sa.timers := s.sa.timers.filter (fun p => match p.2 with
    | some t => !passed x y t.trig
    | none => false) }
  let s := if skipped = 0 then s else addSat (setF s Reg.PB_ERR.SKIPPED 1) Reg.PB_CNT.SKIPPED skipped
  let s := fcs.foldl (fun s f => closeForecast s f 3) s
  let s := markEnd { s with pb.excluded := true } (fun a => passed x y a.endAt) 0
  let s := { s with pb.inst := freshInst s y }
  let s := match s.bg.step with
    | some m => if passed x y m.angle then stepApply s else s
    | none => s
  armTimers (planFollow s)

/-- A backward jump from x to A_x (R85, R223, R297). DEDUCED (log 36). -/
def backwardJump (s : State) (x : Angle) : State :=
  let y := s.sa.aX
  let s := saEvent s 2 x y 0 none
  let s := markEnd { s with pb.excluded := true } (fun _ => true) 0
  armTimers (planFollow { s with pb.inst := freshInst s y })

/-- Entry to LOST (R86, R224). -/
def angleLost (s : State) : State :=
  let s := saEvent s 3 s.sa.aX s.sa.aX 0 none
  markEnd { s with pb.excluded := true } (fun _ => true) 0

end Sys2Proof.Machine
end

