-- ==== Sys2Proof/Machine/Vfs.lean ====
section
/-! DEFINITION. The voltage-frequency sequencer and the orders it sends (R78 to R81, R34, R443). -/

namespace Sys2Proof.Machine

/-- Writes a rail's sequencer state; VFS_STATUS.BUSY reads 1 while a change is in progress. -/
def putVfs (s : State) (r : Nat) (v : VfsRail) : State :=
  let b := getF s Reg.VFS_STATUS.BUSY
  setF (setVfs s r v) Reg.VFS_STATUS.BUSY (if v.raising || v.lowering then orBit b r else clrBit b r)

/-- VFS_STATUS.FAULT is set for a rail. -/
def vfsFault (s : State) (r : Nat) : Bool := bitAt (getF s Reg.VFS_STATUS.FAULT) r

/-- The level the sequencer's Vset must carry: the required level, and any raise that waits (R78, R79). -/
def vfsLevel (s : State) (r : Nat) : Nat :=
  (railTiles s r).foldl (fun m t => max m ((tile s t).raise.getD 0)) (reqLevel s r)

/-- The rail's Vset follows the level it must carry; a raise ends when nothing waits for it, a lowering when every cluster has
reported what was ordered. A Vset that changes starts the settle clocks anew. DEDUCED (log 35). -/
def vfsFollow (s : State) (r : Nat) : State :=
  let goal := vfEntry s r (vfsLevel s r)
  let s := if goal = (vfsRail s r).goal then s else modRail s r (fun x => { x with vfsAt := none, vfsOk := none })
  let waits := (railTiles s r).any (fun t => (tile s t).raise.isSome)
  let above := (railTiles s r).any (fun t => decide ((tile s t).cmd < (tile s t).applied))
  putVfs s r { goal := goal, raising := waits, lowering := above }

/-- A lower level goes out at once (R79). DEDUCED (log 35). -/
def lowerOne (s : State) (t : Nat) : State :=
  let k := grantLevel s t
  let x := tile s t
  if k < x.cmd then vfsFollow (setTile s t { orderLevel x k with raise := none }) (mfTile s t).rail
  else match x.raise with
    | some j => if k < j then
        vfsFollow (setTile s t { x with raise := if x.cmd < k then some k else none }) (mfTile s t).rail
      else s
    | none => s

/-- Every ceiling that has come down goes out to the clusters it limits (R246, R272, R167). -/
def lowerAll (s : State) : State := (mfTiles s).foldl lowerOne s

/-- VFS_LEVEL_CHANGE (R79 to R81, R394): a lower level goes out at once, a higher one waits for the rail; a cluster that is off
takes no higher level. -/
def levelChange (t : Nat) (s : State) : State :=
  if released s 6 && (mfTile s t).present then
    let k := grantLevel s t
    let x := tile s t
    let r := (mfTile s t).rail
    if k < x.cmd then lowerOne s t
    else if x.cmd < k && x.pwrOk && !vfsFault s r && (rail s r).st == .up then vfsFollow (setTile s t { x with raise := some k }) r
    else s
  else s

def execVfsLevelChange (tile : Nat) (s : State) : Host.Outcome State Fault Refusal := finish (levelChange tile s)

/-- The levels that waited on a rail leave as f says; the settle clocks start again. -/
def endRaise (s : State) (r : Nat) (f : Tile → Nat → Tile) : State :=
  let s := (railTiles s r).foldl (fun s t => modTile s t (fun x => match x.raise with
    | some k => { f x k with raise := none }
    | none => x)) s
  vfsFollow (modRail s r (fun x => { x with vfsAt := none, vfsOk := none })) r

/-- VFS_SETTLED (R79): the sensed voltage has stayed within the tolerance for SETTLE_US, and the levels that waited go out to the
tile agents. DEDUCED (log 35). -/
def vfsSettled (r : Nat) (s : State) : State :=
  match (rail s r).vfsOk with
  | some t => if released s 6 && (vfsRail s r).raising then endRaise (advanceTo s (t + us (getF s Reg.VFS_CFG.SETTLE_US))) r orderLevel else s
  | none => s

def execVfsSettled (rail : Nat) (s : State) : Host.Outcome State Fault Refusal := finish (vfsSettled rail s)

/-- VFS_SETTLE_TIMEOUT (R81): 100 µs after the target reached its value the raise is dropped, the target returns, FAULT is set and
a time-base event raised. DEDUCED (log 35). -/
def vfsTimeout (r : Nat) (s : State) : State :=
  match (rail s r).vfsAt with
  | some t =>
    if released s 6 && (vfsRail s r).raising then
      let s := endRaise (advanceTo s (t + us 100)) r (fun x _ => x)
      let s := setF s Reg.VFS_STATUS.FAULT (orBit (getF s Reg.VFS_STATUS.FAULT) r)
      raiseEvent s 2 0x10 (railUnit r) (tbDetail s 0 r)
    else s
  | none => s

def execVfsSettleTimeout (rail : Nat) (s : State) : Host.Outcome State Fault Refusal := finish (vfsTimeout rail s)

/-- TILE_LEVEL_REPORT (R79): the applied level is taken, and Vset is lowered once every cluster has reported.
DEDUCED (log 35). -/
def levelReport (t : Nat) (s : State) : State :=
  if released s 6 && tileDutyRuns s t && !(tile s t).orphan then
    vfsFollow (modTile s t (fun x => { x with applied := x.level })) (mfTile s t).rail
  else s

def execTileLevelReport (tile : Nat) (s : State) : Host.Outcome State Fault Refusal := finish (levelReport tile s)

/-- LEVEL_ORDER (R34, R248): an order that reaches a tile agent is applied at the next 16-cycle boundary. -/
def levelOrder (t : Nat) (s : State) : State :=
  let x := tile s t
  match x.order with
  | some k => if tileRuns s t then setTile (seeOrphan s t) t { applyLevel s x k with order := none, orphanSeen := x.orphan, msgAt := s.now } else s
  | none => s

def execLevelOrder (tile : Nat) (s : State) : Host.Outcome State Fault Refusal := finish (levelOrder tile s)

end Sys2Proof.Machine
end

