-- ==== Sys2Proof/Machine/Accounts.lean ====
section
/-! DEFINITION. Power accounts: binding, residency, write-back, and the division of a frame's energy (R299 to R303, R333, R421). -/

namespace Sys2Proof.Machine

/-! ## Budget events -/

/-- BG_ERR is all 0. -/
def bgErrClear (s : State) : Bool :=
  [Reg.BG_ERR.W0_OVER, Reg.BG_ERR.W1_OVER, Reg.BG_ERR.W2_OVER, Reg.BG_ERR.W3_STOP, Reg.BG_ERR.AUDIT, Reg.BG_ERR.PEER_LOST,
    Reg.BG_ERR.ORPHAN, Reg.BG_ERR.LINK_DOWN, Reg.BG_ERR.TOTAL_FAULT, Reg.BG_ERR.BAD_MSG, Reg.BG_ERR.BOTH_RESET,
    Reg.BG_ERR.RPT_DROP, Reg.BG_ERR.ACCT_WB, Reg.BG_ERR.ACCT_CORRUPT, Reg.BG_ERR.UNMAPPED, Reg.BG_ERR.DET_BROKEN,
    Reg.BG_ERR.DET_PLAN, Reg.BG_ERR.ESTIMATED].all (fun f => !flagOn s f)

/-- A budget event (R342, class 0x09). -/
def bgEvent (s : State) (f : Fld) (unit peer : Nat) (delta : Int) : State :=
  raiseEvent s 9 f.lo unit (leBytes 2 peer ++ zeros 2 ++ leBytes 8 (ofSigned 64 delta))

/-- Sets a bit of BG_ERR: an event where it goes from 0 to 1 (R308). -/
def bgErr (s : State) (f : Fld) : State := if flagOn s f then s else bgEvent (setF s f 1) f (hubUnit s) 0 0

/-- Sets a bit of BG_ERR whose own rule raises an event each time. -/
def bgErrAlways (s : State) (f : Fld) (unit peer : Nat) (delta : Int) : State := bgEvent (setF s f 1) f unit peer delta

/-- A link or message error: the peer is recorded where BG_ERR was all 0. -/
def bgErrPeer (s : State) (f : Fld) (peer : Nat) : State :=
  let s := if bgErrClear s then setF s Reg.BG_ERR_PEER.PEER peer else s
  if flagOn s f then s else bgEvent (setF s f 1) f (peerUnit peer) peer 0

/-! ## Dividing by the largest remainder (R300, R421) -/

/-- Inserts an entry by descending remainder; among equals the earlier stays first. -/
def insertRem (x : Nat × Nat × Nat) : List (Nat × Nat × Nat) → List (Nat × Nat × Nat)
  | [] => [x]
  | y :: l => if y.2.2 < x.2.2 then x :: y :: l else y :: insertRem x l

/-- Divides a total over weights by the largest-remainder method, ties to the earlier entry; the parts sum to the total. -/
def largestRem (total : Nat) (ws : List (Nat × Nat)) : List (Nat × Nat) :=
  let w := ws.foldl (fun a p => a + p.2) 0
  if w = 0 then []
  else
    let base := ws.map (fun p => (p.1, total * p.2 / w, total * p.2 % w))
    let left := total - base.foldl (fun a p => a + p.2.1) 0
    let extra := ((base.foldl (fun l x => insertRem x l) []).take left).map (·.1)
    base.map (fun p => (p.1, p.2.1 + if extra.contains p.1 then 1 else 0))

/-! ## Accounts -/

def bind (s : State) (t : Nat) : Bind := tget {} s.bg.binds t
def setBind (s : State) (t : Nat) (b : Bind) : State := { s with bg.binds := tset {} s.bg.binds t b }

/-- The account is kept resident. -/
def resident (s : State) (a : Nat) : Bool := s.bg.accts.any (·.1 == a)
def acct (s : State) (a : Nat) : Acct := tget {} s.bg.accts a
def putAcct (s : State) (a : Nat) (x : Acct) : State := { s with bg.accts := tput s.bg.accts a x }

/-- Backing address of an account's record (R299). -/
def acctAddr (s : State) (a : Nat) : Nat := (match s.mf.bind (·.accounts) with
  | some (_, base) => base
  | none => 0) + 32 * a

/-- The 32 bytes of a record (R300). -/
def acctBytes (nj : Nat) (corrupt : Bool) (seq grants : Nat) : List Byte :=
  let b := leBytes 8 (nj / 1000) ++ leBytes 2 (nj % 1000) ++ leBytes 2 (b2n corrupt) ++ leBytes 4 seq ++ leBytes 8 grants
  b ++ leBytes 4 (crc32 b) ++ zeros 4

/-- A fetched record, and whether its CRC is good (R302). -/
def parseAcct (bs : List Byte) : Acct × Bool :=
  if crc32 (bs.take 24) = leAt bs 24 4 then
    ({ nj := leAt bs 0 8 * 1000 + leAt bs 8 2, corrupt := bitAt (byteAt bs 10) 0, seq := leAt bs 12 4, grants := leAt bs 16 8 }, true)
  else ({ corrupt := true }, false)

/-- Energy and grants reach an account, or the pending count of the cluster's part (R300, R301). -/
def addAcct (s : State) (t nj grants : Nat) : State :=
  let b := bind s t
  match b.acct with
  | some a =>
    let s := { s with pb.fcs := lmod (fun f => f.active && f.acct == a) (fun f => { f with gain := f.gain + nj }) s.pb.fcs }
    if resident s a then
      let x := acct s a
      putAcct s a { x with nj := x.nj + nj, grants := x.grants + grants, dirty := true, changed := true, used := s.now }
    else setBind s t { b with nj := b.nj + nj, grants := b.grants + grants }
  | none =>
    if b.look.isSome then setBind s t { b with nj := b.nj + nj, grants := b.grants + grants }
    else { s with bg.unattrNj := s.bg.unattrNj + nj, bg.sec.unattr := s.bg.sec.unattr + nj }

/-- An account is bound to a cluster, or a part of it waits. -/
def acctInUse (s : State) (a : Nat) : Bool := s.bg.binds.any (fun p => p.2.acct == some a) || s.bg.pendAcct.any (·.1 == a)

/-- The least recently used of the accounts that are clean, not bound and not pending (R301). -/
def evictable (s : State) : Option Nat :=
  (s.bg.accts.foldl (fun m p =>
    if p.2.dirty || p.2.writing || acctInUse s p.1 then m else match m with
      | some q => if p.2.used < q.2 then some (p.1, p.2.used) else m
      | none => some (p.1, p.2.used)) none).map (·.1)

/-- A fetch begins where there is a place (R301), by the scheduler core; it waits otherwise. DEDUCED (log 55). -/
def fetchAcct (s : State) (a : Nat) : State :=
  if resident s a || s.bg.fetching.contains a then s
  else
    let s := { s with bg.fetchWait := s.bg.fetchWait.filter (· != a) }
    let go := fun (s : State) => hapReq { s with bg.fetching := s.bg.fetching ++ [a] } false (acctAddr s a) 1 2 false [] (.acctFetch a)
    let wait := { s with bg.fetchWait := s.bg.fetchWait ++ [a] }
    if !dutyRuns s 2 then wait
    else if s.bg.accts.length + s.bg.fetching.length < 4096 then go s
    else match evictable s with
      | some e => go { s with bg.accts := tdel s.bg.accts e }
      | none => wait

/-- Fetches that waited are tried again. -/
def fetchWaiting (s : State) : State := s.bg.fetchWait.foldl fetchAcct s

/-- Energy and grants of a frame go to an account that may still be fetched (R301, R303). DEDUCED (log 55). -/
def addPending (s : State) (a nj grants : Nat) : State :=
  if nj = 0 && grants = 0 then s
  else
    let c := tget ((0, 0) : Nat × Nat) s.bg.pendAcct a
    { s with bg.pendAcct := tput s.bg.pendAcct a (c.1 + nj, c.2 + grants) }

/-- A cluster leaves its binding: a part that waits for its account, or for the queue map's answer, is kept for it (R303).
DEDUCED (log 55). -/
def unbind (s : State) (t : Nat) : State :=
  let b := bind s t
  let s := match b.acct, b.look with
    | some a, _ => addPending s a b.nj b.grants
    | none, some q => { s with bg.leftLook := s.bg.leftLook ++ [⟨t, q, b.nj, b.grants⟩] }
    | none, none => { s with bg.unattrNj := s.bg.unattrNj + b.nj, bg.sec.unattr := s.bg.sec.unattr + b.nj }
  setBind s t { want := b.want }

/-- A binding that was written takes effect at a frame boundary (R299). DEDUCED (log 55). -/
def applyBind (s : State) (t : Nat) : State :=
  match (bind s t).want with
  | none => s
  | some q =>
    let s := unbind (setBind s t { bind s t with want := none }) t
    match q with
    | none => s
    | some q => match s.mf.bind (·.accounts) with
      | none => s
      | some (qmap, _) => hapReq (setBind s t { bind s t with look := some q }) false (mapBeat qmap q) 1 2 false [] (.qmap t q [])

/-- Energy and grants go to an account: at once where it is resident, and else with its record, which is fetched.
DEDUCED (log 55). -/
def creditAcct (s : State) (a nj grants : Nat) : State :=
  if resident s a then
    let x := acct s a
    putAcct s a { x with nj := x.nj + nj, grants := x.grants + grants, dirty := true, changed := true, used := s.now }
  else fetchAcct (addPending s a nj grants) a

/-- What a cluster gathered under a binding that it left before the queue map answered goes to the account of the queue, or counts
as unattributed where the queue is unmapped (R299, R303). DEDUCED (log 55). -/
def leftFound (s : State) (t q : Nat) (acct : Option Nat) : State :=
  let mine := s.bg.leftLook.filter (fun x => x.tile == t && x.queue == q)
  mine.foldl (fun s x => match acct with
    | some a => creditAcct s a x.nj x.grants
    | none => bgErr { s with bg.unattrNj := s.bg.unattrNj + x.nj, bg.sec.unattr := s.bg.sec.unattr + x.nj } Reg.BG_ERR.UNMAPPED)
    { s with bg.leftLook := s.bg.leftLook.filter (fun x => !(x.tile == t && x.queue == q)) }

/-- The queue map's answer for a cluster and a queue (R299): its account, or an unmapped queue; none where the cluster has been bound to
another queue since. DEDUCED (log 55). -/
def bindFound (s : State) (t q e : Nat) : State :=
  let s := leftFound s t q (if bitAt e 31 then some (e % 2 ^ 18) else none)
  let b := bind s t
  if b.look ≠ some q then s
  else
    if bitAt e 31 then
      let a := e % 2 ^ 18
      let s := setBind s t { b with acct := some a, look := none }
      let s := if resident s a then
          let x := acct s a
          setBind (putAcct s a { x with nj := x.nj + b.nj, grants := x.grants + b.grants, dirty := true, changed := true, used := s.now }) t
            { bind s t with nj := 0, grants := 0 }
        else s
      fetchAcct s a
    else bgErr (setBind { s with bg.unattrNj := s.bg.unattrNj + b.nj, bg.sec.unattr := s.bg.sec.unattr + b.nj } t { want := b.want }) Reg.BG_ERR.UNMAPPED

/-- An answer to a read of the queue map (R299): an entry that crosses into the next beat takes a second read, and a read that failed
gives an unmapped queue. DEDUCED (log 55). -/
def mapAnswer (s : State) (t q : Nat) (got : List Byte) (status : Nat) (data : List Byte) : State :=
  match s.mf.bind (·.accounts) with
  | none => s
  | some (qmap, _) =>
    if status ≠ 0 then bindFound s t q 0
    else if got.isEmpty then
      let bs := (data.take 32).drop ((qmap + 4 * q) % 32)
      if mapLen qmap q = 32 then bindFound s t q (leAt bs 0 4)
      else hapReq s false (mapBeat qmap q + 32) 1 2 false [] (.qmap t q bs)
    else bindFound s t q (leAt (got ++ data) 0 4)

/-- A fetched record becomes resident with every part that waited for it (R301, R302). DEDUCED (log 55). -/
def acctFetched (s : State) (a status : Nat) (data : List Byte) : State :=
  let s := { s with bg.fetching := s.bg.fetching.filter (· != a) }
  if status ≠ 0 then { s with bg.fetchWait := s.bg.fetchWait ++ [a] }
  else
    let (x, ok) := parseAcct data
    let parts := s.bg.binds.filter (fun p => p.2.acct == some a)
    let c := tget ((0, 0) : Nat × Nat) s.bg.pendAcct a
    let nj := parts.foldl (fun n p => n + p.2.nj) c.1
    let gr := parts.foldl (fun n p => n + p.2.grants) c.2
    let s := putAcct s a { x with
      nj := x.nj + nj, grants := x.grants + gr, dirty := nj != 0 || gr != 0 || !ok, changed := nj != 0 || gr != 0 || !ok, used := s.now }
    let s := parts.foldl (fun s p => setBind s p.1 { bind s p.1 with nj := 0, grants := 0 })
      { s with bg.pendAcct := tdel s.bg.pendAcct a }
    if ok then s else bgErrAlways s Reg.BG_ERR.ACCT_CORRUPT (acctUnit a) 0 0

/-- ACCOUNT_FETCH_DONE (R299, R301): a read of the queue map or of a record has completed. -/
def execAccountFetchDone (s : State) : Host.Outcome State Fault Refusal :=
  finish (match takeDone s (fun p => match p with
    | .qmap .. | .acctFetch _ => true
    | _ => false) with
  | some (d, s) => match d.purpose with
    | .qmap t q got => mapAnswer s t q got d.status d.data
    | .acctFetch a => acctFetched s a d.status d.data
    | _ => s
  | none => s)

/-- Writes one account back (R301); it stays dirty until GOOD. DEDUCED (log 55). -/
def writeAcct (s : State) (a : Nat) : State :=
  let x := acct s a
  if x.dirty && !x.writing then
    hapReq (putAcct s a { x with changed := false, writing := true }) true (acctAddr s a) 1 2 false
      (acctBytes x.nj x.corrupt ((x.seq + 1) % 2 ^ 32) x.grants) (.acctWb a)
  else s

/-- ACCOUNT_WRITEBACK (R301): WB_MS after the last. -/
def writeBack (s : State) : State :=
  if hostOpen s && (s.mf.bind (·.accounts)).isSome && dutyRuns s 2 then
    let s := advanceTo s (s.bg.wbAt + ms (getF s Reg.BG_ACCT_CFG.WB_MS))
    fetchWaiting (s.bg.accts.foldl (fun s p => writeAcct s p.1) { s with bg.wbAt := s.now })
  else s

def execAccountWriteback (s : State) : Host.Outcome State Fault Refusal := finish (writeBack s)

/-- One write-back of an account has gone GOOD: the flushes that wait for it go on. DEDUCED (log 55). -/
def flushGood (s : State) (a : Nat) : State :=
  let again := s.bg.flushes.any (fun f => f.2.any (fun p => p.1 == a && decide (1 < p.2)))
  let fl := s.bg.flushes.map (fun f => (f.1, (f.2.map (fun p => if p.1 = a then (p.1, p.2 - 1) else p)).filter (·.2 != 0)))
  let s := { s with bg.flushes := fl.filter (fun f => !f.2.isEmpty) }
  let s := (fl.filter (fun f => f.2.isEmpty)).foldl (fun s f => completeKey s f.1 0 0) s
  if again then writeAcct s a else s

/-- A write-back of an account has failed: the next one carries what changed meanwhile, so that a flush waits for that one alone.
DEDUCED (log 55). -/
def flushFailed (s : State) (a : Nat) : State :=
  { s with bg.flushes := s.bg.flushes.map (fun f => (f.1, f.2.map (fun p => if p.1 = a then (p.1, 1) else p))) }

/-- ACCOUNT_WRITEBACK_DONE (R301). -/
def execAccountWritebackDone (s : State) : Host.Outcome State Fault Refusal :=
  finish (match takeDone s (fun p => match p with
    | .acctWb _ => true
    | _ => false) with
  | some (d, s) => match d.purpose with
    | .acctWb a =>
      let x := acct s a
      if d.status = 0 then flushGood (putAcct s a { x with dirty := x.changed, changed := false, writing := false, seq := (x.seq + 1) % 2 ^ 32 }) a
      else bgErrAlways (flushFailed (putAcct s a { x with writing := false }) a) Reg.BG_ERR.ACCT_WB (acctUnit a) 0 0
    | _ => s
  | none => s)

/-- ACCOUNT_FLUSH (R301): every dirty account is written back, and those whose write-back is out once more where they changed.
DEDUCED (log 55). -/
def flushBody (s : State) (f : Flight) (_d : List Byte) : State :=
  let wait := (s.bg.accts.filter (fun p => p.2.dirty || p.2.writing)).map (fun p => (p.1, if p.2.changed && p.2.writing then 2 else 1))
  if wait.isEmpty then complete s f 0 0
  else (s.bg.accts.foldl (fun s p => writeAcct s p.1) { setJob s f .acctFlush with bg.flushes := s.bg.flushes ++ [(f.key, wait)] })

def execAccountFlush (s : State) : Host.Outcome State Fault Refusal :=
  finish (runDesc s (fun d => dOp d == 0x53) .acctFlush (fun _ d => { target := noTarget d }) flushBody)

/-- Bytes from an address to the next 4 KiB boundary. -/
def toBoundary (a : Nat) : Nat := 4096 - a % 4096

/-- A result of n bytes goes to memory, and the descriptor completes at GOOD (R321); in two requests where one would cross a 4 KiB
boundary (R42). -/
def writeResult (s : State) (f : Flight) (dest : Nat) (bytes : List Byte) : State :=
  let n := toBoundary dest
  let sec := ringSec s f.ring
  if bytes.length ≤ n then hapReq (setJob s f .result) true dest (ceilDiv bytes.length 32) 0 sec bytes (.result f.key)
  else
    hapReq (hapReq (setJob s f .results) true dest (ceilDiv n 32) 0 sec (bytes.take n) (.result f.key)) true (dest + n)
      (ceilDiv (bytes.length - n) 32) 0 sec (bytes.drop n) (.result f.key)

/-- The answer to the write of a result, or of one of its two parts: OK, or HAP_WRITE with its status. -/
def resultDone (s : State) (key status : Nat) : State :=
  if status ≠ 0 then completeKey s key 0x0011 status
  else match s.hr.flights.find? (·.key == key) with
    | some f => if f.job = .results then setJob s f .result else completeKey s key 0 0
    | none => s

/-- A descriptor whose only operand is DEST, 32-byte aligned. -/
def destSpec (manifest target : Bool) (d : List Byte) : OpSpec :=
  { manifest := manifest, named := [(8, 8)], target := target, operand := if leAt d 8 8 % 32 ≠ 0 then some 8 else none }

def accountReadBody (back : MemRead) (s : State) (f : Flight) (d : List Byte) : State :=
  let a := dTarget d % 2 ^ 24
  if resident s a then
    let x := acct s a
    writeResult s f (leAt d 8 8) (acctBytes x.nj x.corrupt x.seq x.grants)
  else match back with
    | .fail st => readFail s f (acctAddr s a) 32 2 st.toNat
    | .data bs corr =>
      let s := readDone corr s f (acctAddr s a) 32 2
      let (x, ok) := parseAcct (bs.take 32)
      let s := if ok then s else bgErrAlways s Reg.BG_ERR.ACCT_CORRUPT (acctUnit a) 0 0
      writeResult s f (leAt d 8 8) (acctBytes x.nj x.corrupt x.seq x.grants)

/-- ACCOUNT_READ (R333); `back` is what the read of the backing record gives. -/
def execAccountRead (back : MemRead) (s : State) : Host.Outcome State Fault Refusal :=
  finish (runRead s (fun d => dOp d == 0x52) .result
    (fun s d => destSpec true (dTarget d / 2 ^ 24 == 10 && validUnit s (dTarget d)) d)
    (fun s d => !resident s (dTarget d % 2 ^ 24) && !readOpen s 2) (accountReadBody back))

/-- The committed fuse words as the signing key pair is derived from them (R306). DESIGN CHOICE (log 2). -/
def fuseWords (s : State) : List Nat := (List.range 4096).map (fun w => tget 0 s.rs.fuses w % 2 ^ 26)

/-- The private key of the reports: one of P-384, from 1 to n - 1 (R306). DESIGN CHOICE (log 2). -/
def reportPrivate (s : State) : Nat := Config.signingKey (fuseWords s) % (p384N - 1) + 1

/-- The report public key in its uncompressed form, 97 bytes: 04, X and Y, each most significant byte first (R306, R334). -/
def reportKey (s : State) : List Byte :=
  let p := p384Public (reportPrivate s)
  4#8 :: ((leBytes 48 p.1).reverse ++ (leBytes 48 p.2).reverse)

/-- REPORT_KEY_READ (R334). -/
def execReportKeyRead (s : State) : Host.Outcome State Fault Refusal :=
  finish (runDesc s (fun d => dOp d == 0x54) .result (fun _ d => destSpec false (noTarget d) d)
    (fun s f d => writeResult s f (leAt d 8 8) (reportKey s ++ zeros 31)))

/-! ## Zeroing the backing region (R302) -/

/-- Requests of 256 bytes that cover the 8 MiB region. -/
def zeroParts : Nat := 32768

/-- Writes one part of the region with records of value 0. -/
def zeroPart (s : State) (k : Nat) : State :=
  hapReq s true (acctAddr s 0 + 256 * k) 8 2 false ((List.replicate 8 (acctBytes 0 false 0 0)).flatten) (.zeroAcct k)

/-- A part has been answered: it is written again where it failed, and the next follows. -/
def zeroDone (s : State) (k status : Nat) : State :=
  if status ≠ 0 then zeroPart s k
  else if k + 1 < zeroParts then zeroPart s (k + 1)
  else { s with rs.zeroing := false }

/-! ## The energy of a frame (R300, R421, R423) -/

/-- A tile agent divides its part over its op codes (R421). DEDUCED (log 63). -/
def opEnergy (s : State) (t nj : Nat) : State :=
  let x := tile s t
  let parts := largestRem nj ((x.ops.filter (fun p => p.2.cyc != 0)).map (fun p => (p.1, p.2.cyc)))
  if parts.isEmpty then { s with obs.idle := s.obs.idle + nj }
  else setTile s t { x with ops := parts.foldl (fun o p => tset {} o p.1 { tget ({} : OpInc) o p.1 with nj := (tget ({} : OpInc) o p.1).nj + p.2 }) x.ops }

/-- Credit time of a frame is used up. -/
def clearCyc (x : Tile) : Tile :=
  { x with ops := (x.ops.map (fun p => (p.1, { p.2 with cyc := 0 }))).filter (fun p => p.2 != {}) }

/-- The key of the attribution table at A_x (R423). DEDUCED (log 63). -/
def loKey (s : State) : Nat × Nat :=
  if s.sa.state == .tracking then
    let b := bin s (binOf s s.sa.aX)
    (b.layer, b.oper)
  else (0, 0)

/-- Adds the energy of n frames to the entry of the key at A_x, or to OTHER where no entry is free (R423). DEDUCED (log 63). -/
def attrFrames (s : State) (nj n : Nat) : State :=
  let (l, o) := loKey s
  match s.obs.lo.findIdx? (fun e => e.layer == l && e.oper == o) with
  | some i => { s with obs.lo := s.obs.lo.modify i (fun e => { e with nj := e.nj + nj, frames := e.frames + n }) }
  | none =>
    if s.obs.lo.length < 1023 then { s with obs.lo := s.obs.lo ++ [⟨l, o, nj, n⟩] }
    else { s with obs.other := { s.obs.other with nj := s.obs.other.nj + nj, frames := s.obs.other.frames + n }, obs.loFull := true }

/-- Adds a frame's energy to the attribution table, first freeing it where a clear was asked for (R423, R424).
DEDUCED (log 63). -/
def attrEnergy (s : State) (nj : Nat) : State :=
  attrFrames (if s.obs.loClr then { s with obs.lo := [{}], obs.other := {}, obs.loFull := false, obs.loClr := false } else s) nj 1

/-- A frame's energy over the powered tile agents in proportion to H_t (R300). DEDUCED (log 63). -/
def divideEnergy (s : State) (nj : Nat) : State :=
  let ws := ((s.cc.tiles.filter (fun p => p.2.pwrOk)).map (fun p => (p.1, p.2.hH)))
  let parts := largestRem nj ws
  let s := if parts.isEmpty then
      { s with
        bg.unattrNj := s.bg.unattrNj + nj, bg.sec.unattr := s.bg.sec.unattr + nj, obs.idle := s.obs.idle + nj }
    else parts.foldl (fun s p => opEnergy (addAcct s p.1 p.2 0) p.1 p.2) s
  attrEnergy { s with cc.tiles := s.cc.tiles.map (fun p => (p.1, clearCyc p.2)) } nj

end Sys2Proof.Machine
end

