-- ==== Sys2Proof/Machine/Angle.lean ====
section
/-! DEFINITION. The step-angle tracker and the angle timers (R37, R82 to R88). -/

namespace Sys2Proof.Machine

/-- The extrapolation limit, in angle units (R83). -/
def leadMax (s : State) : Nat := 256 * getF s Reg.SA_CFG.LEAD_MAX

/-- An update is received: A_r and its timestamps. -/
def takeAngle (s : State) (a : Angle) : State :=
  { s with sa.aR := a, sa.tR := s.tb.time, sa.cR := s.now, sa.acceptedAt := s.now, sa.exAt := s.now }

/-- A_x takes the received angle, and enters the bins on its way (R205). -/
def snapAngle (s : State) : State :=
  enterBins { s with sa.aX := s.sa.aR, sa.behind := false, sa.limited := false } s.sa.aX

/-- The first update of an acquisition sets A_x (R84); the instances and the plan follow the new angle. After LOST, A_x moves on from
the value at which it froze: what it passes fires (R88, R224), and a move of more than 65,536 units, or backward, is a jump
(R85, R88). DEDUCED (log 36). -/
def firstAngle (s : State) (a : Angle) : State :=
  let x := s.sa.aX
  let e := (a - x).toNat
  let lost := s.sa.state == .lost
  let s := snapAngle (takeAngle { s with sa.state := .acquiring, sa.first := true } a)
  if !lost then armTimers (planFollow { s with pb.inst := freshInst s s.sa.aX })
  else if e ≤ 65536 then armTimers (planFollow (markLate s))
  else if e < 2 ^ 31 then forwardJump (incSat s Reg.SA_ERR.JUMP) x
  else backwardJump (incSat s Reg.SA_ERR.BACKWARD) x

/-- The rate that two updates give, Q4.28 (R84). What it is where the quotient does not fit, or no cycle lies between the updates, the
spec does not say: it saturates, and is 0 for Δc = 0. DESIGN CHOICE (log 73). -/
def newRate (da dc : Nat) : Nat := if dc = 0 then 0 else min (da * 2 ^ 28 / dc) (2 ^ 32 - 1)

/-- The rate after an update that is `da` units ahead of the one before (R84): the first in ACQUIRING sets it, later ones filter.
DEDUCED (log 36). -/
def trackRate (s : State) (da : Nat) : State :=
  let w := newRate da (s.now - s.sa.cR)
  if s.sa.state == .acquiring then { s with sa.rate := w, sa.state := .tracking }
  else
    let k : Int := (2 ^ getF s Reg.SA_CFG.RATE_SHIFT : Nat)
    { s with sa.rate := ((s.sa.rate : Int) + ((w : Int) - s.sa.rate).tdiv k).toNat }

/-- Where an accepted update stands relative to A_x, and what follows (R85). Whether the update of a backward jump is the first of the
new acquisition the spec does not say: it is, so that the next one can set the rate. DESIGN CHOICE (log 73). -/
def placeAngle (s : State) (a x : Angle) : State :=
  let e := (a - x).toNat
  if e ≤ 65536 then snapAngle s
  else if e < 2 ^ 31 then
    forwardJump (incSat (snapAngle s) Reg.SA_ERR.JUMP) x
  else if 2 ^ 32 - e ≤ leadMax s then { s with sa.behind := true }
  else
    backwardJump (incSat { snapAngle s with sa.state := .acquiring, sa.first := true } Reg.SA_ERR.BACKWARD) x

/-- An update in ACQUIRING or TRACKING after the first. DEDUCED (log 36). -/
def laterAngle (s : State) (a : Angle) : State :=
  let da := (a - s.sa.aR).toNat
  let s1 := if 1 ≤ da ∧ da ≤ 65536 then trackRate s da else s
  placeAngle (takeAngle s1 a) a s.sa.aX

/-- A toggle that comes less than 40 ns after the previous one may be lost (R37). -/
def toggleGone (s : State) : Bool := match s.sa.toggleAt with
  | some t => decide (s.now < t + 10) && Config.toggleLost s.free
  | none => false

/-- STEP_ANGLE_UPDATE (R37, R84, R85): the edge comes `wait` reference cycles after the command before it. -/
def angleUpdate (a : Angle) (wait : Nat) (s : State) : State :=
  let s := advanceTo s (s.now + wait)
  if released s 6 && s.sa.state != .off then
    let gone := toggleGone s
    let s := bumpFree { s with sa.toggleAt := some s.now }
    if gone then incSat s Reg.SA_ERR.LOST_TGL
    else if s.sa.state == .lost || !s.sa.first then firstAngle s a
    else laterAngle s a
  else s

def execStepAngleUpdate (angle : Angle) (wait : Nat) (s : State) : Host.Outcome State Fault Refusal := finish (angleUpdate angle wait s)

/-- A_x extrapolated to now (R83), within the lead limit, and never backward. -/
def extrapolated (s : State) : State :=
  let raw := s.sa.rate * (s.now - s.sa.cR) / 2 ^ 28
  let x := s.sa.aR + BitVec.ofNat 32 (min raw (leadMax s))
  if ahead x s.sa.aX then enterBins { s with sa.aX := x, sa.behind := false, sa.limited := decide (leadMax s < raw) } s.sa.aX
  else { s with sa.limited := decide (leadMax s < raw) }

/-- ANGLE_EXTRAPOLATE (R83): 4 reference cycles after the last. -/
def extrapolate (s : State) : State :=
  if released s 6 && s.sa.state == .tracking then
    let s := advanceTo s (s.sa.exAt + 4)
    extrapolated { s with sa.exAt := s.now }
  else s

def execAngleExtrapolate (s : State) : Host.Outcome State Fault Refusal := finish (extrapolate s)

/-- A firing is delivered to the feature that armed the timer (R87, R208, R294, R296). -/
def deliver (s : State) (t : Timer) : State := match t.owner with
  | .action i => startAction s i t.trig
  | .forecast id => startForecast s id
  | .plan i => planFire s i
  | .step _ => stepApply s

/-- The trigger lies before that of another timer, as both stand to A_x. -/
def trigBefore (s : State) (a b : Angle) : Bool :=
  decide (toSigned 32 (a - s.sa.aX).toNat < toSigned 32 (b - s.sa.aX).toNat)

/-- Inserts a timer into a list in ascending trigger order, after those of the same trigger. -/
def insertTrig (s : State) (p : Nat × Timer) : List (Nat × Timer) → List (Nat × Timer)
  | [] => [p]
  | q :: l => if trigBefore s p.2.trig q.2.trig then p :: q :: l else q :: insertTrig s p l

/-- The timers whose condition holds, in ascending trigger order (R88). DEDUCED (log 36). -/
def dueTimers (s : State) : List (Nat × Timer) :=
  (s.sa.timers.filterMap (fun p => p.2.bind (fun t => if timerDue s t then some (p.1, t) else none))).foldl (fun l p => insertTrig s p l) []

/-- A timer fires, a reference cycle or more after the last (R88), and the next instance is armed. DEDUCED (log 36). -/
def fireTimer (s : State) (p : Nat × Timer) : State :=
  if timer s p.1 = some p.2 then
    let s := match s.sa.firedAt with
      | some t => advanceTo s (t + 1)
      | none => s
    armTimers (deliver (setTimer (markLate { s with sa.firedAt := some s.now }) p.1 none) p.2)
  else s

/-- The members of a list up to and including timer k. -/
def upTo (k : Nat) : List (Nat × Timer) → List (Nat × Timer)
  | [] => []
  | p :: l => if p.1 = k then [p] else p :: upTo k l

/-- ANGLE_TIMER (R87, R88): an armed timer whose condition holds fires once, after those that are due before it.
DEDUCED (log 36). -/
def angleTimer (k : Nat) (s : State) : State :=
  match timer s k with
  | none => s
  | some t => if released s 6 && timerDue s t then (upTo k (dueTimers s)).foldl fireTimer s else s

def execAngleTimer (timer : BitVec 8) (s : State) : Host.Outcome State Fault Refusal := finish (angleTimer timer.toNat s)

/-- ANGLE_LOSS (R86): LOSS_MS after the last accepted update. -/
def angleLoss (s : State) : State :=
  let n := getF s Reg.SA_CFG.LOSS_MS
  if released s 6 && n != 0 && (s.sa.state == .acquiring || s.sa.state == .tracking) then
    let s := advanceTo s (s.sa.acceptedAt + ms n)
    angleLost (incSat { s with sa.state := .lost } Reg.SA_ERR.LOSS)
  else s

def execAngleLoss (s : State) : Host.Outcome State Fault Refusal := finish (angleLoss s)

/-- What follows a write that changed SA_CFG.EN (R84): 0 to 1 acquires, 1 to 0 turns the tracker off. -/
def trackerEn (was : Bool) (s : State) : State :=
  let is := flagOn s Reg.SA_CFG.EN
  if is && !was then
    setF (setF (setF (setF { s with sa.state := .acquiring, sa.first := false, sa.acceptedAt := s.now, sa.exAt := s.now }
      Reg.SA_ERR.LOST_TGL 0) Reg.SA_ERR.BACKWARD 0) Reg.SA_ERR.JUMP 0) Reg.SA_ERR.LOSS 0
  else if was && !is then markEnd { s with sa.state := .off, pb.excluded := true } (fun _ => true) 0
  else s

end Sys2Proof.Machine
end

