-- ==== Sys2Proof/Machine/Grants.lean ====
section
/-! DEFINITION. The grants of a tile agent (R182, R185), which every row that frees its engines shares. -/

namespace Sys2Proof.Machine

/-- The cost of an op code (R182). -/
def opCost (s : State) (code : Nat) : Nat := getF s (Reg.CC_COST.COST code)

/-- W_t: the costs of the engines that request a start and are not granted (R188). -/
def waitCost (s : State) (t : Nat) : Nat := (waiting (tile s t)).foldl (fun n p => n + opCost s p.2) 0

/-- The scan of R185: the tile agent, whether the head is blocked, and the engines granted. -/
structure Scan where
  x : Tile
  blocked : Bool := false
  granted : List Nat := []

/-- One engine of the scan (R185). -/
def scanEngine (s : State) (c : Scan) (e : Nat) : Scan :=
  let g := eng c.x e
  match g.start with
  | some code =>
    if 8 ≤ c.granted.length || g.running then c
    else
      let n := opCost s code
      if n != 0 && (c.blocked || recallOpen c.x != 0 || decide (c.x.pool < n)) then { c with blocked := true }
      else
        let o := tget ({} : OpInc) c.x.ops code
        let x := setEng c.x e { g with running := true, cost := n, code := code, grantedAt := s.now, opMax := false, start := none }
        { c with
          x := { x with
            pool := x.pool - n
            held := x.held + n
            last := if c.blocked then x.last else e
            grantCnt := x.grantCnt + 1
            ops := tset {} x.ops code { o with grants := o.grants + 1 } }
          granted := c.granted ++ [e] }
  | none => c

/-- One cycle's grant scan (R185), and the grants' count at the account (R300). -/
def grantScan (s : State) (t : Nat) : State :=
  let x := tile s t
  if grantBlocked s t || !tileRuns s t then setTile s t { x with grants := [] }
  else
    let c := ((List.range 64).map (fun k => (x.last + 1 + k) % 64)).foldl (scanEngine s) { x := x }
    let s := setTile s t { c.x with grants := c.granted }
    if c.granted.isEmpty then s else addAcct s t 0 c.granted.length

/-- The scans of up to n CL_CLK cycles, until one grants nothing; ENG_GRANT holds the engines of all of them.
DEDUCED (log 47). -/
def grantCycles (t : Nat) : Nat → List Nat → State → State
  | 0, l, s => modTile s t (fun x => { x with grants := l })
  | n + 1, l, s =>
    let s := grantScan s t
    let g := (tile s t).grants
    if g.isEmpty then modTile s t (fun x => { x with grants := l }) else grantCycles t n (l ++ g) s

/-- The cycles that follow a change at a tile agent: 64 engines take 8 cycles, a few ns, and the ninth grants nothing (R185).
DEDUCED (log 47). -/
def grantRun (s : State) (t : Nat) : State := grantCycles t 9 [] s

/-- Every tile agent with an engine that waits runs its scans. -/
def grantTiles (s : State) : State :=
  (s.cc.tiles.filter (fun p => !(waiting p.2).isEmpty)).foldl (fun s p => grantRun s p.1) s

/-- Ends a command that may lift a stop of grants: GSTOP follows its holds, and the engines that waited for it are granted. -/
def finishGrants (s : State) : Host.Outcome State Fault Refusal := .next (grantTiles (settle s))

end Sys2Proof.Machine
end

