-- ==== Sys2Proof/Machine/Budget.lean ====
section
/-! DEFINITION. The enforcement windows, the rack minute, the boundaries of the report periods and the signed reports
(R265 to R275, R304 to R307). -/

namespace Sys2Proof.Machine

/-! ## HELD, OWN and the windows -/

/-- A difference of two running totals as a signed 32-bit value (R282). -/
def totDiff (a b : Nat) : Int := toSigned 32 (a + 2 ^ 32 - b % 2 ^ 32)

/-- HELD (R282). -/
def bgHeld (s : State) : Int := s.bg.links.foldl (fun h p => h + totDiff p.2.recv p.2.sent) (s.bg.initial + s.bg.adjust)

/-- OWN as the windows take it: 0 while HELD is below 0 (R265). -/
def winOwn (s : State) : Int := if bgHeld s < 0 then 0 else s.bg.own

/-- Frames left to the next minute boundary (R273). -/
def tRem (s : State) : Nat := (s.bg.minuteAt - s.now) / 125

/-- The bank B, nJ (R273). -/
def bank (s : State) : Int := s.bg.allowNj - s.bg.usedNj

/-- GUARD_MJ in nJ. -/
def guardNj (s : State) : Int := getF s Reg.BG_W3_CFG.GUARD_MJ * 1000000

/-- The stop level Θ, nJ (R273). -/
def theta (s : State) : Int := guardNj s - (winOwn s - s.bg.floor) * 50 * tRem s

/-- The crown fraction c (R271). -/
def crownPct (s : State) : Nat :=
  if flagOn s Reg.BG_CFG.CROWN_EN && !s.bg.stop && decide ((getF s Reg.BG_CROWN.BANK_MIN_MJ * 1000000 : Nat) ≤ bank s) then
    getF s Reg.BG_CROWN.CROWN_PCT else 0

/-- L1 over 2,000 frames, in units of the frame power. -/
def l1Sum (s : State) : Int := winOwn s * (100 + crownPct s) * 256000

/-- W1 exceeds OWN × 0.1 W (BG_STATUS.CROWN). -/
def crownOn (s : State) : Bool := s.bg.formed && decide (winOwn s * 25600000 < s.bg.pfSum)

/-- The sums of W2 over the completed blocks, and of L2 in the same units. -/
def w2Sum (s : State) : Nat := s.bg.blks.foldl (fun a b => a + b.1) 0
def l2Sum (s : State) : Int := s.bg.blks.foldl (fun a b => a + b.2) (0 : Int) * (100 + (getF s Reg.BG_CROWN.SLACK_PCT : Int)) * 128

/-- EDC_r in A (R270). -/
def edc (s : State) (r : Nat) : Nat := match mfRail s r with
  | some m => min m.design (nAvail s r * getPc s (Reg.RAIL_SHED.I_PER_PHASE r))
  | none => 0

/-- Rails that have tile agents assigned. -/
def tileRails (s : State) : List Nat := (mfRails s).filter (fun r => !(railTiles s r).isEmpty)

/-- The 10 µs window and its current cap (R270). DEDUCED (log 54). -/
def window0 (s : State) : State :=
  let rs := tileRails s
  let e := rs.foldl (fun n r => n + edc s r) 0
  let i := rs.foldl (fun n r => n + iRail s r) (0 : Int)
  let ir := (i :: s.bg.ir).take 20
  let i10 := ir.foldl (· + ·) (0 : Int)
  let cap := (640 * ((e : Int) - getF s Reg.BG_W0_CFG.IDLE_A) - max 0 (i10 - 640 * e)).toNat
  let w := rs.foldl (fun n r => n + edc s r * (rail s r).vset) 0
  let s := { s with bg.ir := ir, bg.i10 := i10, bg.edcSum := e, bg.edcW := w, bg.cap := cap }
  if 640 * (e : Int) < i10 then bgErr s Reg.BG_ERR.W0_OVER else s

/-- A frame enters W1 and its block; answers whether the frame ends a block (R271). -/
def windowPush (s : State) (p : Nat) : State × Bool :=
  let out := (s.bg.pf[1999]?).getD 0
  let n := s.bg.blkN + 1
  let bp := s.bg.blkP + p
  let bo := s.bg.blkOwn + winOwn s
  let s := { s with bg.pf := (p :: s.bg.pf).take 2000, bg.pfSum := s.bg.pfSum + p - out }
  if n = 2000 then ({ s with bg.blks := ((bp, bo) :: s.bg.blks).take 1000, bg.blkN := 0, bg.blkP := 0, bg.blkOwn := 0 }, true)
  else ({ s with bg.blkN := n, bg.blkP := bp, bg.blkOwn := bo }, false)

/-- The W3 stop is taken or released at a frame (R273). DEDUCED (log 54). -/
def window3 (s : State) : State :=
  if s.bg.stop then
    if theta s + guardNj s < bank s then { s with bg.stop := false } else s
  else if bank s ≤ theta s then bgErr { s with bg.stop := true } Reg.BG_ERR.W3_STOP
  else s

/-- W1 and W2 against their limits (R272); a ceiling that stands was applied when it began to. DEDUCED (log 54). -/
def window12 (s : State) (block : Bool) : State :=
  let over1 := decide (l1Sum s < s.bg.pfSum)
  let over2 := block && decide (l2Sum s < w2Sum s)
  let s := if over1 then bgErr s Reg.BG_ERR.W1_OVER else s
  let s := if over2 then bgErr s Reg.BG_ERR.W2_OVER else s
  if (over1 || over2) && !s.bg.ceil then { s with bg.ceil := true, bg.ceilAt := s.now } else s

/-- W1 in 100 mW, and W2. -/
def w1Mean (s : State) : Nat := s.bg.pfSum / 25600000
def w2Mean (s : State) : Nat := if s.bg.blks.isEmpty then 0 else w2Sum s / (s.bg.blks.length * 25600000)

/-- A period gathers a frame (R305). DEDUCED (log 54). -/
def periodFrame (s : State) (p : Period) (peak : Nat) : Period :=
  { p with
    peak := max p.peak peak, ownMin := min p.ownMin s.bg.own, ownMax := max p.ownMax s.bg.own
    crownFr := p.crownFr + b2n (crownOn s), ceilFr := p.ceilFr + b2n (s.bg.ceil || s.bg.stop), stopFr := p.stopFr + b2n s.bg.stop
    flags := p.flags ||| (64 * b2n s.pc.brake) ||| (128 * b2n (s.bg.ceil || s.bg.stop)) }

/-- STEPUP_OK's condition at a frame (R296): since when W1 has stayed below L1 × (100 - UP_PCT) ÷ 100. -/
def upFrame (s : State) : State :=
  if (s.bg.pfSum : Int) * 100 < l1Sum s * (100 - (getF s Reg.BG_DET.UP_PCT : Int)) then
    { s with bg.upSince := some (s.bg.upSince.getD s.now) }
  else { s with bg.upSince := none }

/-- A ceiling, hold or voltage keeps a powered cluster below the plan in deterministic mode (R295): once per step. DEDUCED (log 58). -/
def detFrame (s : State) : State :=
  match planLevel s with
  | some p =>
    let held := ((mfTiles s).filter (fun t => (tile s t).pwrOk)).any (fun t =>
      decide (min (ceilLevel s t) (supported s (mfTile s t).rail (vtgtCeil s (mfTile s t).rail)) < p))
    if held && !s.bg.broken then
      bgErr (incSat { s with bg.broken := true } Reg.BG_DET_CNT.BROKEN) Reg.BG_ERR.DET_BROKEN
    else s
  | none => s

/-- The windows of a formed group at a frame. DEDUCED (log 54). -/
def windows (s : State) (block : Bool) : State :=
  let s := upFrame (window12 (window3 s) block)
  { s with bg.acted := s.bg.acted || s.bg.ceil || s.bg.stop }

/-- The periods of the reports gather a frame, from the manifest on and with or without a group (R304, R305). -/
def periodsFrame (s : State) : State :=
  if s.mf.isSome then
    { s with
      bg.sec := periodFrame s s.bg.sec (w1Mean s)
      bg.min_ := periodFrame s s.bg.min_ (w2Mean s)
      bg.tod := s.bg.tod || quality s == 0 }
  else s

/-- The set-point target of a loop on window w (R275), floor(L_w × 8 ÷ 1 W), up to 32,767. -/
def windowTarget (s : State) (w : Nat) : Int :=
  let own := winOwn s
  clampInt 0 32767 (match w with
    | 0 => ((s.bg.edcW * 8 / 2000000 : Nat) : Int)
    | 1 => (own * (100 + crownPct s) * 8).fdiv 1000
    | 2 => if s.bg.blks.isEmpty then (own * (100 + getF s Reg.BG_CROWN.SLACK_PCT) * 8).fdiv 1000
        else (l2Sum s * 8).fdiv (256000000 * s.bg.blks.length : Nat)
    | _ =>
      let t : Int := max 1 (tRem s : Int)
      (clampInt 0 (4095000000000 * t) (own * 100000000 * t + (bank s - guardNj s) * 2000000) * 8).fdiv (1000000000 * t))

/-- The budget unit writes the set-point targets of its windows at a frame boundary (R275). -/
def writeTargets (s : State) : State := { s with bg.lw := (List.range 4).map (windowTarget s) }

/-- The budget unit's part of a frame boundary (R269 to R273, R299, R300): meters, binds, and forms the windows.
DEDUCED (log 54). -/
def budgetFrame (s : State) : State :=
  let p := chipPower s
  let e := (roundEven p 256).toNat
  let a := winOwn s * 50
  let s := divideEnergy { s with
    bg.energyNj := s.bg.energyNj + e, bg.usedNj := s.bg.usedNj + e, bg.sec.nj := s.bg.sec.nj + e, bg.lastEf := e
    bg.allowNj := s.bg.allowNj + a, bg.sec.allow := s.bg.sec.allow + a.toNat, bg.minuteFrames := s.bg.minuteFrames + 1 } e
  let s := s.bg.binds.foldl (fun s b => applyBind s b.1) s
  let (s, block) := windowPush (window0 s) p
  writeTargets (detFrame (periodsFrame (if s.bg.formed then windows s block else s)))

/-- BUDGET_CEILING_LIFT (R272): 100 µs after it was applied, once both windows are at or below 0.98 of their limits.
DEDUCED (log 54). -/
def budgetLift (s : State) : State :=
  let s := if s.bg.ceil then advanceTo s (s.bg.ceilAt + us 100) else s
  if released s 6 && s.bg.ceil && decide ((s.bg.pfSum : Int) * 100 ≤ 98 * l1Sum s) && decide ((w2Sum s : Int) * 100 ≤ 98 * l2Sum s) then
    { s with bg.ceil := false }
  else s

def execBudgetCeilingLift (s : State) : Host.Outcome State Fault Refusal := finish (budgetLift s)

/-! ## Sources and set-points of the windows (R275) -/

/-- Mean power of a window in units of 1/128000 W, as numerator and denominator. -/
def windowMean (s : State) (w : Nat) : Nat × Nat := match w with
  | 0 => ((s.bg.pf.take 20).foldl (· + ·) 0, 20)
  | 1 => (s.bg.pfSum, 2000)
  | 2 => (w2Sum s, max 1 (2000 * s.bg.blks.length))
  | _ => (256 * s.bg.usedNj, max 1 s.bg.minuteFrames)

/-- A window's mean power as a source of class 0x7, or of class 0x0 for window 0 (R94). -/
def windowSource (s : State) (w : Nat) : Int :=
  let (n, d) := windowMean s w
  sat16 (roundEven n (16000 * d))

/-! ## Reports (R304 to R307) -/

/-- FX_VERSION (R3). -/
def fxVersion : Nat := 0x00040201

/-- KEY_ID: the first 4 bytes of SHA-384 over the public key in its uncompressed form (R306). -/
def keyId (s : State) : List Byte := (sha384 (reportKey s)).take 4

/-- The 160 bytes of a report that are signed (R305). -/
def reportBody (s : State) (kind seq : Nat) (p : Period) (energy allow unattr : Nat) (flags : Nat) : List Byte :=
  leBytes 4 0x54525046 ++ leBytes 2 1 ++ leBytes 1 kind ++ leBytes 1 flags ++
    (match s.mf.bind (·.group) with
      | some g => leBytes 2 g.own ++ leBytes 2 g.group
      | none => zeros 4) ++
    leBytes 4 seq ++ leBytes 8 p.tStart ++ leBytes 8 s.tb.time ++ leBytes 8 energy ++ leBytes 8 allow ++
    leBytes 8 (s.bg.energyNj / 1000) ++ leBytes 8 unattr ++ leBytes 4 p.peak ++
    leBytes 4 (ofSigned 32 p.ownMin) ++ leBytes 4 (ofSigned 32 p.ownMax) ++
    leBytes 4 (p.crownFr / 2) ++ leBytes 4 (p.ceilFr / 2) ++ leBytes 4 (p.stopFr / 2) ++
    leBytes 4 (ofSigned 32 p.audit) ++ leBytes 4 fxVersion ++ (keyId s ++ zeros 4).take 4 ++ zeros 60

/-- A report with its signature, r and s least significant byte first, or with zeros where BOOT_SRC is 01 (R306).
DEDUCED (log 56). -/
def signReport (s : State) (body : List Byte) : List Byte :=
  body ++ (if getF s Reg.RS_STRAPS.BOOT_SRC = 1 then zeros 96
    else
      let g := ecdsaSign (reportPrivate s) body
      leBytes 48 g.1 ++ leBytes 48 g.2)

/-- The report ring has room (R307). -/
def rptRoom (s : State) (r : MfReports) : Bool := ringRoom s.bg.rptProd (getF s Reg.BG_RPT_CONS.INDEX) r.slots

/-- Writes the oldest report held where the ring has room, the security core's duties run, and no signature waits for the mirror (R307,
R361, R365). A reset of host access does not reach the report ring (R399). DEDUCED (log 56). -/
def pumpReports (s : State) : State :=
  match s.mf.bind (·.reports), s.bg.held with
  | some r, h :: t =>
    if s.bg.rptOut.isNone && rptRoom s r && hostOpen s && dutyRuns s 0 && s.bg.signWait == 0 then
      hapReq { s with bg.held := t, bg.rptOut := some h } true (r.base + 256 * (s.bg.rptProd % r.slots)) 8 3 false h.2
        (.report s.bg.rptProd)
    else s
  | _, _ => s

/-- Discards the oldest second report held, or the oldest minute report where there is none (R307). DEDUCED (log 56). -/
def dropReport (s : State) : State :=
  match s.bg.held.findIdx? (·.1 == 1) with
  | some i => bgErr (incSat { s with bg.held := s.bg.held.eraseIdx i } Reg.BG_RPT_DROP.SEC) Reg.BG_ERR.RPT_DROP
  | none => bgErr (incSat { s with bg.held := s.bg.held.tail } Reg.BG_RPT_DROP.MIN) Reg.BG_ERR.RPT_DROP

/-- A report has been formed and signed: it is written, or held; a 65th discards one of those held. Without REPORTS none is written
(R338). In a duplex the mirror first holds the signature (R365). DEDUCED (log 56). -/
def putReport (s : State) (kind : Nat) (bytes : List Byte) : State :=
  if (s.mf.bind (·.reports)).isNone then s
  else
    let s := pumpReports s
    let s := if 64 ≤ s.bg.held.length then dropReport s else s
    pumpReports { s with
      bg.held := s.bg.held ++ [(kind, bytes)], bg.signWait := if journalled s then 2 else s.bg.signWait }

/-- The answer to the write of a report: the producer word follows, or it is written again. DEDUCED (log 56). -/
def reportDone (s : State) (i status : Nat) : State :=
  match s.mf.bind (·.reports), s.bg.rptOut with
  | some r, some h =>
    if status = 0 then
      let s := { s with bg.rptProd := (i + 1) % 2 ^ 32, bg.rptOut := none }
      pumpReports (hapReq s true r.prod 1 3 false (leBytes 8 s.bg.rptProd) (.rptIdx i))
    else
      let s := { s with bg.rptOut := none, bg.held := h :: s.bg.held }
      pumpReports (if 64 < s.bg.held.length then dropReport s else s)
  | _, _ => s

/-- The flags of a report: those gathered, NO_TOD until QUALITY has been 0 (R304), and UNSIGNED. -/
def reportFlags (s : State) (p : Period) : Nat :=
  p.flags ||| (2 * b2n (!s.bg.tod && quality s != 0)) ||| (4 * b2n (getF s Reg.RS_STRAPS.BOOT_SRC == 1))

/-- A fresh period, open from now. -/
def newPeriod (s : State) : Period := { tStart := s.tb.time, ownMin := s.bg.own, ownMax := s.bg.own }

/-- µJ of a period whose energy is n nJ out of a running total: what the total in µJ gained. -/
def gainUj (total n : Nat) : Nat := total / 1000 - (total - n) / 1000

/-- The distance of rack time from the nearest whole second, ns. -/
def offSecond (s : State) : Int :=
  let r := s.tb.time % 1000000000
  if r < 500000000 then (r : Int) else (r : Int) - 1000000000

/-- A second boundary (R304): the period closes, its report is formed, and the next boundary moves toward a whole second. -/
def secondBoundary (s : State) : State :=
  let p := s.bg.sec
  let off := offSecond s
  let realign := quality s == 0 && decide (1000 < off.natAbs)
  let p := if realign then { p with flags := p.flags ||| 32 } else p
  let energy := gainUj s.bg.energyNj p.nj
  let allow := p.allow / 1000
  let s := putReport { s with bg.seqSec := (s.bg.seqSec + 1) % 2 ^ 32 } 1
    (signReport s (reportBody s 1 s.bg.seqSec p energy allow (p.unattr / 1000) (reportFlags s p)))
  let m := s.bg.min_
  let move := if realign then clampInt (-25000) 25000 (off.tdiv 4) else 0
  { s with
    bg.sec := newPeriod s, bg.secs := s.bg.secs + 1
    bg.secAt := ((s.bg.secAt : Int) + 250000000 - move).toNat
    bg.minuteAt := if s.bg.secAt < s.bg.minuteAt then ((s.bg.minuteAt : Int) - move).toNat else s.bg.minuteAt
    bg.min_ := { m with nj := m.nj + energy, allow := m.allow + allow, unattr := m.unattr + p.unattr, audit := m.audit + p.audit,
                        flags := m.flags ||| p.flags } }

/-- SECOND_BOUNDARY (R304). -/
def execSecondBoundary (s : State) : Host.Outcome State Fault Refusal :=
  finish (if released s 6 && s.mf.isSome then secondBoundary (advanceTo s s.bg.secAt) else s)

/-- A rack-minute boundary (R273, R304, R305). DEDUCED (log 54). -/
def minuteBoundary (s : State) : State :=
  let p := s.bg.min_
  let s := putReport { s with bg.seqMin := (s.bg.seqMin + 1) % 2 ^ 32 } 2
    (signReport s (reportBody s 2 s.bg.seqMin p p.nj p.allow (p.unattr / 1000) (reportFlags s p)))
  { s with
    bg.min_ := newPeriod s, bg.secs := 0, bg.usedNj := 0, bg.allowNj := 0, bg.minuteFrames := 0, bg.stop := false
    bg.minuteAt := s.bg.secAt + 59 * 250000000 }

/-- MINUTE_BOUNDARY (R273, R304): at every 60th second boundary. -/
def execMinuteBoundary (s : State) : Host.Outcome State Fault Refusal :=
  finishGrants (if released s 6 && s.mf.isSome then minuteBoundary (advanceTo s s.bg.minuteAt) else s)

/-- The periods begin as the manifest comes into force (R304): whole seconds and minutes of rack time with QUALITY 0. -/
def periodsStart (s : State) : State :=
  let sec := if quality s = 0 then (1000000000 - s.tb.time % 1000000000) / 4 else 250000000
  let mins := if quality s = 0 then (60000000000 - s.tb.time % 60000000000) / 4 else 60 * 250000000
  { s with
    bg.sec := newPeriod s, bg.min_ := newPeriod s, bg.secAt := s.now + sec, bg.minuteAt := s.now + mins
    bg.secs := (60 * 250000000 - mins) / 250000000, bg.wbAt := s.now, bg.exAt := s.now, bg.auditAt := s.now
    bg.tod := quality s == 0 }

/-- What follows a write of BG_RPT_CONS (R307). -/
def rptConsWritten (s : State) : State := pumpReports s

end Sys2Proof.Machine
end

