-- ==== Sys2Proof/Machine/Credits.lean ====
section
/-! DEFINITION. Droop detectors, current credits and engine starts (R172 to R198). -/

namespace Sys2Proof.Machine

/-! ## Detectors (R172 to R180) -/

/-- A detector is in service at a cluster with power, past the hold after CL_PWR_OK rose (R177). -/
def detServes (s : State) (t d : Nat) : Bool :=
  let x := tile s t
  let v := det x d
  x.pwrOk && !x.hold10 && bitAt (mfTile s t).dets d && !v.failed && !v.absent

/-- A detector is enabled: it is in service, and not in its self-test pulse (R177). -/
def detOn (s : State) (t d : Nat) : Bool := detServes s t d && !(det (tile s t) d).pulse

/-- The reference of a detector at a margin, as it was formed at the last tick: in whole mV, rounded down, over 0 mV to 1,400 mV; in
the self-test pulse, 1,400 mV (R172, R179). The grid's drop is in 0.125 µV: µΩ times eighths of an ampere. DEDUCED (log 46). -/
def detRef (s : State) (t d margin : Nat) : Nat :=
  let x := tile s t
  let v := det x d
  if v.pulse then 1400
  else
    let e : Int := 8000 * ((x.vref : Int) - margin - (if v.chan = 0 then v.ofsA else v.ofsB)) - (mfTile s t).rgrid * x.refHeld
    (clampInt 0 1400 (e.fdiv 8000)).toNat

/-- V_stretch and V_fire of a detector, mV (R172). -/
def stretchRef (s : State) (t d : Nat) : Nat := detRef s t d (tile s t).refSt
def fireRef (s : State) (t d : Nat) : Nat := detRef s t d (tile s t).refFi

/-- A tick updates the references of a tile agent from what it holds, and from the target and margins it last received (R172). An
orphan keeps the last target and margins (R195). DEDUCED (log 46). -/
def formRefs (s : State) (x : Tile) : Tile :=
  if x.orphan then { x with refHeld := x.held }
  else { x with refHeld := x.held, refSt := getF s Reg.DT_CFG.STRETCH_MV, refFi := getF s Reg.DT_CFG.FIRE_MV }

/-- The one enabled detector of a tile agent that is tripped, when it is tripped at the stretch level (R179); the pulse of
a self-test does not interrupt its time. DEDUCED (log 46). -/
def soleTrip (s : State) (t : Nat) : Option Nat :=
  match (List.range 16).filter (fun d => detServes s t d && ((det (tile s t) d).st || (det (tile s t) d).fi)) with
  | [d] => if (det (tile s t) d).st then some d else none
  | _ => none

/-- CL_STRETCH and UVF_O of a tile agent from its enabled detectors (R174, R175, R177). CL_STRETCH falls here only when every
detector is disabled: otherwise the hold of R174 keeps it. DEDUCED (log 46). -/
def detOutputs (s : State) (t : Nat) : State :=
  let x := tile s t
  let on := (List.range 16).filter (detOn s t)
  let st := on.any (fun d => (det x d).st || (det x d).fi)
  let uv := decide (getF s Reg.DT_CFG.UVF_VOTE < (on.filter (fun d => (det x d).fi)).length)
  setTile s t { x with
    stretch := st || (x.stretch && !on.isEmpty)
    clearAt := if !st && x.stretch && !on.isEmpty then some (x.clearAt.getD s.now) else none
    stretches := if st && !x.stretch then satAdd 0xFFFF x.stretches 1 else x.stretches
    sole := (soleTrip s t).map (fun d => (d, match x.sole with
      | some (e, a) => if e = d then a else s.now
      | none => s.now))
    uvf := uv
    uvfs := if uv && !x.uvf then satAdd 0xFFFF x.uvfs 1 else x.uvfs }

/-- The levels of detector d of tile agent t become st and fi, and the outputs follow. -/
def detLevels (s : State) (t d : Nat) (st fi : Bool) : State :=
  detOutputs (setTile s t (setDet (tile s t) d { det (tile s t) d with st := st, fi := fi })) t

/-- A detector trips at each level whose reference its tap voltage, in µV, lies below (R173). The voltage is the one that the channel
sees: its error of up to 3 mV is part of it. DEDUCED (log 46). -/
def detTrip (s : State) (n uv : Nat) : State :=
  let t := n / 16
  let d := n % 16
  let y := det (tile s t) d
  if tileRuns s t then
    detLevels s t d (y.st || decide (uv < 1000 * stretchRef s t d)) (y.fi || decide (uv < 1000 * fireRef s t d))
  else s

/-- A tripped detector clears at each level whose reference plus DT_CFG.HYST_MV its tap voltage, in µV, has risen above (R173).
DEDUCED (log 46). -/
def detClear (s : State) (n uv : Nat) : State :=
  let t := n / 16
  let d := n % 16
  let y := det (tile s t) d
  let h := getF s Reg.DT_CFG.HYST_MV
  if tileRuns s t then
    let s := detLevels s t d (y.st && decide (uv ≤ 1000 * (stretchRef s t d + h))) (y.fi && decide (uv ≤ 1000 * (fireRef s t d + h)))
    grantRun s t
  else s

def execDetectorTrip (det : Nat) (uv : Nat) (s : State) : Host.Outcome State Fault Refusal := finish (detTrip s det uv)
def execDetectorClear (det : Nat) (uv : Nat) (s : State) : Host.Outcome State Fault Refusal := finish (detClear s det uv)

/-- A write of DT_CFG: UVF_O of every tile agent follows the new vote (R175). -/
def dtCfgWritten (s : State) : State := (s.cc.tiles.filter (fun p => tileRuns s p.1)).foldl (fun s p => detOutputs s p.1) s

/-- STRETCH_HOLD hub cycles after the last detector clears, CL_STRETCH falls (R174); 24 reference cycles are 115.2 hub cycles. -/
def stretchEnd (s : State) (t : Nat) : State :=
  match (tile s t).clearAt with
  | some a =>
    let s := advanceTo s (a + ceilDiv (5 * getF s Reg.DT_CFG.STRETCH_HOLD) 24)
    grantRun (modTile s t (fun x => { x with stretch := false, clearAt := none })) t
  | none => s

def execStretchHoldExpiry (tile : Nat) (s : State) : Host.Outcome State Fault Refusal := finish (stretchEnd s tile)

/-- A channel of a detector has failed (R180, R409, R413). DEDUCED (log 46). -/
def failChannel (s : State) (t d ch : Nat) : State :=
  let v := det (tile s t) d
  let u := detUnit (16 * t + d)
  let put := fun (s : State) (v : Det) => detOutputs (modTile s t (fun x => setDet x d v)) t
  let s := ccEvent s Reg.CC_ERR.DET_FAIL 5 u (zeros 4 ++ leBytes 1 ch)
  let v := { v with failedCh := orBit v.failedCh ch }
  if ch ≠ v.chan then put s { v with spareOk := false }
  else if v.spareOk then
    spareEvent (put s { v with chan := 1 - v.chan, spareOk := false, st := false, fi := false, fails := 0 }) 3 u 0x02
  else spareEvent (put s { v with failed := true, absent := true, st := false, fi := false }) 4 u 0x02

/-- A detector enters or leaves its self-test pulse (R177, R179). -/
def setPulse (s : State) (t d : Nat) (b : Bool) : State :=
  detOutputs (modTile s t (fun x => setDet x d { det x d with pulse := b })) t

/-- The test of one detector (R179): its references stand at 1,400 mV for 20 ns, and both levels must trip. -/
def testDet (t : Nat) (fails : List Nat) (s : State) (d : Nat) : State :=
  if detOn s t d then
    let s := setPulse s t d true
    let s := setPulse (advanceTo s (s.now + 5)) t d false
    let v := det (tile s t) d
    if fails.contains d then
      if v.fails = 1 then failChannel s t d v.chan else modTile s t (fun x => setDet x d { v with fails := 1 })
    else modTile s t (fun x => setDet x d { v with fails := 0 })
  else s

/-- The time between self-tests of a tile agent, in µs: eight times PERIOD_US where the reserve complex carries them, which R360 puts
at one eighth. DEDUCED (log 46). -/
def testPeriod (s : State) (t : Nat) : Nat := getF s Reg.DT_TEST.PERIOD_US * (if (tcore s t).st = 6 then 8 else 1)

/-- PERIOD_US after the last self-test of a tile agent, each of its enabled detectors in turn is tested (R179). DEDUCED (log 46). -/
def selfTest (s : State) (t : Nat) (fails : List Nat) : State :=
  if tileDutyRuns s t && getF s Reg.DT_TEST.PERIOD_US != 0 then
    let s := advanceTo s ((tile s t).testAt + us (testPeriod s t))
    grantRun ((List.range 16).foldl (testDet t fails) (modTile s t (fun x => { x with testAt := s.now }))) t
  else s

def execDetectorSelfTest (tile : Nat) (fails : List Nat) (s : State) : Host.Outcome State Fault Refusal := finish (selfTest s tile fails)

/-- A detector has stayed tripped at the stretch level for STUCK_US while no other enabled one tripped (R179).
DEDUCED (log 46). -/
def detStuck (s : State) (d : Nat) : State :=
  let t := d / 16
  match (tile s t).sole with
  | some (k, a) =>
    if k = d % 16 ∧ tileRuns s t then
      let s := advanceTo s (a + us (getF s Reg.DT_TEST.STUCK_US))
      grantRun (failChannel s t k (det (tile s t) k).chan) t
    else s
  | none => s

def execDetectorStuck (det : Nat) (s : State) : Host.Outcome State Fault Refusal := finish (detStuck s det)

/-- One step of the search: where the channel trips at the middle of the range, its trip point lies no higher (R410). -/
def searchStep (trips : Bool) (r : Nat × Nat) : Nat × Nat :=
  let m := (r.1 + r.2) / 2
  if trips then (r.1, m) else (m + 1, r.2)

/-- The trip point, in mV, that the 11-step search over 0 mV to 1,400 mV finds: none for a channel that trips at no step or at every
one (R410). -/
def tripPoint (steps : Nat) : Option Nat :=
  if steps = 0 ∨ steps = 2047 then none
  else some ((List.range 11).foldl (fun r k => searchStep (bitAt steps k) r) (0, 1400)).1

/-- The stretch reference of R172 with I_t = 0 and no offset: OFS_d is the trip point less it (R410). -/
def sizeRef (s : State) (t : Nat) : Int := clampInt 0 1400 (((tile s t).vref : Int) - getF s Reg.DT_CFG.STRETCH_MV)

/-- OFS_d of a channel, from the steps of its search. -/
def sizeOfs (s : State) (t steps : Nat) : Option Int := (tripPoint steps).map (fun p => (p : Int) - sizeRef s t)

/-- An offset of R410 lies in range. -/
def ofsOk : Option Int → Bool
  | some v => decide (-31 ≤ v) && decide (v ≤ 31)
  | none => false

/-- Sizing of one detector's two channels (R410). DEDUCED (log 46). -/
def sizeDet (t : Nat) (trips : List DetTrip) (s : State) (d : Nat) : State :=
  let v := det (tile s t) d
  if v.absent || v.failed || !bitAt (mfTile s t).dets d then s
  else
    let p := trips.find? (·.det == d)
    let a := match p with
      | some q => sizeOfs s t q.a
      | none => some 0
    let b := match p with
      | some q => sizeOfs s t q.b
      | none => some 0
    let s := modTile s t (fun x => setDet x d { v with ofsA := a.getD 0, ofsB := b.getD 0 })
    let s := if !ofsOk a && (v.chan = 0 || v.spareOk) then failChannel s t d 0 else s
    let w := det (tile s t) d
    if !ofsOk b && !w.absent && (w.chan = 1 || w.spareOk) then failChannel s t d 1 else s

/-! ## Engine starts (R182 to R187) -/

/-- ENG_START of an engine that the manifest describes is high with its op code (R36, R183). -/
def raiseStart (s : State) (t : Nat) (x : Tile) (p : Nat × Nat) : Tile :=
  if bitAt (mfTile s t).engines p.1 then setEng x p.1 { eng x p.1 with start := some p.2 } else x

def engineStart (s : State) (t : Nat) (starts : List (Nat × Nat)) : State :=
  if tileRuns s t then grantRun (setTile s t (starts.foldl (raiseStart s t) (tile s t))) t else s

def execEngineStartRequest (tile : Nat) (starts : List (Nat × Nat)) (s : State) : Host.Outcome State Fault Refusal :=
  finish (engineStart s tile starts)

/-- ENG_END of one engine (R184, R185). -/
def endEngine (t : Nat) (s : State) (e : Nat) : State :=
  let x := tile s t
  if (eng x e).running then setTile s t (returnCost x e)
  else setF (setTile s t { x with spurious := satAdd 255 x.spurious 1 }) Reg.CC_ERR.SPURIOUS_END 1

def engineEnd (s : State) (t : Nat) (ends : List Nat) : State :=
  if tileRuns s t then grantRun (ends.foldl (endEngine t) s) t else s

def execEngineEnd (tile : Nat) (ends : List Nat) (s : State) : Host.Outcome State Fault Refusal := finish (engineEnd s tile ends)

/-- A grant has been held longer than OP_MAX_US (R187). -/
def opMax (s : State) (t e : Nat) : State :=
  let g := eng (tile s t) e
  let lim := getF s Reg.CC_OPMAX.OP_MAX_US
  if g.running && !g.opMax && lim != 0 then
    let s := advanceTo s (g.grantedAt + us lim)
    let s := modTile s t (fun x => setEng x e { eng x e with opMax := true })
    ccEvent s Reg.CC_ERR.OP_MAX 2 (engUnit (64 * t + e)) []
  else s

def execOpMaxExpiry (tile : Nat) (engine : Nat) (s : State) : Host.Outcome State Fault Refusal := finish (opMax s tile engine)

/-! ## Dispensing (R188 to R192) -/

/-- A tile agent whose demand the hub counts: powered, neither lost nor in a reset (R188, R194, R398). -/
def ccCounted (s : State) (t : Nat) : Bool := (tile s t).pwrOk && !(tile s t).lost && (tget none s.rs.tileRst t).isNone

/-- Tile agents that the hub counts, ascending. -/
def ccTiles (s : State) : List Nat := (mfTiles s).filter (ccCounted s)

/-- Sum of a number over tile agents. -/
def sumTiles (l : List Nat) (f : Nat → Nat) : Nat := l.foldl (fun n t => n + f t) 0

/-- T0, the target of profile generator 0, in 2^-18 A (R188). -/
def pg0Target (s : State) : Nat :=
  let ts := ccTiles s
  let d := 32768 * sumTiles ts (fun t => (tile s t).hH + (tile s t).hW) + 262144 * getF s Reg.CC_CFG.HEADROOM_A
  let d := max d (262144 * pbPreopen s)
  let d := min d (min (262144 * getF s Reg.CC_CAP.CAP_A) (min (32768 * s.cc.total) (262144 * s.bg.cap / 640)))
  if s.pc.brake then min d (524288 * getPc s Reg.PC_BRAKE1.CUR_A) else d

/-- Credits that the hub can allocate at the allowance x (R189). -/
def allocOf (s : State) : Nat := min ((pg s 0).x.toNat / 32768) s.cc.total

/-- The need of a tile agent (R189). -/
def needOf (s : State) (t : Nat) : Nat :=
  let x := tile s t
  x.hW + getF s Reg.CC_CFG.TILE_KEEP - x.hP - (x.hSent + 2 ^ 32 - x.hRcv) % 2 ^ 32

/-- What the tick sends a tile agent, a release or a recall mark, and the running total; every tick sends it, so that what a lost
message carried is in the next one (R189, R192). -/
def sendTile (s : State) (t amt mark : Nat) : State :=
  modTile s t (fun x =>
    let tot := (x.hSent + amt) % 2 ^ 32
    { x with hSent := tot, hMark := mark, down := x.down ++ [⟨amt, tot, mark⟩] })

/-- The tick's message to every tile agent of the manifest, with what the tick releases to each and the marks in force.
DEDUCED (log 47). -/
def sendTick (s : State) (give : Nat → Nat) : State :=
  (mfTiles s).foldl (fun s t => sendTile s t (give t) (tile s t).hMark) s

/-- Hands n single credits to the tile agents of a list that still want one, in ascending order from after `last` (R189).
DEDUCED (log 47). -/
def oddTiles (wants : List Nat) (last n : Nat) : List Nat :=
  ((wants.filter (fun t => decide (last < t))) ++ wants.filter (fun t => decide (t ≤ last))).take n

/-- Releases credits against the needs, within `room`, and closes every open recall: each mark becomes the returns received (R189).
DEDUCED (log 47). -/
def release (s : State) (room : Nat) : State :=
  let s := (mfTiles s).foldl (fun s t => modTile s t (fun x => { x with hMark := x.hRet })) s
  let ts := ccTiles s
  let needs := ts.map (fun t => (t, needOf s t))
  let n := needs.foldl (fun a p => a + p.2) 0
  let rel := min room (min s.cc.reserve n)
  let give := needs.map (fun p => (p.1, p.2, if n = 0 then 0 else rel * p.2 / n))
  let left := rel - give.foldl (fun a p => a + p.2.2) 0
  let odd := oddTiles ((give.filter (fun p => decide (p.2.2 < p.2.1))).map (·.1)) s.cc.lastOdd left
  let s := sendTick s (fun t => match give.find? (·.1 == t) with
    | some p => p.2.2 + (if odd.contains t then 1 else 0)
    | none => 0)
  { s with cc.reserve := s.cc.reserve - rel, cc.lastOdd := odd.getLast?.getD s.cc.lastOdd }

/-- Splits a recall over the counted tile agents in proportion to their pools (R189). DEDUCED (log 47). -/
def recallShares (s : State) (amt : Nat) : State :=
  let ts := ccTiles s
  let sum := sumTiles ts (fun t => (tile s t).hP)
  let shares := ts.map (fun t => (t, if sum = 0 then 0 else amt * (tile s t).hP / sum))
  let left := amt - shares.foldl (fun a p => a + p.2) 0
  let n := ts.length
  let s := (shares.zipIdx).foldl (fun s p =>
    let extra := left / n + (if p.2 < left % n then 1 else 0)
    modTile s p.1.1 (fun x => { x with hMark := (x.hRet + p.1.2 + extra) % 2 ^ 32 })) s
  sendTick s (fun _ => 0)

/-- The tick's release or recall, after profile generator 0 has stepped (R189). While the census of a takeover is out, there is
none (R196); a tile agent that is judged lost or is reset with its answer outstanding holds it open until it answers.
DESIGN CHOICE (log 75). -/
def dispense (s : State) : State :=
  let alloc := allocOf s
  let circ := s.cc.total - s.cc.reserve
  if !s.cc.census.isEmpty then s
  else if circ < alloc then release s (alloc - circ)
  else if alloc < circ then recallShares s (circ - alloc)
  else sendTick s (fun _ => 0)

/-- The feed-forward current of every rail (R191). -/
def feedForward (s : State) : State :=
  let on := (mfTiles s).filter (fun t => (tile s t).pwrOk)
  let n := on.length
  (mfRails s).foldl (fun s r =>
    let mine := on.filter (fun t => (mfTile s t).rail == r)
    let h := sumTiles (railTiles s r) (fun t => (tile s t).hH)
    let num := ((pg s 0).x.toNat * mine.length - 32768 * h * n) * getF s Reg.CC_CFG.FF_GAIN
    modRail s r (fun x => { x with iffNum := if n = 0 then 0 else num, iffDen := if n = 0 then 1 else 8 * n })) s

/-- A rail's target as the tile agents are sent it, in mV: without the boost of the Phase Book (R172, R211). -/
def sentTarget (s : State) (r : Nat) : Nat :=
  let x := rail s r
  (if x.st == .up && !x.fastOff then x.tgt0 else x.tgt) / 2000

/-- The tick's message reaches the tile agents that hear the hub: the rail targets, of which the lower of the last two is V_ref,
the Brim level, and what their local actions use (R172, R195, R247); and every tile agent forms its references anew.
DEDUCED (log 47). -/
def tickMessages (s : State) : State :=
  (mfTiles s).foldl (fun s t =>
    if !tileRuns s t then s
    else if (tile s t).orphan then modTile s t (formRefs s)
    else
      let v := sentTarget s (mfTile s t).rail
      modTile s t (fun x => formRefs s { x with
        tgtB := x.tgtA, tgtA := v, vref := min v x.tgtA, brimRx := brimVal s (actFreq t), msgAt := s.now })) s

/-- The counts of R198 go to the hub, which forms its totals of them at every tick: from a tile agent whose control core runs at each
tick, for a RETIRED one once in a millisecond, and from a stopped one whole, after its restart (R350, R360). DEDUCED (log 31). -/
def lwTransfer (s : State) : State :=
  { s with cc.tiles := s.cc.tiles.map (fun p =>
    let c := (tcore s p.1).st
    if tileDutyRuns s p.1 && !p.2.orphan && !p.2.lost && (c == 1 || decide (p.2.lwAt + ms 1 ≤ s.now)) then
      (p.1, { p.2 with lwHub := lwCounts p.2, lwAt := s.now })
    else p) }

/-- A running total ahead of the receiver's count by more than the message's amount: a message was lost (R192). -/
def msgGap (s : State) (d amt : Nat) : State := if amt < d then setF s Reg.CC_ERR.MSG_GAP 1 else s

/-- A message to tile agent t has arrived, or is lost: when it was the last ahead of the marker, the marker passes the tile agent
(R193, R448). -/
def markerPass (s : State) (t : Nat) : State := match s.cc.audit with
  | none => s
  | some a => match tget 0 a.ahead t with
    | 0 => s
    | 1 => { s with cc.audit := some { a with
        ahead := tdel a.ahead t
        entries := a.entries.map (fun (p : Nat × AuditEntry) =>
          if p.1 = t then (t, { p.2 with sum := (tile s t).pool + (tile s t).held, ret := (tile s t).retTot }) else p) } }
    | n => { s with cc.audit := some { a with ahead := tput a.ahead t (n - 1) } }

/-- A release or recall reaches its tile agent (R189, R192), or is lost to an uncorrectable error. -/
def creditRelease (s : State) (t : Nat) (lost : Bool) : State :=
  let x := tile s t
  match x.down with
  | [] => s
  | m :: l =>
    let s := setTile s t { x with down := l }
    if lost || !tileRuns s t then markerPass s t
    else
      let d := (m.tot + 2 ^ 32 - x.rcvTot) % 2 ^ 32
      let s := modTile s t (fun x => serveRecall { x with pool := x.pool + d, rcvTot := m.tot, mark := m.mark, msgAt := s.now })
      grantRun (markerPass (seeOrphan (msgGap s d m.amt) t) t) t

def execCreditRelease (tile : Nat) (lost : Bool) (s : State) : Host.Outcome State Fault Refusal := finish (creditRelease s tile lost)

/-- Detectors tripped at the stretch level, as the report carries them. -/
def tripBits (x : Tile) : Nat := ofBits ((List.range 16).filter (fun d => (det x d).st))

/-- A tile agent's report of the tick is taken (R188), or is lost. -/
def tileReport (s : State) (t : Nat) (lost : Bool) : State :=
  if tileRuns s t && !lost then
    let w := waitCost s t
    modTile s t (fun x => { x with hP := x.pool, hH := x.held, hW := w, hRcv := x.rcvTot, hTrip := tripBits x, reportAt := s.now })
  else s

def execTileReport (tile : Nat) (lost : Bool) (s : State) : Host.Outcome State Fault Refusal := finish (tileReport s tile lost)

/-- A return reaches the hub (R192): the reserve gains it, and it leaves the stranded count of a lost tile agent (R194). -/
def creditReturn (s : State) (t : Nat) (lost : Bool) : State :=
  let x := tile s t
  match x.up with
  | [] => s
  | m :: l =>
    let s := setTile s t { x with up := l }
    if lost then s
    else
      let d := (m.tot + 2 ^ 32 - x.hRet) % 2 ^ 32
      let s := modTile s t (fun x => { x with hRet := m.tot, stranded := x.stranded - d })
      msgGap { s with cc.reserve := s.cc.reserve + d } d m.amt

def execCreditReturn (tile : Nat) (lost : Bool) (s : State) : Host.Outcome State Fault Refusal := finish (creditReturn s tile lost)

/-! ## Keeping the count exact (R193 to R196) -/

/-- Credits sent to a tile agent less those it has returned. -/
def outAt (x : Tile) : Nat := (x.hSent + 2 ^ 32 - x.hRet) % 2 ^ 32

/-- What the marker takes up of a tile agent: P_t + H_t with what the messages before it bring, by their totals (R192, R193). -/
def auditEntry (x : Tile) : AuditEntry :=
  let brings := match x.down.getLast? with
    | some m => (m.tot + 2 ^ 32 - x.rcvTot) % 2 ^ 32
    | none => 0
  ⟨x.pool + x.held + brings, x.retTot, x.hSent⟩

/-- The marker's entries as it leaves: it has passed each tile agent with no message ahead of it, and the others stand as they will be
if their messages arrive (R193, R448). DEDUCED (log 47). -/
def auditEntries (s : State) : List (Nat × AuditEntry) := (s.cc.tiles.filter (fun p => !p.2.lost)).map (fun p => (p.1, auditEntry p.2))

/-- The messages that the marker has ahead of it (R448). -/
def auditAhead (s : State) : List (Nat × Nat) :=
  (s.cc.tiles.filter (fun p => !p.2.lost && !p.2.down.isEmpty)).map (fun p => (p.1, p.2.down.length))

/-- An audit starts (R193); after an uncorrectable error in the reserve count the reserve is taken as 0. DEDUCED (log 47). -/
def auditStart (s : State) (bad : Bool) : State :=
  if released s 6 then { s with cc.audit := some ⟨auditEntries s, auditAhead s, bad⟩ } else s

/-- The audit of a period, CC_AUDIT.PERIOD_US after the last one; an error in the reserve count starts one at once (R193).
DEDUCED (log 47). -/
def auditPeriod (s : State) (bad : Bool) : State :=
  if bad then auditStart s true
  else if released s 6 then
    let s := advanceTo s (s.cc.auditAt + us (getF s Reg.CC_AUDIT.PERIOD_US))
    auditStart { s with cc.auditAt := s.now } false
  else s

def execCreditAuditStart (reserveBad : Bool) (s : State) : Host.Outcome State Fault Refusal := finish (auditPeriod s reserveBad)

/-- Σ (P_t + H_t) + sent_after - returned_after + stranded, over what the marker brought back (R193). -/
def auditSum (s : State) (a : CcAudit) : Int :=
  let live := (a.entries.filter (fun p => !(tile s p.1).lost)).foldl (fun (n : Int) p =>
    let x := tile s p.1
    n + p.2.sum + totDiff x.hSent p.2.sent - totDiff x.hRet p.2.ret) 0
  s.cc.tiles.foldl (fun n p => n + p.2.stranded) live

/-- The marker returns: Δ is added to the reserve (R193). DEDUCED (log 47). -/
def auditReturn (s : State) : State :=
  match s.cc.audit with
  | none => s
  | some a =>
    let base : Int := if a.reserveBad then 0 else s.cc.reserve
    let d := s.cc.total - (base + auditSum s a)
    let s := { s with cc.audit := none, cc.reserve := (base + d).toNat }
    if d = 0 then s
    else
      let s := setF s Reg.CC_AUDIT_DELTA.DELTA (ofSigned 32 (toSigned 32 (getF s Reg.CC_AUDIT_DELTA.DELTA) + d))
      ccEvent s Reg.CC_ERR.AUDIT 0 (hubUnit s) (leBytes 4 (ofSigned 32 d))

def execCreditAuditReturn (s : State) : Host.Outcome State Fault Refusal := finish (auditReturn s)

/-- The credits last known at a tile agent are marked as stranded (R194, R398). -/
def strandTile (s : State) (t : Nat) : State := modTile s t (fun x => { x with lost := true, stranded := outAt x })

/-- No report for 2 µs (R194). -/
def tileLost (s : State) (t : Nat) : State :=
  if released s 7 && (mfTile s t).present && (tget none s.rs.tileRst t).isNone && !(tile s t).lost then
    let s := advanceTo s ((tile s t).reportAt + us 2)
    ccEvent (strandTile s t) Reg.CC_ERR.TILE_LOST 4 (tileUnit t) []
  else s

def execTileLost (tile : Nat) (s : State) : Host.Outcome State Fault Refusal := finish (tileLost s tile)

/-- No message from the active hub for 2 µs: the tile agent is orphaned and applies the Brim level (R195). DEDUCED (log 47). -/
def tileOrphan (s : State) (t : Nat) : State :=
  let x := tile s t
  if tileRuns s t && !x.orphan then
    let s := advanceTo s (x.msgAt + us 2)
    let x := { tile s t with orphan := true, orphanSeen := false }
    grantRun (setTile s t (applyLevel s x x.level)) t
  else s

def execTileOrphan (tile : Nat) (s : State) : Host.Outcome State Fault Refusal := finish (tileOrphan s tile)

/-- What a tile agent holds is known, and its messages in both directions are gone: the totals start again from its own (R192, R196).
DEDUCED (log 47). -/
def meetTile (s : State) (x : Tile) : Tile :=
  { activePort s x with
    down := [], up := [], mark := x.retTot, hSent := x.rcvTot, hRcv := x.rcvTot, hRet := x.retTot, hMark := x.retTot }

/-- Every answer is in: the reserve is what the tile agents do not hold (R196). -/
def censusEnd (s : State) : State :=
  let out := s.cc.tiles.foldl (fun n p => n + p.2.stranded) s.cc.censusSum
  { s with cc.reserve := s.cc.total - out, cc.censusSum := 0 }

/-- The census begins (R196): every tile agent that is neither lost nor in a reset is to answer. One in a reset whose credits are not
yet stranded is counted with what it holds; one that is stranded stays so, by the journal. A tile agent that does not answer takes the
new hub's port all the same (R20). DEDUCED (log 47). -/
def censusStart (s : State) : State :=
  let inRst := fun t => (tget none s.rs.tileRst t).isSome
  let ts := (mfTiles s).filter (fun t => !(tile s t).lost && !inRst t)
  let early := (mfTiles s).filter (fun t => !(tile s t).lost && inRst t)
  let sum := early.foldl (fun n t => n + (tile s t).pool + (tile s t).held) 0
  let s := early.foldl (fun s t => modTile s t (meetTile s)) s
  let s := { s with cc.tiles := s.cc.tiles.map (fun (p : Nat × Tile) => if ts.contains p.1 then p else (p.1, activePort s p.2)) }
  let s := { s with cc.census := ts, cc.censusSum := sum, cc.audit := none }
  if ts.isEmpty then censusEnd s else s

/-- A tile agent takes the census request: its active port switches, the credit messages of its other port are discarded, and it
answers with what it holds, which is stranded where it has been judged lost meanwhile (R194, R196). DEDUCED (log 47). -/
def census (s : State) (t : Nat) : State :=
  if s.cc.census.contains t && tileRuns s t then
    let s := seeOrphan s t
    let s := modTile s t (fun x => { meetTile s x with
      orphan := false, orphanSeen := false, msgAt := s.now, reportAt := s.now
      localCeil := if x.liftDue then 16 else x.localCeil, liftDue := false })
    let n := (tile s t).pool + (tile s t).held
    let s := { s with cc.census := s.cc.census.filter (· != t) }
    let s := if (tile s t).lost then modTile s t (fun x => { x with stranded := n }) else { s with cc.censusSum := s.cc.censusSum + n }
    if s.cc.census.isEmpty then censusEnd s else s
  else s

def execCensusRequest (tile : Nat) (s : State) : Host.Outcome State Fault Refusal := finish (census s tile)

/-- Credits are issued when the manifest comes into force (R181). -/
def issueCredits (s : State) : State :=
  let a := (tileRails s).foldl (fun n r => n + ((mfRail s r).map (·.design)).getD 0) 0
  let n := min 65536 (8 * a)
  { s with cc.total := n, cc.reserve := n, cc.auditAt := s.now }

end Sys2Proof.Machine
end

