-- ==== Sys2Proof/Machine/WatchOps.lean ====
section
/-! DEFINITION. Watches: their windows, their triggers, and what arms and clears them (R425 to R428). -/

namespace Sys2Proof.Machine

def watch (s : State) (w : Nat) : Watch := tget {} s.obs.watches w
def setWatch (s : State) (w : Nat) (x : Watch) : State := { s with obs.watches := tset {} s.obs.watches w x }

/-- Opens a window (R427). -/
def openWindow (x : Watch) : Watch :=
  { x with st := 2, n := 0, sum := 0, sq := 0, mn := 32767, mx := -32768, crc := 0xFFFFFFFF }

/-- Closes the window (R427): its results become the visible ones, and the next window opens or the watch stops. -/
def closeWindow (x : Watch) : Watch :=
  let y := { x with
    vn := x.n, vsum := x.sum, vsq := x.sq, vmn := x.mn, vmx := x.mx, vcrc := x.crc ^^^ 0xFFFFFFFF
    windows := satAdd 0xFFFFFF x.windows 1 }
  if bitAt x.action 2 then openWindow y else { y with st := 3 }

/-- A watch at the start of a step (R427): a waiting one begins to sample, a step-bound window closes. DEDUCED (log 40). -/
def stepWatch (x : Watch) : Watch :=
  if x.st = 1 then openWindow x else if x.st = 2 ∧ x.window = 0 then closeWindow x else x

/-- Adds one sample to a window (R427). -/
def addSample (x : Watch) (v : Int) : Watch :=
  let b := ofSigned 16 v
  { x with
    n := x.n + 1, sum := x.sum + v, sq := x.sq + v.natAbs * v.natAbs, mn := min x.mn v, mx := max x.mx v
    crc := crc32Byte (crc32Byte x.crc (BitVec.ofNat 8 (b % 256))) (BitVec.ofNat 8 (b / 256)) }

/-- Takes a sample: the window, and the trigger after PERSIST + 1 consecutive samples outside the band (R427, R428). Answers the
watch and whether this is its first trigger. DEDUCED (log 40). -/
def sampleWatch (x : Watch) (v : Int) (time : Nat) : Watch × Bool :=
  let x := addSample { x with skip := 0 } v
  let run := if v < x.lo ∨ x.hi < v then x.outRun + 1 else 0
  let fires := run == x.persist + 1
  let first := fires && x.trigs == 0
  let x := { x with
    outRun := if fires then 0 else run
    trigs := if fires then satAdd 63 x.trigs 1 else x.trigs
    trigVal := if first then v else x.trigVal
    trigTs := if first then time else x.trigTs }
  let x := if first && bitAt x.action 1 then { closeWindow x with st := 3 }
    else if x.window != 0 && x.n == x.window then closeWindow x else x
  (x, first)

/-- What becomes of a first trigger (R428): the bit of OBS_W_ANY, and the freeze that it asks for. DEDUCED (log 40). -/
def watchTrigger (s : State) (w : Nat) : State :=
  let s := setF s Reg.OBS_W_ANY.TRIG (orBit (getF s Reg.OBS_W_ANY.TRIG) w)
  if bitAt (watch s w).action 0 then { s with obs.watchFrz := s.obs.watchFrz ++ [w] } else s

/-- One watch at a frame boundary, with the value of its signal. -/
def watchFrame (s : State) (w : Nat) (v : Int) : State :=
  let x := watch s w
  if x.st ≠ 2 then s
  else if x.skip < x.div then setWatch s w { x with skip := x.skip + 1 }
  else
    let (y, first) := sampleWatch x v s.tb.time
    let s := setWatch s w y
    if first then watchTrigger s w else s

/-- Bytes 12 to 63 of WATCH_SET read as a watch. -/
def watchOf (d : List Byte) : Watch :=
  { kind := byteAt d 12, action := byteAt d 13, index := leAt d 14 2, div := leAt d 16 2, persist := byteAt d 18
    lo := toSigned 16 (leAt d 20 2), hi := toSigned 16 (leAt d 22 2), window := leAt d 24 4 }

/-- Arming (R427): the watch samples from now, or waits for a step. DEDUCED (log 40). -/
def armWatch (x : Watch) : Watch :=
  -- The sample at the first frame boundary after arming is the first: no frame is skipped before it.
  let y := { openWindow x with skip := x.div }
  if bitAt x.action 3 then { y with st := 1 } else y

end Sys2Proof.Machine
end

