-- ==== Sys2Proof/Machine/PhaseBook.lean ====
section
/-! DEFINITION. The Phase Book: learning, programs and forecasts (R200 to R224). -/

namespace Sys2Proof.Machine

/-! ## Learning (R201 to R204) -/

/-- Chip demand without its headroom (R200): held and waiting credits. -/
def pbDemand (s : State) : Nat := ccHeld s + ccWaiting s

/-- A profile tick's part (R201, R204): the demand is attributed to the bin of A_x, and what excludes the step is seen. -/
def pbTick (s : State) : State :=
  let s := if !flagOn s Reg.PB_CFG.LEARN || s.sa.state != .tracking || s.pc.brake || gstopHold s then
      { s with pb.excluded := true } else s
  if flagOn s Reg.PB_CFG.LEARN && s.sa.state == .tracking then
    let k := binOf s s.sa.aX
    let m := tget ({} : Meas) s.pb.meas k
    let d := pbDemand s
    { s with pb.meas := tput s.pb.meas k ⟨m.n + 1, m.sum + d, max m.peak d⟩ }
  else s

/-- One bin with a measurement (R202). SETTLED is formed here: whether a write of SETTLE_STEPS changes it at once R200 does not say.
DESIGN CHOICE (log 84). -/
def learnBin (k tol settle : Nat) (b : Bin) (m : Meas) : Bin :=
  let mm := m.sum / m.n
  if !b.seen then
    let b := { b with mean := min mm 0xFFFF, peak := min m.peak 0xFFFF, hits := 0, seen := true }
    { b with settled := decide (settle ≤ b.hits) }
  else
    let near := decide (((m.peak : Int) - b.peak).natAbs ≤ tol)
    let hits := if near then min (b.hits + 1) 255 else 0
    let q : Int := (2 ^ k : Nat)
    let mean := (b.mean : Int) + ((mm : Int) - b.mean).tdiv q
    let peak : Int := if b.peak ≤ m.peak then m.peak else (b.peak : Int) - ((b.peak : Int) - m.peak).tdiv q
    { b with
      hits := hits, mean := min mean.toNat 0xFFFF, peak := min peak.toNat 0xFFFF, settled := decide (settle ≤ hits) }

/-- The measurements of the step just ended are applied (R202). -/
def learnStep (s : State) : State :=
  let k := getF s Reg.PB_CFG.LSHIFT
  let tol := 8 * getF s Reg.PB_LEARN.TOL_A
  let settle := getF s Reg.PB_LEARN.SETTLE_STEPS
  s.pb.meas.foldl (fun s p => setBin s p.1 (learnBin k tol settle (bin s p.1) p.2)) s

/-- A_x passes phase 0 (R202, R204, R427): learning, and the watches bound to steps. -/
def stepBoundary (s : State) : State :=
  if beRuns s && (s.sa.state == .tracking || s.sa.state == .acquiring) then
    let before := s
    let s := if s.pb.excluded || !flagOn s Reg.PB_CFG.LEARN || s.sa.state != .tracking then setF s Reg.PB_ERR.NOT_LEARNED 1
      else learnStep s
    let s := convEvent before { s with pb.meas := [], pb.excluded := false, bg.broken := false }
    { s with obs.watches := s.obs.watches.map (fun p => (p.1, stepWatch p.2)) }
  else s

def execStepBoundary (s : State) : Host.Outcome State Fault Refusal := finish (stepBoundary s)

/-! ## Programs (R214 to R217) -/

def parseBin (bs : List Byte) (o : Nat) : Nat × Nat × Nat × Nat := (leAt bs o 2, leAt bs (o + 2) 2, leAt bs (o + 4) 2, leAt bs (o + 6) 2)

def parseAction (bs : List Byte) (o : Nat) : PbAction :=
  ⟨leAt bs o 2, leAt bs (o + 2) 2, leAt bs (o + 4) 2, byteAt bs (o + 6), byteAt bs (o + 7), leAt bs (o + 8) 2, byteAt bs (o + 10),
    byteAt bs (o + 11)⟩

/-- Offsets of the channels and the actions, and the length, as a program's header gives them. -/
def progChan (bs : List Byte) : Nat := 64 + 8 * 2 ^ byteAt bs 6
def progActs (bs : List Byte) : Nat := progChan bs + 8 * byteAt bs 7
def progLen (bs : List Byte) : Nat := progActs bs + 16 * leAt bs 8 2

def parseProgram (bs : List Byte) : PbProgram :=
  { id := leAt bs 12 4
    bins := (List.range (2 ^ byteAt bs 6)).map (fun k => parseBin bs (64 + 8 * k))
    chans := (List.range (byteAt bs 7)).map (fun k => (leAt bs (progChan bs + 8 * k) 2, leAt bs (progChan bs + 8 * k + 2) 2))
    actions := (List.range (leAt bs 8 2)).map (fun k => parseAction bs (progActs bs + 16 * k)) }

/-- The first index of a list at which p fails, if one does. -/
def firstBad (p : α → Bool) (l : List α) : Option Nat := l.findIdx? (fun x => !p x)

/-- Check 5 of R215: KIND, VALUE, SPAN, RES, and the TARGET 0 of a pre-open. -/
def actionRange (a : PbAction) : Bool :=
  decide (1 ≤ a.span) && decide (a.res ≤ a.mod) && match a.kind with
  | 1 => decide (1 ≤ a.value) && decide (a.value ≤ 8191) && a.target == 0
  | 2 => decide (1 ≤ a.value) && decide (a.value ≤ 192)
  | 3 => decide (1 ≤ a.value) && decide (a.value ≤ 255)
  | 4 => true
  | _ => false

/-- Check 6 of R215. DEDUCED (log 48). -/
def actionTarget (s : State) (mask chans : Nat) (a : PbAction) : Bool := match a.kind with
  | 2 | 3 => decide (a.target < 12) && bitAt mask a.target && (mfRail s a.target).isSome
  | 4 => decide (a.target < chans)
  | _ => true

/-- The first channel that names a loop above 1,023 or one named before (check 7 of R215). -/
def badChan (l : List (Nat × Nat)) : Option Nat :=
  (List.range l.length).find? (fun i =>
    let x := (l.getD i (0, 0)).1
    decide (1023 < x) || (l.take i).any (·.1 == x))

/-- The first failing check of R215, with its index. DEDUCED (log 48). -/
def programCheck (s : State) (bs : List Byte) : Option (Nat × Nat) :=
  let p := parseProgram bs
  if leAt bs 0 4 ≠ 0x4B4F4F42 ∨ leAt bs 4 2 ≠ 1 then some (1, 0)
  else if crc32 (bs.drop 64) ≠ leAt bs 16 4 then some (2, 0)
  else if byteAt bs 6 ≠ getF s Reg.PB_CFG.BIN_LOG2 ∨ 32 < byteAt bs 7 ∨ 1024 < leAt bs 8 2 then some (3, 0)
  else if !(allZero bs 24 40) || !(List.range (byteAt bs 7)).all (fun k => allZero bs (progChan bs + 8 * k + 4) 4) ||
      !(List.range (leAt bs 8 2)).all (fun k => allZero bs (progActs bs + 16 * k + 12) 4) then some (4, 0)
  else match firstBad actionRange p.actions with
    | some i => some (5, i)
    | none => match firstBad (actionTarget s (leAt bs 10 2) (byteAt bs 7)) p.actions with
      | some i => some (6, i)
      | none => (badChan p.chans).map (fun i => (7, i))

/-- Every active program action ends at once (R216, R217). -/
def endActions (s : State) : State :=
  { s with pb.active := s.pb.active.filter (fun a => match a.eff with
    | .action _ => false
    | .forecast _ => true) }

/-- A bin as a program writes it (R216). -/
def progBin (settle : Nat) (e : Nat × Nat × Nat × Nat) : Bin :=
  if e.2.1 = 0xFFFF then {} else
    { mean := e.1, peak := e.2.1, layer := e.2.2.1, oper := e.2.2.2, hits := settle, seen := true, settled := true, origin := true }

/-- The pending program replaces the loaded one (R216). -/
def switchProgram (s : State) (p : PbProgram) (key : Nat) : State :=
  let before := s
  let settle := getF s Reg.PB_LEARN.SETTLE_STEPS
  let s := endActions s
  let bins := ((List.range p.bins.length).zip p.bins).foldl (fun l q => tset {} l q.1 (progBin settle q.2)) []
  let s := setF { s with pb.bins := bins, pb.prog := some p, pb.pend := none, pb.unload := false } Reg.PB_PROG_ID.ID p.id
  let s := armTimers { s with pb.inst := freshInst s s.sa.aX }
  let s := convEvent before (pbEvent s 2)
  completeKey s key 0 0

/-- The loaded program is removed (R217); its bins are kept. -/
def unloadProgram (s : State) : State :=
  let s := endActions { s with pb.unload := false }
  armTimers (setF { s with pb.prog := none, pb.inst := [] } Reg.PB_PROG_ID.ID 0)

/-- The point at which a pending program or unload takes effect (R216, R217), where the scheduler core's duties run.
DEDUCED (log 48). -/
def switchPoint (s : State) : State :=
  if beRuns s && dutyRuns s 2 then
    match s.pb.pend with
    | some (p, key) => switchProgram s p key
    | none => if s.pb.unload then unloadProgram s else s
  else s

/-- PROGRAM_SWITCH (R216). -/
def execProgramSwitch (s : State) : Host.Outcome State Fault Refusal := finish (switchPoint s)

/-- An accepted program waits for the switch, or takes its place at once outside TRACKING (R216). -/
def acceptProgram (s : State) (f : Flight) (p : PbProgram) : State :=
  let s := match s.pb.pend with
    | some (_, key) => completeKey s key 0x0013 0
    | none => s
  let s := setJob { s with pb.pend := some (p, f.key) } f .pbLoad
  if s.sa.state == .tracking then s else switchPoint s

def pbLoadBody (mem : MemRead) (s : State) (f : Flight) (d : List Byte) : State :=
  match mem with
  | .fail st => readFail s f (leAt d 8 8) (leAt d 16 4) 0 st.toNat
  | .data bs corr =>
    let s := readDone corr s f (leAt d 8 8) (leAt d 16 4) 0
    let bs := bs.take (leAt d 16 4)
    if progLen bs ≠ leAt d 16 4 then complete s f 0x0012 0
    else match programCheck s bs with
      | some (k, i) => complete (setF (setF s Reg.PB_REJECT.REASON k) Reg.PB_REJECT.INDEX i) f 0x0012 k
      | none => acceptProgram s f (parseProgram bs)

/-- PHASEBOOK_LOAD (R215, R216). -/
def execPhasebookLoad (mem : MemRead) (s : State) : Host.Outcome State Fault Refusal :=
  finish (runRead s (fun d => dOp d == 0x30) .pbLoad (fun _ d => loadSpec true d) (fun s _ => !readOpen s 0) (pbLoadBody mem))

/-! ## Forecasts (R218 to R221) -/

/-- The queue map gives the account of a queue where VALID is set (R338). -/
def mapEntry (bs : List Byte) : Option Nat := if bitAt (leAt bs 0 4) 31 then some (leAt bs 0 4 % 2 ^ 18) else none

/-- FORECAST checks of the descriptor (R329). -/
def forecastSpec (d : List Byte) : OpSpec :=
  { named := [(8, 2), (12, 22)], bits := [(10, 1)], target := noTarget d
    operand := if 262143 < leAt d 12 4 then some 12 else if leAt d 24 2 = 0 then some 24 else none }

def cancelSpec (d : List Byte) : OpSpec := { named := [(8, 2)], bits := [(10, 1)], target := noTarget d }

/-- Takes a forecast into the table; one of the same FC_ID that has not started is replaced (R219). DEDUCED (log 48). -/
def takeForecast (s : State) (f : Flight) (d : List Byte) (acct : Nat) : State :=
  let start := BitVec.ofNat 32 (leAt d 20 4)
  let stop := start + BitVec.ofNat 32 (leAt d 24 2)
  let id := leAt d 8 2
  let same := s.pb.fcs.any (fun x => x.id == id && !x.active)
  if !same && decide (256 ≤ s.pb.fcs.length) then complete (setF s Reg.PB_ERR.FC_FULL 1) f 0x0016 0
  else if !ahead stop s.sa.aX then complete (setF s Reg.PB_ERR.FC_STALE 1) f 0x0017 0
  else if s.pb.fcs.any (fun x => x.id == id && x.active) then complete s f 0x0018 0
  else
    let fc : Forecast := {
      id := id, queue := leAt d 12 4, acct := acct, layer := leAt d 16 2, oper := leAt d 18 2, start := start, span := leAt d 24 2
      lead := leAt d 26 2, energy := leAt d 28 4, peak := leAt d 32 2, past := !ahead start s.sa.aX }
    complete (armTimers { s with pb.fcs := s.pb.fcs.filter (·.id != id) ++ [fc] }) f 0 0

/-- DEDUCED (log 48). -/
def forecastBody (entry : MemRead) (s : State) (f : Flight) (d : List Byte) : State :=
  if !flagOn s Reg.PB_CFG.FC_EN then complete s f 0x0014 0
  else match s.mf.bind (·.accounts) with
    | none => complete s f 0x0015 0
    | some (qmap, _) => match entry with
      | .fail st => readFail s f (mapBeat qmap (leAt d 12 4)) (mapLen qmap (leAt d 12 4)) 2 st.toNat
      | .data bs corr =>
        let s := readDone corr s f (mapBeat qmap (leAt d 12 4)) (mapLen qmap (leAt d 12 4)) 2
        match mapEntry bs with
        | none => complete s f 0x0015 0
        | some a => takeForecast s f d a

/-- FORECAST (R218, R219); `entry` is what the read of the queue's entry of the queue map gives. -/
def execForecast (entry : MemRead) (s : State) : Host.Outcome State Fault Refusal :=
  finish (runRead s (fun d => dOp d == 0x31 && !bitAt (byteAt d 10) 0) .taken (fun _ d => forecastSpec d)
    (fun s _ => flagOn s Reg.PB_CFG.FC_EN && (s.mf.bind (·.accounts)).isSome && !readOpen s 2) (forecastBody entry))

/-- DEDUCED (log 48). -/
def cancelBody (s : State) (f : Flight) (d : List Byte) : State :=
  if !flagOn s Reg.PB_CFG.FC_EN then complete s f 0x0014 0
  else
    let id := leAt d 8 2
    let s := match s.pb.fcs.find? (·.id == id) with
      | some fc => if fc.active then markEnd s (fun a => a.eff == .forecast id) 2 else armTimers (closeForecast s fc 2)
      | none => s
    complete s f 0 0

/-- FORECAST_CANCEL (R219). -/
def execForecastCancel (s : State) : Host.Outcome State Fault Refusal :=
  finish (runDesc s (fun d => dOp d == 0x31 && bitAt (byteAt d 10) 0) .taken (fun _ d => cancelSpec d) cancelBody)

/-- ACTION_MAX_EXPIRY (R209): ACT_MAX_US after an effect started, it is to end at the next frame boundary as cut. -/
def actionMax (e : Effect) (s : State) : State :=
  match s.pb.active.find? (·.eff == e) with
  | some a =>
    let s := advanceTo s (a.since + us (getF s Reg.PB_ACTMAX.ACT_MAX_US))
    { s with pb.active := lmod (fun x => x == a) (fun x => { x with ending := some 1 }) s.pb.active }
  | none => s

def execActionMaxExpiry (effect : Effect) (s : State) : Host.Outcome State Fault Refusal := finish (actionMax effect s)

/-- What follows a write of PB_CFG (R200, R207, R217): BIN_LOG2 changed, ACTIONS set or cleared, TIMERS changed.
DEDUCED (log 48). -/
def pbCfgWritten (old : State) (s : State) : State :=
  let s := if getF old Reg.PB_CFG.BIN_LOG2 = getF s Reg.PB_CFG.BIN_LOG2 then convEvent old s
    else convEvent old { s with pb.bins := [], pb.meas := [], pb.excluded := true }
  let was := flagOn old Reg.PB_CFG.ACTIONS
  let is := flagOn s Reg.PB_CFG.ACTIONS
  let s := if was && !is then markEnd { s with
      pb.inst := []
      sa.timers := s.sa.timers.filter (fun (p : Nat × Option Timer) => match p.2 with
        | some t => (match t.owner with
          | .action _ => false
          | _ => true)
        | none => true) } (fun a => match a.eff with
      | .action _ => true
      | .forecast _ => false) 0
    else if is && !was then { s with pb.inst := freshInst s s.sa.aX } else s
  armTimers s

/-- What follows a write of PB_CTL (R200, R217). -/
def pbCtlWritten (v : Nat) (s : State) : State :=
  let s := if bitAt v 0 then clearBins s else s
  if bitAt v 1 then
    let s := { s with pb.unload := true }
    if s.sa.state == .tracking then s else switchPoint s
  else s

end Sys2Proof.Machine
end

