-- ==== Sys2Proof/Machine/Regulator.lean ====
section
/-! DEFINITION. Rails, phases and the shelf brake: regulation, reports, the period boundary, fire, starts and stops
(R128 to R170, R445, R454). -/

namespace Sys2Proof.Machine

/-! ## Faults of a rail (R154) -/

/-- A rail that faults with its ports disabled, and the hard stop it calls. -/
def faultOff (s : State) (r : Nat) (f : Fld) : State := stepJobs (callShutdown (disableRail (railFault s r f 2) r .faulted .off) 8)

/-- A rail that faults and goes down with the fast off of the hard stop it calls. -/
def faultDown (s : State) (r : Nat) (f : Fld) : State :=
  callShutdown (modRail (railFault s r f 2) r (fun x => { x with fltOff := true })) 8

/-! ## Fire (R158 to R161) -/

/-- A fire is taken, at the earliest 40 ns after the last one ended (R160). DEDUCED (log 43). -/
def takeFire (s : State) (r : Nat) : State :=
  if canFire s r then fireRail (advanceTo s ((rail s r).fireEndAt + 10)) r else s

/-- UVF_RISE (R158). DEDUCED (log 43). -/
def uvfRise (r : Nat) (s : State) : State :=
  if pcRuns s && (mfRail s r).isSome && getPc s (Reg.RAIL_FIRE.UVF_EN r) == 1 then takeFire s r else s

def execUvfRise (rail : Nat) (s : State) : Host.Outcome State Fault Refusal := finish (uvfRise rail s)

/-- How far the sensed voltage lies below the target, in 0.25 mV. -/
def deficit (s : State) (r : Nat) : Int := (railTarget s r : Int) - (rail s r).vsns

/-- UVF[r] is high: some tile agent of the rail drives UVF_O (R175). -/
def uvfHigh (s : State) (r : Nat) : Bool := (railTiles s r).any (fun t => (tile s t).uvf)

/-- FIRE_END (R160): after at least 20 ns, with UVF low and the voltage recovered. DEDUCED (log 43). -/
def fireEnd (r : Nat) (s : State) : State :=
  let m := getPc s (Reg.RAIL_FIRE.FIRE_UV_MV r)
  if pcRuns s && (rail s r).firing && !uvfHigh s r && (m == 0 || decide (deficit s r ≤ 2 * m)) then
    endFire (advanceTo s ((rail s r).fireAt + 5)) r
  else s

def execFireEnd (rail : Nat) (s : State) : Host.Outcome State Fault Refusal := finish (fireEnd rail s)

/-- FIRE_MAX_EXPIRY (R161). DEDUCED (log 43). -/
def fireMaxExpiry (r : Nat) (s : State) : State :=
  if pcRuns s && (rail s r).firing then
    let s := advanceTo s ((rail s r).fireAt + getPc s (Reg.RAIL_FIRE.FIRE_MAX r))
    railFault (endFire s r) r (Reg.RAIL_FLT.FIRE_MAX r) 2
  else s

def execFireMaxExpiry (rail : Nat) (s : State) : Host.Outcome State Fault Refusal := finish (fireMaxExpiry rail s)

/-- FIRE_HOLD_EXPIRY (R160). DEDUCED (log 43). -/
def fireHoldExpiry (r : Nat) (s : State) : State :=
  if pcRuns s && (rail s r).fireHold then
    let s := advanceTo s ((rail s r).fireEndAt + us (getPc s (Reg.RAIL_FIRE.FIRE_HOLD_US r)))
    modRail s r (fun x => { x with fireHold := false })
  else s

def execFireHoldExpiry (rail : Nat) (s : State) : Host.Outcome State Fault Refusal := finish (fireHoldExpiry rail s)

/-! ## The compensator (R138, R139) -/

/-- The duty command and the compensator's state after one step. Whether iacc is frozen at a step is decided by the unclamped sum of the
step before: R139 does not say which sum. DESIGN CHOICE (log 82). -/
def compensate (s : State) (r : Nat) (x : Rail) : Rail :=
  let e := deficit s r
  let dff := roundEven (65536 * (railTarget s r : Int)) (4 * ((mfRail s r).map (·.vin)).getD 1)
  let p := asr (getPc s (Reg.RAIL_COMP0.KP r) * e) 8
  let d := asr (getPc s (Reg.RAIL_COMP1.KD r) * (e - x.ePrev)) 8
  let held := x.frozen || x.firing || x.first
  let iacc := if held then x.iacc else
    clampInt (-(2 ^ 47)) (2 ^ 47 - 1) (x.iacc + getPc s (Reg.RAIL_COMP0.KI r) * e)
  let sum := dff + p + asr iacc 16 + d
  let dmax := getPc s (Reg.RAIL_COMP1.DMAX r)
  { x with
    iacc := iacc, ePrev := e, duty := (clampInt 0 dmax sum).toNat, frozen := decide (sum < 0 ∨ (dmax : Int) < sum)
    settledAt := if x.st == .settle && decide (e.natAbs ≤ 40) then some (x.settledAt.getD s.now) else none }

/-- The clocks of the voltage-frequency sequencer's settle condition (R79, R81): they run while a raise waits and the target has the
value it is raised to. The load-line target of R137 carries the correction for the load line. -/
def vfsClock (s : State) (r : Nat) (x : Rail) : Rail :=
  let there := (vfsRail s r).raising && x.st == .up && !x.srcMove &&
    (if railSrc s r then x.vset == vsetGoal s r else x.tgt == mv (storedMv s r))
  let ok := there && decide ((deficit s r).natAbs ≤ 4 * getF s Reg.VFS_CFG.TOL_MV)
  { x with
    vfsAt := if there then some (x.vfsAt.getD s.now) else none
    vfsOk := if ok then some (x.vfsOk.getD s.now) else none }

/-- The runs of R154: samples above the target by more than OV_MV, and below it by more than UV_MV outside fire. -/
def railRuns (s : State) (r : Nat) (x : Rail) : Rail :=
  let e := deficit s r
  { x with
    ovRun := if e < -(4 * (getPc s (Reg.RAIL_PROT0.OV_MV r) : Int)) then x.ovRun + 1 else 0
    uvRun := if 4 * (getPc s (Reg.RAIL_PROT0.UV_MV r) : Int) < e then (if x.firing then x.uvRun else x.uvRun + 1) else 0 }

/-- The judgements of R154 on the sensed voltage: a run lasts the 10 ns that lie between its samples. DEDUCED (log 42). -/
def judgeVoltage (s : State) (r : Nat) : State :=
  if (rail s r).st == .up then
    let s := modRail s r (railRuns s r)
    let x := rail s r
    if 20 < x.ovRun then faultOff s r (Reg.RAIL_FLT.OV r)
    else if 100 * getPc s (Reg.RAIL_PROT0.UV_US r) < x.uvRun then faultDown s r (Reg.RAIL_FLT.UV r)
    else s
  else s

/-- The sense trigger (R158). -/
def senseTrigger (s : State) (r : Nat) : State :=
  let x := rail s r
  let m := getPc s (Reg.RAIL_FIRE.FIRE_UV_MV r)
  let e := deficit s r
  let low := m != 0 && decide (4 * (m : Int) < e)
  let armed := x.armed || (m != 0 && decide (e ≤ 2 * (m : Int)))
  let fires := low && x.above && armed && canFire s r
  let s := setRail s r { x with above := !low, armed := armed && !fires }
  if fires then takeFire s r else s

/-- One step of one rail: the sample, the target, the duty command, and what is judged on them. DEDUCED (log 42). -/
def compStep (vs : List (Nat × Nat)) (s : State) (r : Nat) : State :=
  let s := modRail s r (fun x => moveTarget s r { x with vsns := match vs.find? (·.1 == r) with
    | some (_, v) => v
    | none => x.vsns })
  let s := modRail s r (compensate s r)
  senseTrigger (judgeVoltage (modRail s r (vfsClock s r)) r) r

/-- COMPENSATOR_UPDATE: 10 ns pass, and every rail takes a step. -/
def compensatorUpdate (vs : List (Nat × Nat)) (s : State) : State :=
  if pcRuns s then
    let n := max (s.pc.compAt + 5) (2 * s.now)
    let s := { advanceTo s (n / 2) with pc.compAt := n }
    (mfRails s).foldl (compStep vs) s
  else s

def execCompensatorUpdate (vsns : List (Nat × Nat)) (s : State) : Host.Outcome State Fault Refusal :=
  finish (compensatorUpdate vsns s)

/-! ## Report frames (R132, R133, R145, R152) -/

/-- A frame as R132 lays it out: bits [47:0]. -/
def frameOk (v : Nat) : Bool := bitsAt v 46 2 == 2 && bitsAt v 8 3 == 0 && crc8 (bitsAt v 8 38) 38 == bitsAt v 0 8

def rptIph (v : Nat) : Int := toSigned 14 (bitsAt v 32 14)
def rptTph (v : Nat) : Nat := bitsAt v 23 9
def rptVsw (v : Nat) : Nat := bitsAt v 17 6
def rptReady (v : Nat) : Bool := bitAt v 16
def rptOc (v : Nat) : Bool := bitAt v 15
def rptOt (v : Nat) : Bool := bitAt v 14
def rptUvlo (v : Nat) : Bool := bitAt v 13
def rptHs (v : Nat) : Bool := bitAt v 12
def rptLs (v : Nat) : Bool := bitAt v 11

/-- The port has an edge in each period, so that frames are expected (R131, R133). -/
def edged (x : Port) : Bool :=
  x.st == .test || x.st == .standby || x.st == .joining || x.st == .active || x.st == .draining

/-- A frame is missing. -/
def lostFrame (x : Port) : Port :=
  { x with missRun := x.missRun + 1, losses := satAdd 15 x.losses 1, goodRun := if x.st == .test then 0 else x.goodRun }

/-- The port that carries a logical phase. -/
def carrier (s : State) (r l : Nat) : Option Nat := (railPorts s r).find? (fun p => (port s p).lphase == some l)

/-- The switching period of a rail in grid steps: PERIOD × 10 ns (R131). -/
def periodSteps (s : State) (r : Nat) : Nat := 96 * getPc s (Reg.RAIL_CFG.PERIOD r)

/-- The number of an active port among the active ports of its rail, in ascending logical phase order (R140). -/
def activeIndex (s : State) (r p : Nat) : Nat :=
  ((portsIn s r (fun t => t == .joining || t == .active || t == .draining || t == .fire)).filter (fun q =>
    decide ((port s q).lphase.getD 0 < (port s p).lphase.getD 0))).length

/-- The interleave slot of an active port, in grid steps after the period boundary, from the next boundary on (R140): to the nearest
step, and a tie goes to even. DEDUCED (log 66). -/
def slotSteps (s : State) (r p : Nat) : Nat := (roundEven (activeIndex s r p * periodSteps s r) (nActive s r)).toNat

/-- The slots are respaced at a period boundary, and stand until the next one whatever N_active does meanwhile (R140). The slot of a
strobe has no rule, and is taken as the boundary itself. DEDUCED (log 42). -/
def respace (s : State) (r : Nat) : State :=
  (railPorts s r).foldl (fun t p => modPort t p (fun x => { x with slot := if portOn x then slotSteps s r p else 0 })) s

/-- A port's own edge of the period that runs has passed: a frame of the edge before it can no longer be accepted (R133). -/
def edgePassed (s : State) (r p : Nat) : Bool := decide (5 * (port s p).slot ≤ 48 * (4 * s.now - 2 * (rail s r).periodAt))

/-- What an accepted frame leaves in the port: its values, and the runs of R152 and R145. While the frame of the edge before is awaited,
it is that one, but for one that comes after the port's next edge (`next`), which leaves the awaited one missing (R133).
DEDUCED (log 42). -/
def takeFrame (s : State) (r v : Nat) (next : Bool) (x : Port) : Port :=
  let x := if x.late && next then { lostFrame x with late := false } else x
  let oc := decide ((32 * getPc s (Reg.RAIL_PROT1.PH_OC_A r) : Nat) < rptIph v)
  let good := rptReady v && decide (rptVsw v < 16) && bitsAt v 11 5 == 0
  { x with
    got := x.got || !x.late, late := false, missRun := 0, iph := rptIph v, tph := rptTph v
    ocRun := if oc then x.ocRun + 1 else 0
    ocFlagRun := if rptOc v then x.ocFlagRun + 1 else 0
    otRun := if 2 * getPc s (Reg.RAIL_PROT1.PH_OT_C r) + 80 < rptTph v then x.otRun + 1 else 0
    overOc := oc || rptOc v
    joinOk := if x.st == .joining then x.joinOk + 1 else x.joinOk
    goodRun := if x.st == .test then (if good then x.goodRun + 1 else 0) else x.goodRun
    vswHi := if x.st == .test && decide (16 ≤ rptVsw v) then x.vswHi + 1 else x.vswHi }

/-- The cause with which a frame retires its port at once: a failure of the short test (R145), an over-temperature or a stage
fault (R152); 0 where it does not. Overcurrent and report loss are judged at the period boundary, after the checks of R153.
DEDUCED (log 42). Of the two, an over-temperature comes first: R152 gives no order. DESIGN CHOICE (log 82). -/
def frameFault (x : Port) (v : Nat) : Nat :=
  let regulating := x.st == .joining || x.st == .active || x.st == .draining
  if x.st == .test then
    if 2 ≤ x.vswHi || rptHs v then 1 else if rptLs v || rptUvlo v then 4 else 0
  else if 2 ≤ x.otRun || rptOt v then 3
  else if regulating && (rptHs v || rptLs v || rptUvlo v || !rptReady v) then 4
  else 0

/-- PHASE_REPORT_FRAME: a frame that begins in time and passes R133 is taken. -/
def phaseReportFrame (p : Nat) (frame : BitVec 48) (inTime : Bool) (s : State) : State :=
  match (port s p).rail with
  | none => s
  | some r =>
    if pcRuns s && edged (port s p) && inTime && frameOk frame.toNat then
      let s := modPort s p (takeFrame s r frame.toNat (edgePassed s r p))
      let k := frameFault (port s p) frame.toNat
      if k = 0 then s else retirePort s r p k
    else s

def execPhaseReportFrame (port : Nat) (frame : BitVec 48) (inTime : Bool) (s : State) : Host.Outcome State Fault Refusal :=
  finish (phaseReportFrame port frame inTime s)

/-! ## The period boundary (R133, R153, R150, R162 to R166) -/

/-- A port at the end of a period (R133): a frame that was expected and not accepted is missing, but for one that ends after the
boundary and may come until the port's own next edge; the one so awaited from the period before is missing by now. DEDUCED (log 42). -/
def countMissing (endsLate : Bool) (x : Port) : Port :=
  if !edged x then x
  else
    let own := !x.got && !endsLate
    let y := if x.st == .test then { x with testN := x.testN + 1, missed8 := ((x.late || own) :: x.missed8).take 8 } else x
    let y := { y with got := false, late := !x.got && endsLate }
    let y := if x.late then lostFrame y else y
    if own then lostFrame y else y

/-- Ports of a rail in one state, in ascending logical number. -/
def byPhase (s : State) (r : Nat) (st : PortSt) : List Nat :=
  ((List.range (railPhases s r)).filterMap (carrier s r)).filter (fun p => (port s p).st == st)

/-- The frame of a port's edge ends, 60 ns and 384 ns after it at the latest, only after the boundary (R132, R133).
DEDUCED (log 42). -/
def endsLate (s : State) (r p : Nat) : Bool := decide (5 * periodSteps s r < 5 * (port s p).slot + 48 * 444)

/-- The condition of an output short (R150). -/
def shortNow (s : State) (r : Nat) : Bool :=
  let runs := portsIn s r (fun t => t == .joining || t == .active)
  let tooHigh := runs.filter (fun p => (port s p).overOc)
  decide (runs.length < 2 * tooHigh.length) && decide (4 * (getPc s (Reg.RAIL_PROT0.SS_TRACK_MV r) : Int) < deficit s r)

/-- Ports of a rail at which report loss is judged, counting those that await a frame as if it were missing where `late` asks for it. -/
def lossCount (s : State) (r : Nat) (late : Bool) : Nat :=
  ((portsIn s r (fun t => t == .standby || t == .joining || t == .active || t == .draining)).filter
    (fun p => decide (3 ≤ (port s p).missRun + b2n (late && (port s p).late)))).length

/-- Report loss is judged on more than 4 ports of the rail for the frames of one period (R153). DEDUCED (log 42). -/
def massLoss (s : State) (r : Nat) : Bool := decide (4 < lossCount s r false)

/-- The frames that end after the boundary decide whether it is a mass loss, so that report loss waits for them (R153).
DEDUCED (log 42). -/
def massOpen (s : State) (r : Nat) : Bool := decide (4 < lossCount s r true)

/-- What the boundary judges on one port: the end of a test, overcurrent and report loss, and the end of joining.
DEDUCED (log 42). -/
def judgePort (r : Nat) (hold : Bool) (s : State) (p : Nat) : State :=
  let x := port s p
  match x.st with
  | .test =>
    if 3 ≤ x.missRun then retirePort s r p 5
    else if 8 ≤ x.goodRun then passTest s r p
    else if 32 ≤ x.testN then retirePort s r p (if x.missed8.any id then 5 else 4)
    else s
  | .joining | .active | .draining =>
    if !hold && (4 ≤ x.ocRun || 2 ≤ x.ocFlagRun) then retirePort s r p 2
    else if !hold && 3 ≤ x.missRun then retirePort s r p 5
    else if x.st == .joining && 2 ≤ x.joinOk then setPort s p (toState x .active)
    else s
  | .standby => if !hold && 3 ≤ x.missRun then retirePort s r p 5 else s
  | _ => s

/-- N_req (R162, R156). -/
def nReq (s : State) (r : Nat) : Int :=
  let x := rail s r
  let avail : Int := nAvail s r
  if flagOn s (Reg.RAIL_CFG.SHED_EN r) then
    let num := iRail s r * (8192 * x.iffDen) + x.iffNum
    let den := 262144 * x.iffDen * getPc s (Reg.RAIL_SHED.I_PER_PHASE r)
    let want := -((-num).fdiv den) + getPc s (Reg.RAIL_SHED.MARGIN r)
    clampInt (max (min (getPc s (Reg.RAIL_CFG.PH_MIN r) : Int) avail) (pbFloor s r)) avail want
  else avail

/-- Starts the drain of the ACTIVE port with the highest logical number (R164). Its periods are those that follow: the one that
begins now at a period boundary, and the next one between boundaries. DEDUCED (log 43). -/
def startDrain (s : State) (r : Nat) : State :=
  match (byPhase s r .active).getLast? with
  | none => s
  | some p => modRail (modPort s p (fun x => toState x .draining)) r (fun x => { x with
      drain := some { port := p, begun := x.periodAt / 2 == s.now }, belowSince := none, shedding := true })

/-- Ports join in ascending logical number; a draining port comes back first, and its drain is aborted (R163, R165). -/
def joinPorts (s : State) (r k : Nat) : State :=
  let (s, k) := match (rail s r).drain with
    | some d =>
      let s := modPort s d.port (fun x => toState x .active)
      (incSat (modRail s r (fun x => { x with drain := none })) (Reg.RAIL_CNT.SHED_ABORTS r), k - 1)
    | none => (s, k)
  let s := modRail s r (fun x => { x with belowSince := none, shedding := false })
  ((byPhase s r .standby).take k).foldl (fun s p => modPort s p (fun x => { toState x .joining with joinOk := 0 })) s

/-- A drain at the end of a period (R164): the port enters STANDBY after the fifth period with its IPH below 2 A, and in any case
after the sixth. DEDUCED (log 43). -/
def stepDrain (s : State) (r : Nat) : State :=
  match (rail s r).drain with
  | none => s
  | some d =>
    let k := d.k + 1
    if !d.begun then modRail s r (fun x => { x with drain := some { d with begun := true } })
    else if 6 ≤ k || (5 ≤ k && decide ((port s d.port).iph < 64)) then
      modRail (modPort s d.port (fun x => toState x .standby)) r (fun x => { x with drain := none })
    else modRail s r (fun x => { x with drain := some { d with k := k } })

/-- Shedding at a period boundary of a rail that is UP (R162 to R165). -/
def shed (s : State) (r : Nat) : State :=
  let s := stepDrain s r
  let x := rail s r
  if x.st != .up || x.firing then s
  else
    let gap := nReq s r - nActive s r
    if 0 ≤ gap then joinPorts s r gap.toNat
    else if x.fireHold then modRail s r (fun x => { x with belowSince := none })
    else if x.drain.isSome then s
    else if x.shedding then startDrain s r
    else modRail s r (fun x => { x with belowSince := some (x.belowSince.getD s.now) })

/-- SHED_HOLD_EXPIRY: N_req has stayed below N_active for HOLD_US (R164). -/
def shedHoldExpiry (r : Nat) (s : State) : State :=
  let x := rail s r
  match x.belowSince with
  | some t =>
    if pcRuns s && x.st == .up && !x.firing && !x.fireHold && x.drain.isNone then
      startDrain (advanceTo s (t + us (getPc s (Reg.RAIL_SHED.HOLD_US r)))) r
    else s
  | none => s

def execShedHoldExpiry (rail : Nat) (s : State) : Host.Outcome State Fault Refusal := finish (shedHoldExpiry rail s)

/-- Current imbalance of one ACTIVE port against the mean of n ports whose IPH sum is given (R166). -/
def imbalance (r n : Nat) (sum : Int) (s : State) (p : Nat) : State :=
  let x := port s p
  let out := decide (32 * n * getPc s (Reg.RAIL_SHED.IMB_A r) < (n * x.iph - sum).natAbs)
  let x := { x with imbRun := if out then x.imbRun + 1 else 0, balRun := if out then 0 else x.balRun + 1 }
  if out && !x.imb && 64 ≤ x.imbRun then
    regEvent (setPort s p { x with imb := true }) 4 (phaseUnit r (x.lphase.getD 0)) 0 p
  else setPort s p (if x.imb && 64 ≤ x.balRun then { x with imb := false } else x)

/-- Current imbalance of a rail. -/
def imbalances (s : State) (r : Nat) : State :=
  let ps := portsIn s r (· == .active)
  ps.foldl (imbalance r ps.length (ps.foldl (fun a p => a + (port s p).iph) 0)) s

/-- The ports of a TEST step enter TEST at its first period boundary (R135). -/
def enterTest (s : State) (r : Nat) : State :=
  let s := (railPorts s r).foldl (fun s p =>
    let x := port s p
    if x.lphase.isSome && (x.st == .off || x.st == .standby) then
      setPort s p { toState x .test with testN := 0, goodRun := 0, vswHi := 0, missed8 := [], missRun := 0, got := false, late := false }
    else s) s
  modRail s r (fun x => { x with testOn := true })

/-- The ramp begins (R144): every port in STANDBY joins, and the target starts at the sensed voltage. -/
def enterRamp (s : State) (r : Nat) : State :=
  let s := (portsIn s r (· == .standby)).foldl (fun s p => modPort s p (fun x => { toState x .joining with joinOk := 0 })) s
  modRail s r (fun x => { x with
    st := .ramp, stepAt := s.now, tgt := 500 * x.vsns, iacc := 0, first := false, frozen := false, armed := true, above := true
    shortRun := 0, settledAt := none })

/-- The TEST step ends when every logical phase has passed or is absent (R144, R145). -/
def testDone (s : State) (r : Nat) : State :=
  let x := rail s r
  if x.st == .test && x.testOn && x.need.isEmpty && (portsIn s r (· == .test)).isEmpty then
    if (portsIn s r (· == .standby)).isEmpty then failStart s r (Reg.RAIL_FLT.START_TO r) else enterRamp s r
  else s

/-- An output short during a start (R150, R151). -/
def startShort (s : State) (r : Nat) : State :=
  if getPc s (Reg.RAIL_PROT1.SS_RETRY r) ≤ (rail s r).retries then failStart s r (Reg.RAIL_FLT.SHORT r)
  else modRail (disableRail s r .hiccup .standby) r (fun x => { x with retries := x.retries + 1 })

/-- What a short or a mass loss does once it is judged (R150, R154). -/
def railJudge (s : State) (r : Nat) (mass : Bool) : State :=
  let x := rail s r
  if (x.st == .ramp || x.st == .settle) && 8 ≤ x.shortRun then startShort s r
  else if x.st == .up && 8 ≤ x.shortRun then faultOff s r (Reg.RAIL_FLT.SHORT r)
  else if x.st == .up && mass then faultDown s r (Reg.RAIL_FLT.MASS_LOSS r)
  else s

/-! ## Shelf brake (R167 to R170, R454) -/

/-- The period power exceeds PC_BRAKE0.LEVEL_W. -/
def overLevel (s : State) : Bool := decide (((128000 * getPc s Reg.PC_BRAKE0.LEVEL_W : Nat) : Int) < periodPower s)

/-- The brake asserts GSTOP. DEDUCED (log 44). -/
def brakeEscalate (s : State) : State :=
  let s := if s.pc.escCounted then s else incSat s Reg.PC_BRAKE_CNT.ESCALATIONS
  let s := (mfRails s).foldl (fun s r => modRail s r (fun x => { x with pwrOk := false })) s
  { s with pc.brakeGstop := true, pc.escCounted := true }

/-- The brake's GSTOP is released once the period power has been at or below LEVEL_W for one period of every rail.
DEDUCED (log 44). -/
def brakePower (s : State) (r : Nat) : State :=
  if !s.pc.brakeGstop then s
  else if overLevel s then (mfRails s).foldl (fun s r => modRail s r (fun x => { x with pwrOk := false })) s
  else
    let s := modRail s r (fun x => { x with pwrOk := true })
    if (mfRails s).all (fun q => (rail s q).st != .up || (rail s q).pwrOk) then { s with pc.brakeGstop := false } else s

/-- The shelf brake acts, be it between two frames: the reports of the open periods say so (R305). -/
def noteBrake (s : State) : State :=
  if s.mf.isSome then { s with bg.sec.flags := s.bg.sec.flags ||| 64, bg.min_.flags := s.bg.min_.flags ||| 64 } else s

/-- The brake's ceilings are applied (R167). DEDUCED (log 44). -/
def brakeOn (s : State) : State :=
  if pcRuns s then
    lowerAll (incSat { noteBrake s with
      pc.brake := true, pc.brakeAt := s.now, pc.escDone := false, pc.missDone := false, pc.escCounted := false
      pc.lifting := false } Reg.PC_BRAKE_CNT.BRAKES)
  else s

/-- SHELF_BRAKE_ASSERT: SHELF_BRAKE_N is held asserted (R167, R368). -/
def brakeAssert (s : State) : State :=
  if s.pins.brake then s
  else
    let s := { s with pins.brake := true }
    brakeOn (if s.du.hbAbsent then { s with pins.mirrorGstop := true } else s)

def execShelfBrakeAssert (s : State) : Host.Outcome State Fault Refusal := finish (brakeAssert s)

/-- BRAKE_ESCALATION (R168). DEDUCED (log 44). -/
def brakeEsc (s : State) : State :=
  let n := getPc s Reg.PC_BRAKE1.ESC_US
  if pcRuns s && s.pins.brake && s.pc.brake && !s.pc.escDone && n != 0 then
    let s := { advanceTo s (s.pc.brakeAt + us n) with pc.escDone := true }
    if overLevel s then brakeEscalate s else s
  else s

def execBrakeEscalation (s : State) : Host.Outcome State Fault Refusal := finish (brakeEsc s)

/-- BRAKE_MISS_CHECK (R168). DEDUCED (log 44). -/
def brakeMiss (s : State) : State :=
  if pcRuns s && s.pins.brake && s.pc.brake && !s.pc.missDone then
    let s := { advanceTo s (s.pc.brakeAt + us 10) with pc.missDone := true }
    if overLevel s then regEvent (setF s Reg.PC_FLT.BRAKE_MISS 1) 5 (hubUnit s) 0 0 else s
  else s

def execBrakeMissCheck (s : State) : Host.Outcome State Fault Refusal := finish (brakeMiss s)

/-- SHELF_BRAKE_DEASSERT (R170): the GSTOP of the brake is released, and the ceilings lift at the next frame boundary. -/
def execShelfBrakeDeassert (s : State) : Host.Outcome State Fault Refusal :=
  finishGrants { s with pins.brake := false, pc.brakeGstop := false, pc.lifting := s.pc.brake }

/-- The comparison at a PC restart while the brake is asserted (R454). DEDUCED (log 45). -/
def brakeRestart (s : State) : State :=
  if s.pins.brake && s.pc.brake && getPc s Reg.PC_BRAKE1.ESC_US != 0 && overLevel s && !s.pc.brakeGstop then brakeEscalate s else s

/-! ## The boundary as a whole -/

/-- A rail whose period runs. -/
def periodRuns (s : State) (r : Nat) : Bool :=
  let st := (rail s r).st
  (mfRail s r).isSome && (st == .test || st == .ramp || st == .settle || st == .up || st == .stopping)

/-- The judgements of a boundary, in the order of R153: short and mass loss, phase faults, spares, shedding, imbalance.
DEDUCED (log 42). -/
def periodJudge (s : State) (r : Nat) : State :=
  let need := (rail s r).need
  let s := 
    let ends := (railPorts s r).filter (endsLate s r)
    (railPorts s r).foldl (fun s p => modPort s p (countMissing (ends.contains p))) s
  let short := shortNow s r
  let mass := massLoss s r
  let s := modRail s r (fun x => { x with shortRun := if short then x.shortRun + 1 else 0 })
  let s := (railPorts s r).foldl (judgePort r (short || massOpen s r)) s
  let s := need.foldl (fun s l => if (rail s r).need.contains l then trySpare s r l else s) s
  let s := imbalances (shed s r) r
  railJudge (testDone (capacity s r) r) r mass

/-- RAIL_PERIOD_BOUNDARY. The period power is the latest sample of the sensed voltage times I_rail at the boundary: R168 does not say
which of a period's samples make it. DESIGN CHOICE (log 74). -/
def railPeriodBoundary (r : Nat) (s : State) : State :=
  if pcRuns s && periodRuns s r then
    let n := max ((rail s r).periodAt + 5 * getPc s (Reg.RAIL_CFG.PERIOD r)) (2 * s.now)
    let s := advanceTo s (n / 2)
    let s := modRail s r (fun x => { x with periodAt := n, power := x.vsns * iRail s r })
    let s := brakePower s r
    let s := if (rail s r).st == .test && !(rail s r).testOn then (rail s r).need.foldl (fun s l => trySpare s r l) (enterTest s r)
      else periodJudge s r
    respace s r
  else s

def execRailPeriodBoundary (rail : Nat) (s : State) : Host.Outcome State Fault Refusal := finishGrants (railPeriodBoundary rail s)

/-! ## Starts and stops (R144 to R151) -/

/-- The rails a descriptor names. -/
def railMask (d : List Byte) : List Nat := bitList (leAt d 8 2) 12

/-- RAIL_START and RAIL_STOP (R329): at least one rail, each described in the manifest. -/
def railSpec (s : State) (d : List Byte) : OpSpec :=
  { named := [(8, 2)], bits := [(9, 0x0F)], target := noTarget d
    operand := if !(railMask d).isEmpty && (railMask d).all (fun r => (mfRail s r).isSome) then none else some 8 }

/-- The lowest rail named that a start or a stop in flight names (R325). DEDUCED (log 41). -/
def railBusy (s : State) (rails : List Nat) : Option Nat :=
  rails.find? (fun r => s.pc.jobs.any (fun j => j.key.isSome && j.mask.contains r))

/-- RAIL_START as it is taken (R144, R391, R256, R32, R325). DEDUCED (log 41). -/
def railStartBody (s : State) (f : Flight) (d : List Byte) : State :=
  let rails := railMask d
  if !isReady s then complete s f 0x0008 (getF s Reg.RS_STATUS.PHASE)
  else if s.th.sd != .run then complete s f 0x000C (sdCode s.th.sd)
  else if !s.pins.pwrgd then complete s f 0x000B 0
  else match rails.find? (fun r => (railBusy s rails == some r) || (rail s r).st == .faulted) with
    | some r => complete s f 0x0008 r
    | none =>
      let s := rails.foldl (fun s r => modRail s r (fun x => { x with byStart := false })) s
      let j : RailJob := {
        key := some f.key, start := true, cur := [], delayAt := s.now, mask := rails
        groups := orderGroups s (rails.filter (fun r => (rail s r).st != .up)) }
      stepJobs { s with pc.jobs := s.pc.jobs ++ [j] }

def railStart (s : State) : State := runDesc s (fun d => dOp d == 0x20) .railStart railSpec railStartBody

def execRailStart (s : State) : Host.Outcome State Fault Refusal := finish (railStart s)

/-- RAIL_STOP as it is taken (R148, R325). DEDUCED (log 41). -/
def railStopBody (s : State) (f : Flight) (d : List Byte) : State :=
  let rails := railMask d
  match railBusy s rails with
  | some r => complete s f 0x0008 r
  | none => match rails.find? (fun r => (railTiles s r).any (fun t => (tile s t).pwrEn)) with
    | some r => complete s f 0x0008 r
    | none =>
      let j : RailJob := {
        key := some f.key, start := false, cur := [], delayAt := s.now, mask := rails
        groups := (orderGroups s (rails.filter (fun r => !railDown s r))).reverse }
      stepJobs { s with pc.jobs := s.pc.jobs ++ [j] }

def railStop (s : State) : State := runDesc s (fun d => dOp d == 0x21) .railStop railSpec railStopBody

def execRailStop (s : State) : Host.Outcome State Fault Refusal := finish (railStop s)

/-- The TEST step of a rail begins. -/
def beginTest (s : State) (r : Nat) : State := modRail s r (fun x => { x with st := .test, stepAt := s.now, testOn := false })

/-- The stop ramp of a rail begins, from its target at this moment, with iacc at 0 (R148, R446, R139). -/
def beginStop (s : State) (r : Nat) : State :=
  modRail s r (fun x => { x with
    tgt := 500 * railTarget s r, st := .stopping, srcMove := false, stepAt := s.now, belowSince := none, shedding := false
    iacc := 0 })

/-- RAIL_DELAY_EXPIRY (R144, R148). -/
def railDelayExpiry (r : Nat) (s : State) : State :=
  match jobOf s r with
  | none => s
  | some j =>
    if !pcRuns s then s
    else if j.start then
      if (rail s r).st == .delay then beginTest (advanceTo s (j.delayAt + us (getPc s (Reg.RAIL_SEQ_ON.DELAY_US r)))) r else s
    else if railDown s r || (rail s r).st == .stopping then s
    else beginStop (advanceTo s (j.delayAt + us (getPc s (Reg.RAIL_SEQ_OFF.DELAY_US r)))) r

def execRailDelayExpiry (rail : Nat) (s : State) : Host.Outcome State Fault Refusal := finish (railDelayExpiry rail s)

/-- RAIL_RAMP_DONE (R144): the target has reached the stored value. -/
def railRampDone (r : Nat) (s : State) : State :=
  if pcRuns s && (rail s r).st == .ramp && (rail s r).tgt == mv (storedMv s r) then
    modRail s r (fun x => { x with st := .settle, stepAt := s.now, settledAt := none })
  else s

def execRailRampDone (rail : Nat) (s : State) : Host.Outcome State Fault Refusal := finish (railRampDone rail s)

/-- RAIL_SETTLED (R144): within ±10 mV of the target for 10 µs. -/
def railSettled (r : Nat) (s : State) : State :=
  match (rail s r).settledAt with
  | some t => if pcRuns s && (rail s r).st == .settle then railUp (advanceTo s (t + us 10)) r else s
  | none => s

def execRailSettled (rail : Nat) (s : State) : Host.Outcome State Fault Refusal := finish (railSettled rail s)

/-- RAIL_START_TIMEOUT (R147): 1 ms after the end of the RAMP step. -/
def railStartTimeout (r : Nat) (s : State) : State :=
  if pcRuns s && (rail s r).st == .settle then
    failStart (advanceTo s ((rail s r).stepAt + ms 1)) r (Reg.RAIL_FLT.START_TO r)
  else s

def execRailStartTimeout (rail : Nat) (s : State) : Host.Outcome State Fault Refusal := finish (railStartTimeout rail s)

/-- HICCUP_EXPIRY (R151): the rail restarts from its TEST step. -/
def hiccupExpiry (r : Nat) (s : State) : State :=
  if pcRuns s && (rail s r).st == .hiccup then
    beginTest (advanceTo s ((rail s r).stepAt + ms (getPc s (Reg.RAIL_PROT1.SS_HICCUP_MS r)))) r
  else s

def execHiccupExpiry (rail : Nat) (s : State) : Host.Outcome State Fault Refusal := finish (hiccupExpiry rail s)

/-- RAIL_STOP_DONE (R148, R251): the target of a stop ramp has reached 0 mV. -/
def railStopDone (r : Nat) (s : State) : State :=
  let x := rail s r
  if pcRuns s && x.st == .stopping && !x.fastOff && x.tgt == 0 then
    orderlyDown (stepJobs (disableRail s r .off .off))
  else s

def execRailStopDone (rail : Nat) (s : State) : Host.Outcome State Fault Refusal := finish (railStopDone rail s)

/-- FAST_OFF_DONE (R149, R154, R253): the target of a fast off has reached 0 mV. -/
def fastOffDone (r : Nat) (s : State) : State :=
  let x := rail s r
  if pcRuns s && x.fastOff && x.tgt == 0 then
    hardDown (stepJobs (disableRail s r (if x.fltOff then .faulted else .off) .off))
  else s

def execFastOffDone (rail : Nat) (s : State) : Host.Outcome State Fault Refusal := finish (fastOffDone rail s)

/-! ## PHASE_RETIRE, and what the register writes and VSEL do -/

/-- N_avail as R157 takes it. -/
def availFor (s : State) (r : Nat) : Nat :=
  if (rail s r).st == .up then nAvail s r else railPhases s r - (rail s r).absent.length

/-- PHASE_RETIRE as it is taken (R157). DEDUCED (log 41). -/
def phaseRetireBody (s : State) (f : Flight) (d : List Byte) : State :=
  let r := dTarget d / 256 % 65536
  let l := dTarget d % 256
  match carrier s r l with
  | none => complete s f 0x0008 0
  | some p =>
    if (lowestSpare s r).isNone && decide (availFor s r - 1 < getPc s (Reg.RAIL_CFG.PH_MIN r)) then complete s f 0x000F 0
    else complete (retirePort s r p 6) f 0 0

def phaseRetire (s : State) : State :=
  runDesc s (fun d => dOp d == 0x22) .taken
    (fun s d => { target := decide (dTarget d / 2 ^ 24 = 5) && validUnit s (dTarget d) }) phaseRetireBody

def execPhaseRetire (s : State) : Host.Outcome State Fault Refusal := finish (phaseRetire s)

/-- A write of RAILr_FLT: clearing all of [4:0] takes a FAULTED rail to OFF (R154). -/
def fltWritten (s : State) (r : Nat) : State :=
  if (rail s r).st == .faulted && railFlt s r % 32 == 0 then modRail s r (fun x => { x with st := .off }) else s

/-- A write that changes RAILr_CFG.SRC: the target of a rail that is UP moves at VFS_CFG.SLEW (R142). -/
def srcWritten (old s : State) (r : Nat) : State :=
  if railSrc old r != railSrc s r && (rail s r).st == .up then
    lowerAll (modRail s r (fun x => { x with
      srcMove := true, tgt := 500 * railTarget old r, vset := if railSrc s r then vsetGoal s r else x.vset
      vset0 := if railSrc s r then vsetWith s r 0 else x.vset0 }))
  else s

/-- VSEL_CHANGE (R141, R142): the filtered value selects other stored values. -/
def vselChange (v : Nat) (s : State) : State :=
  let s := { s with pins.vsel := v }
  if pcRuns s then lowerAll s else s

def execVselChange (vsel : BitVec 3) (s : State) : Host.Outcome State Fault Refusal := finish (vselChange vsel.toNat s)

end Sys2Proof.Machine
end

