-- ==== Sys2Proof/Machine/BoardBus.lean ====
section
/-! DEFINITION. The two board buses (R55 to R58), whose transactions are a duty of the power core (R350): the transactions and formats
of the PMBus controller, the set-up of the I3C targets, and the rows of both. -/

namespace Sys2Proof.Machine

/-! ## PMBus (R55, R56) -/

/-- The command codes, as PMBus 1.3, which R55 names, gives them. PRESUMED (log 77). -/
def pmbCode : PmbCmd → Nat
  | .page => 0x00 | .operation => 0x01 | .onOffConfig => 0x02 | .clearFaults => 0x03 | .voutMode => 0x20 | .voutCommand => 0x21
  | .voutMax => 0x24 | .voutOvFaultLimit => 0x40 | .voutUvFaultLimit => 0x44 | .ioutOcFaultLimit => 0x46 | .otFaultLimit => 0x4F
  | .statusByte => 0x78 | .statusWord => 0x79 | .statusVout => 0x7A | .statusIout => 0x7B | .statusTemperature => 0x7D
  | .readVin => 0x88 | .readVout => 0x8B | .readIout => 0x8C | .readTemperature1 => 0x8D | .mfrId => 0x99 | .mfrModel => 0x9A

/-- The transactions that a command takes, as PMBus 1.3 gives them, among those of R55. PRESUMED (log 77). -/
def pmbKinds : PmbCmd → List PmbKind
  | .clearFaults => [.sendByte]
  | .page | .operation | .onOffConfig | .voutMode => [.writeByte, .readByte]
  | .voutCommand | .voutMax | .voutOvFaultLimit | .voutUvFaultLimit | .ioutOcFaultLimit | .otFaultLimit => [.writeWord, .readWord]
  | .statusByte | .statusVout | .statusIout | .statusTemperature => [.readByte]
  | .statusWord | .readVin | .readVout | .readIout | .readTemperature1 => [.readWord]
  | .mfrId | .mfrModel => [.blockRead]

/-- The transaction reads. -/
def pmbReads (k : PmbKind) : Bool := k == .readByte || k == .readWord || k == .blockRead

/-- Data bytes that a transaction writes. -/
def pmbOutLen : PmbKind → Nat
  | .writeByte => 1
  | .writeWord => 2
  | _ => 0

/-- A transaction that the controller supports: its command takes it, with the data bytes of its kind (R55). -/
def pmbTxnOk (t : PmbTxn) : Bool := (pmbKinds t.cmd).contains t.kind && t.out.length == pmbOutLen t.kind

/-- The packet error code over bytes: CRC-8 with polynomial 0x07 and initial value 0, as SMBus, over which R55 lays the transactions,
gives it. PRESUMED (log 77). -/
def pec (bs : List Byte) : Nat := bs.foldl (fun c b => (bitsMsb b.toNat 8).foldl (crcMsb 8 0x07) c) 0

/-- The bytes that FX-4 puts on the bus before a target answers: the address for writing, the command and the data, and the address for
reading where the transaction reads. PRESUMED (log 77). -/
def pmbSent (addr : Nat) (t : PmbTxn) : List Byte :=
  BitVec.ofNat 8 (2 * addr) :: BitVec.ofNat 8 (pmbCode t.cmd) :: t.out ++
    (if pmbReads t.kind then [BitVec.ofNat 8 (2 * addr + 1)] else [])

/-- What FX-4 puts on the bus for a transaction: a write ends with its PEC, and the PEC of a read is the target's (R55). -/
def pmbFrame (addr : Nat) (t : PmbTxn) : List Byte :=
  pmbSent addr t ++ (if pmbReads t.kind then [] else [BitVec.ofNat 8 (pec (pmbSent addr t))])

/-- The bytes of an answer fit the transaction: 1, 2, or a count of up to 32 and as many bytes, and the PEC (R55). -/
def pmbShape (k : PmbKind) (bs : List Byte) : Bool := match k with
  | .readByte => bs.length == 2
  | .readWord => bs.length == 3
  | .blockRead => decide (byteAt bs 0 ≤ 32) && bs.length == byteAt bs 0 + 2
  | _ => bs.isEmpty

/-- A transaction ends well: acknowledged, and a read with a good PEC, which is required on every response (R55, R56). -/
def pmbGood (addr : Nat) (t : PmbTxn) : PmbEnd → Bool
  | .answer bs => pmbShape t.kind bs && (!pmbReads t.kind || pec (pmbSent addr t ++ bs.dropLast) == byteAt bs (bs.length - 1))
  | _ => false

/-- The data of an answer, without count and PEC. -/
def pmbData (k : PmbKind) (bs : List Byte) : List Byte := if k == .blockRead then bs.dropLast.tail else bs.dropLast

/-- A Linear11 word: an 11-bit signed mantissa and a 5-bit signed exponent, as mantissa and exponent of 2 (R55).
PRESUMED (log 77). -/
def linear11 (w : Nat) : Int × Int := (toSigned 11 (w % 2048), toSigned 5 (w / 2048))

/-- A Linear16 word under VOUT_MODE in linear mode, whose low 5 bits are the exponent; none in another mode (R55).
PRESUMED (log 77). -/
def linear16 (voutMode w : Nat) : Option (Int × Int) := if voutMode / 32 = 0 then some ((w : Int), toSigned 5 voutMode) else none

/-- The format of what a command reads: Linear16 for output voltages, Linear11 for the other telemetry, as PMBus 1.3 gives it; the rest
are no numbers (R55). PRESUMED (log 77). -/
def pmbNumber (mode : Nat) (c : PmbCmd) (w : Nat) : Option (Int × Int) := match c with
  | .voutCommand | .voutMax | .voutOvFaultLimit | .voutUvFaultLimit | .readVout => linear16 mode w
  | .ioutOcFaultLimit | .otFaultLimit | .readVin | .readIout | .readTemperature1 => some (linear11 w)
  | _ => none

/-- What a transaction that ended well gives: the value of a read, in its format, and VOUT_MODE (R55). -/
def pmbTaken (s : State) (record : Nat) (t : PmbTxn) (bs : List Byte) : State :=
  let d := if pmbReads t.kind then pmbData t.kind bs else t.out
  let s := if t.cmd == .voutMode then { s with bus.voutMode := tput s.bus.voutMode record (byteAt d 0) } else s
  if pmbReads t.kind then
    { s with bus.value := some (record, t.cmd, d), bus.number := pmbNumber (tget 0 s.bus.voutMode record) t.cmd (leAt d 0 2) }
  else s

/-- PMB_ALERT_N is asserted: the SMBus alert response address is sent, and `answer` is what a target answers with (R55).
DEDUCED (log 60). -/
def pmbAlert (answer : Option Byte) (s : State) : State :=
  let s := { s with pins.pmbAlert := true }
  if released s 8 && dutyRuns s 1 && !subIn s 5 then { s with bus.alert := answer, pins.pmbAlert := false } else s

def execPmbAlert (answer : Option Byte) (s : State) : Host.Outcome State Fault Refusal := finish (pmbAlert answer s)

/-- Address of a PMBus record of the manifest, of which the controller addresses 32 (R55). -/
def pmbusAddr (s : State) (k : Nat) : Option Nat := if k < 32 then s.mf.bind (fun m => (m.pmbus[k]?).map (·.1)) else none

/-- A second failure marks the target faulted and raises an event (R56). -/
def pmbFaulted (s : State) (record addr : Nat) : State :=
  raiseEvent { s with bus.again := none, bus.faulted := s.bus.faulted ++ [record] } 0x0C 1 (hubUnit s)
    (leBytes 1 record ++ leBytes 1 addr)

/-- A PMBus transaction ends as failed (R56): it will be retried once; the failure of the retry marks the target faulted. A
write that failed after the target acknowledged the data byte is reported as failed and not repeated. The controller carries out one
transaction at a time, so that a failure of any but the one that was sent again says that that one ended well. DEDUCED (log 60). -/
def pmbusFail (record : Nat) (failed : PmbFail) (s : State) : State :=
  match pmbusAddr s record with
  | none => s
  | some a =>
    if !pmbTxnOk failed.txn then s
    else if s.bus.again = some (record, failed.txn) then pmbFaulted s record a
    else if failed.acked && !pmbReads failed.txn.kind then
      { s with bus.again := none, bus.failed := s.bus.failed ++ [(record, failed.txn)] }
    else { s with bus.again := none, bus.retry := tput s.bus.retry record ⟨failed.txn, s.now⟩ }

def execPmbusTransactionFail (record : Nat) (failed : PmbFail) (s : State) : Host.Outcome State Fault Refusal :=
  finish (pmbusFail record failed s)

/-- The power core's duties are carried and the controllers are not in reset, so that the buses work (R350, R399). -/
def busWorks (s : State) : Bool := dutyRuns s 1 && !subIn s 5

/-- What the retry of a transaction gives: nothing yet, the value of a read, or its failure. DEDUCED (log 60). -/
def pmbRetried (s : State) (record addr : Nat) (t : PmbTxn) : Option PmbEnd → State
  | none => { s with bus.again := some (record, t) }
  | some (.answer bs) => if pmbGood addr t (.answer bs) then pmbTaken s record t bs else pmbFaulted s record addr
  | some _ => pmbFaulted s record addr

/-- 1 ms after the failure, the transaction is sent again; `res` says how it ends, where it ends with it (R56). While no core carries
the power core's duties it waits (R350). DEDUCED (log 60). -/
def pmbusRetry (record : Nat) (res : Option PmbEnd) (s : State) : State :=
  match s.bus.retry.find? (·.1 == record) with
  | none => s
  | some (_, w) =>
    if busWorks s then
      let s := advanceTo s (w.failedAt + ms 1)
      let a := (pmbusAddr s record).getD 0
      pmbRetried { s with bus.retry := tdel s.bus.retry record, bus.again := none, bus.sent := pmbFrame a w.txn } record a w.txn res
    else s

def execPmbusRetry (record : Nat) (res : Option PmbEnd) (s : State) : Host.Outcome State Fault Refusal := finish (pmbusRetry record res s)

/-- The transactions in progress end as failed: one that waits for its retry is sent again later, and the failure of a retry that has
been sent marks its target (R56, R361, R399). DEDUCED (log 31). -/
def busGap (s : State) : State :=
  match s.bus.again with
  | some (k, _) => pmbFaulted s k ((pmbusAddr s k).getD 0)
  | none => s

/-! ## I3C (R57, R58) -/

/-- The CCCs that FX-4 sends (R57). -/
inductive Ccc where
  | enec | disec | rstdaa | setdasa
  | setmwl (n : Nat)
  | setmrl (n : Nat)
  | getstatus (v : Nat)
  | getpid | getbcr | getdcr
deriving DecidableEq, Repr

/-- What a CCC does to a target's set-up. GETPID, GETBCR and GETDCR only read (R58). No rule says when DISEC is sent, and the model
sends it nowhere. DESIGN CHOICE (log 87). -/
def cccTarget (c : Ccc) (x : I3cTarget) : I3cTarget := match c with
  | .enec => { x with events := true }
  | .disec => { x with events := false }
  | .rstdaa => { x with addressed := false }
  | .setdasa => { x with addressed := true }
  | .setmwl n => { x with mwl := some n }
  | .setmrl n => { x with mrl := some n }
  | .getstatus v => { x with status := some v }
  | .getpid | .getbcr | .getdcr => x

def i3cTarget (s : State) (k : Nat) : I3cTarget := tget {} s.bus.i3c k

/-- Sends a CCC to the target of a record. -/
def sendCcc (c : Ccc) (k : Nat) (s : State) : State := { s with bus.i3c := tset {} s.bus.i3c k (cccTarget c (i3cTarget s k)) }

/-- The record is a legacy I2C target, which takes no CCC (R57). -/
def legacyI2c (r : List Nat) : Bool := bitAt (r.getD 1 0) 0

/-- The record says that the target's in-band interrupts are accepted (R57). -/
def ibiNamed (r : List Nat) : Bool := bitAt (r.getD 1 0) 1

/-- The target of a record is set up: SETDASA from its static address, and ENEC where the manifest accepts its interrupts. -/
def setupTarget (s : State) (k : Nat) (r : List Nat) : State :=
  if legacyI2c r then s
  else
    let s := sendCcc .setdasa k s
    if ibiNamed r then sendCcc .enec k s else s

/-- Every target that the manifest names and that is not absent is set up, after RSTDAA (R57, R399). No other target is ever given an
address (R58). DEDUCED (log 60). -/
def setupTargets (s : State) (m : Manifest) : State :=
  m.i3c.zipIdx.foldl (fun s p => if s.bus.absent.contains p.2 then s else setupTarget s p.2 p.1) { s with bus.i3c := [] }

/-- The targets are set up anew after a reset of the controllers, once the power core's duties are carried (R350, R399). -/
def setupAgain (s : State) : State := match s.mf with
  | some m => if s.bus.setupDue && dutyRuns s 1 then setupTargets { s with bus.setupDue := false } m else s
  | none => s

/-- A target fails the check of R58: it does not acknowledge its address, or its PID, BCR or DCR is not the manifest's. A legacy I2C
target has none of them to read. DEDUCED (log 29). -/
def i3cFails (r : List Nat) : Option I3cId → Bool
  | none => true
  | some x => !legacyI2c r && (x.pid != r.getD 2 0 || x.bcr != r.getD 3 0 || x.dcr != r.getD 4 0)

/-- A target is marked absent, with an event (R58); one that is absent already stays so. -/
def i3cAbsent (s : State) (k addr : Nat) : State :=
  if s.bus.absent.contains k then s
  else raiseEvent { s with bus.absent := s.bus.absent ++ [k], bus.i3c := tdel s.bus.i3c k } 0x0C 2 (hubUnit s) (leBytes 1 k ++ leBytes 1 addr)

/-- Static address of an I3C record of the manifest. -/
def i3cAddr (m : Manifest) (k : Nat) : Nat := ((m.i3c[k]?).bind (·.head?)).getD 0

/-- An in-band interrupt is accepted from a target whose record says so and whose events are enabled, with up to 4 payload bytes (R57).
DEDUCED (log 60). -/
def i3cIbi (record : Nat) (payload : List Byte) (s : State) : State :=
  match s.mf.bind (fun m => m.i3c[record]?) with
  | some r =>
    if ibiNamed r && (i3cTarget s record).events && busWorks s then { s with bus.ibi := some (record, payload.take 4) } else s
  | none => s

def execI3cIbi (record : Nat) (payload : List Byte) (s : State) : Host.Outcome State Fault Refusal := finish (i3cIbi record payload s)

end Sys2Proof.Machine
end

