-- ==== Sys2Proof/Machine/ThermalOps.lean ====
section
/-! DEFINITION. Temperatures: conversion, references, covers, limits and time-to-limit (R227, R236, R239 to R247). -/

namespace Sys2Proof.Machine

def sns (s : State) (n : Nat) : Sns := tget {} s.th.sns n
def setSns (s : State) (n : Nat) (x : Sns) : State := { s with th.sns := tset {} s.th.sns n x }
def thNode (s : State) (n : Nat) : ThNode := tget {} s.th.nodes n

/-- A committed fuse word (R403, R405). -/
def fuse (s : State) (w : Nat) : Nat := tget 0 s.rs.fuses w % 2 ^ 26

/-- The tile agent of a sensor; none for a hub sensor (R14, R226). -/
def snsTile (n : Nat) : Option Nat := if n < 1024 then some (n / 8) else none

/-- The fuse region of a sensor (R405): its tile agent, or 128 for the hub. -/
def snsRegion (n : Nat) : Nat := (snsTile n).getD 128

/-- NREF of a channel (R406). -/
def snsNref (s : State) (n c : Nat) : Nat := bitsAt (fuse s (386 + 2 * n + c)) 0 16

/-- C0 of a channel (R406). -/
def snsC0 (s : State) (n c : Nat) : Int :=
  toSigned 16 (fuse s (129 + 2 * snsRegion n)) + toSigned 10 (bitsAt (fuse s (386 + 2 * n + c)) 16 10)

/-- Temperature of a count on a channel with an offset (R227). -/
def snsConvert (s : State) (n c : Nat) (ofs : Int) (count : Nat) : Int :=
  let g := toSigned 16 (fuse s (128 + 2 * snsRegion n))
  clampInt (-1024) 4095 (snsC0 s n c + ofs + (((count : Int) - snsNref s n c) * g).fdiv 4096)

/-- The fuse window of the first hard check (R406). -/
def inWindow (s : State) (n c count : Nat) : Bool :=
  let w := bitsAt (fuse s 59) 0 16
  decide (snsNref s n c ≤ count + w) && decide (count ≤ snsNref s n c + w)

/-- The hard checks of R239 against the previous sample. -/
def hardOk (s : State) (n : Nat) (x : Sns) (count : Nat) (t : Int) : Bool :=
  inWindow s n x.chan count && decide (-640 ≤ t) && decide (t ≤ 2400) &&
    (!x.has || x.new || decide ((t - x.val).natAbs ≤ getF s Reg.TH_XCHK.JUMP_C))

/-- The sensor's tile agent is in a reset, or LOST, and it has no current sample (R241). -/
def snsInReset (s : State) (n : Nat) : Bool := match snsTile n with
  | some t => !tileRuns s t
  | none => false
def snsCurrent (s : State) (n : Nat) : Bool := match snsTile n with
  | some t => tileRuns s t && !(tile s t).lost
  | none => true

/-- A sensor that may serve as a neighbour or a cover. DEDUCED (log 49). -/
def snsServes (s : State) (n : Nat) : Bool := (sns s n).st == .trusted && snsCurrent s n

/-- The node that names a sensor. -/
def snsNode (s : State) (n : Nat) : Option Nat := match s.th.model with
  | some m => m.nodes.findIdx? (·.sensor == n)
  | none => none

/-- Neighbours that the manifest lists for a sensor. -/
def snsNbs (s : State) (n : Nat) : List Nat := match s.mf with
  | some m => (tget ({} : MfSns) m.snss n).nbs
  | none => []

/-- Inserts into an ascending list. -/
def insertInt (v : Int) : List Int → List Int
  | [] => [v]
  | a :: l => if v ≤ a then v :: a :: l else a :: insertInt v l

/-- The median; for an even number, the lower of the two middle values (R240). -/
def median (l : List Int) : Option Int := (l.foldl (fun a v => insertInt v a) [])[(l.length - 1) / 2]?

/-- The neighbour reference (R240). -/
def nbRef (s : State) (n : Nat) : Option Int :=
  median (((snsNbs s n).filter (snsServes s)).map (fun k => (sns s k).val))

/-- The highest value of some sensors. -/
def hottest (s : State) (l : List Nat) : Option Int := l.foldl (fun m k => match m with
  | none => some (sns s k).val
  | some v => some (max v (sns s k).val)) none

def thSet (s : State) (k : Nat) (f : Nat → Fld) : Int := getF s (f k)

/-- The cover of a sensor (R241). -/
def snsCover (s : State) (n : Nat) : Int :=
  let node := if obsValid s then (snsNode s n).map (fun k => nodeTemp (thNode s k)) else none
  match node with
  | some v => v
  | none => match hottest s ((snsNbs s n).filter (snsServes s)) with
    | some v => v
    | none => match hottest s ((mfSns s).filter (fun k => k != n && snsTile k == snsTile n && snsServes s k)) with
      | some v => v
      | none => thSet s (snsSet s n) Reg.TH_LS_A.T_THR

/-- The value used for limits (R241, R242, R398). -/
def snsUsed (s : State) (n : Nat) : Int :=
  let x := sns s n
  match x.st with
  | .unsized => if snsInReset s n then snsCover s n else x.used
  | .trusted => if snsInReset s n then snsCover s n else x.val
  | .suspect => if snsInReset s n then snsCover s n else max x.val (snsCover s n)
  | _ => if flagOn s Reg.TH_CFG.LEGACY then thSet s (snsSet s n) Reg.TH_LS_A.T_THR else snsCover s n

/-- Forms the value used of every sensor. -/
def formUsed (s : State) : State := (mfSns s).foldl (fun s n => setSns s n { sns s n with used := snsUsed s n }) s

/-! ## Positions (R244) -/

/-- A position: its number (node n as 4096 + n), value in 0.0625 °C scaled by 8, rate in 1/512 °C/ms, limit set, and region. -/
structure Pos where
  id : Nat
  t : Int
  rate : Int
  set : Nat
  region : Option Nat

/-- The position of a sensor, whatever its state, with the rate of its own samples (R236, R246); before Sizing it has no value used. -/
def snsPos (s : State) (n : Nat) : Pos :=
  let x := sns s n
  ⟨n, 8 * x.used, if x.st == .unsized then 0 else 8 * x.rate, snsSet s n, snsTile n⟩

def nodePos (s : State) (p : Nat × NodeDef) : Pos :=
  let x := thNode s p.1
  ⟨4096 + p.1, x.t, x.rate, p.2.set, if p.2.psrc / 4096 = 1 then some (p.2.psrc % 4096) else none⟩

/-- Every position there is: sized sensors, and HOT nodes of a valid observer. -/
def positions (s : State) : List Pos :=
  (((mfSns s).filter (fun n => (sns s n).st != .unsized)).map (snsPos s)) ++ (hotNodes s).map (nodePos s)

/-- Time-to-limit of a position, µs (R236). -/
def posTau (s : State) (p : Pos) : Nat :=
  if p.rate ≤ 0 then 65535
  else (clampInt 0 65534 ((8 * thSet s p.set Reg.TH_LS_B.T_LIM - p.t) * 4000 / p.rate)).toNat

/-- TH_TAU: the least time-to-limit and its position (R236). DEDUCED (log 50). -/
def formTau (s : State) : State :=
  let ps := (((mfSns s).filter (fun n => (sns s n).st == .trusted || (sns s n).st == .suspect)).map (snsPos s)) ++
    (hotNodes s).map (nodePos s)
  let (tau, id) := ps.foldl (fun m p => if posTau s p < m.1 then (posTau s p, p.id) else m) (65535, 0)
  setF (setF (setF s Reg.TH_TAU.TAU_US tau) Reg.TH_TAU.POS (id % 4096)) Reg.TH_TAU.KIND (id / 4096)

/-- UNIT of a position: the sensor, or the hub for a node. -/
def posUnit (s : State) (id : Nat) : Nat := if id < 4096 then snsUnit id else hubUnit s

/-- A warning is raised once until the position has fallen below T_WARN - HYST (R245). -/
def posWarned (s : State) (id : Nat) : Bool := if id < 4096 then (sns s id).warned else (thNode s (id - 4096)).warned

def setWarned (s : State) (id : Nat) (b : Bool) : State :=
  if id < 4096 then setSns s id { sns s id with warned := b }
  else { s with th.nodes := tset {} s.th.nodes (id - 4096) { thNode s (id - 4096) with warned := b } }

def warnPos (s : State) (p : Pos) : State :=
  let w := 8 * thSet s p.set Reg.TH_LS_A.T_WARN
  if w ≤ p.t then
    if posWarned s p.id then s
    else
      let s := incSat (setF (setWarned s p.id true) Reg.TH_ERR.WARN 1) Reg.TH_CNT0.WARNS
      thEvent s 1 (posUnit s p.id) (p.t.fdiv 8) 0 0
  else if p.t < w - 32 * thSet s p.set Reg.TH_LS_D.HYST then setWarned s p.id false else s

/-- The position calls a thermal ceiling (R246). -/
def posCalls (s : State) (p : Pos) : Bool :=
  decide (8 * thSet s p.set Reg.TH_LS_A.T_THR ≤ p.t) || decide (8 * thSet s p.set Reg.TH_LS_D.R_THR ≤ p.rate)

/-- The position has cooled so that a ceiling it called may lift (R246). -/
def posCool (s : State) (p : Pos) : Bool :=
  decide (p.t < 8 * (thSet s p.set Reg.TH_LS_A.T_THR - 4 * thSet s p.set Reg.TH_LS_D.HYST)) &&
    decide (2 * p.rate < 8 * thSet s p.set Reg.TH_LS_D.R_THR)

def thCeil (s : State) (t : Nat) : ThCeil := tget {} s.th.ceils t
def setThCeil (s : State) (t : Nat) (c : ThCeil) : State := { s with th.ceils := tset {} s.th.ceils t c }

/-- A position calls a ceiling at one tile agent: applied with its count and event, or joined by a further caller.
DEDUCED (log 50). -/
def ceilOne (s : State) (p : Pos) (t : Nat) : State :=
  let c := thCeil s t
  let k := getF s (Reg.TH_LS_D.THR_LEVEL p.set) + 1
  if c.callers.isEmpty then
    let s := incSat (setThCeil s t ⟨k, s.now, [p.id]⟩) Reg.TH_CNT0.THROTTLES
    thEvent s 2 (tileUnit t) (p.t.fdiv 8) 0 0
  else setThCeil s t { c with level := min c.level k, callers := if c.callers.contains p.id then c.callers else c.callers ++ [p.id] }

/-- A position calls a ceiling in its region. DEDUCED (log 50). -/
def ceilPos (s : State) (p : Pos) : State :=
  if posCalls s p then match p.region with
    | some t => ceilOne s p t
    | none => (mfTiles s).foldl (fun s t => ceilOne s p t) s
  else s

/-- The limits of every set as the hub sends them to a tile agent (R247). -/
def limsNow (s : State) : List ThLim := (List.range 4).map (fun k =>
  ⟨thSet s k Reg.TH_LS_A.T_THR, thSet s k Reg.TH_LS_C.T_TRIP, getF s (Reg.TH_LS_D.THR_LEVEL k) + 1⟩)

/-- The hub sends its limits to every tile agent that hears it (R247). -/
def sendLims (s : State) : State :=
  (mfTiles s).foldl (fun s t => if tileRuns s t && !(tile s t).orphan then modTile s t (fun x => { x with lims := limsNow s }) else s) s

/-- The value used of a sensor as its tile agent has it: its own sample, where the hub no longer gets any (R194, R247).
DEDUCED (log 50). -/
def localUsed (s : State) (t n : Nat) : Int :=
  let x := sns s n
  if !(tile s t).lost then x.used
  else match x.st with
    | .trusted => x.loc
    | .suspect => max x.loc x.used
    | _ => x.used

/-- The tile agent's own action on its own sensor (R247), by the limits it holds: the ceiling at T_THR, and the local trip at T_TRIP.
DEDUCED (log 50). -/
def localPos (s : State) (p : Pos) : State :=
  match p.region with
  | some t =>
    let x := tile s t
    match x.lims[p.set]? with
    | some l =>
      if 4096 ≤ p.id || !tileRuns s t then s
      else
        let v := localUsed s t p.id
        let x := if l.thr ≤ v then { x with localCeil := min x.localCeil l.level } else x
        let x := if l.trip ≤ v then { x with localTrip := true } else x
        setTile s t (applyLevel s x (min x.cmd x.level))
    | none => s
  | none => s

/-- Some position satisfies a limit. -/
def anyPos (ps : List Pos) (sensor : Bool) (lim : Pos → Int) : Bool :=
  ps.any (fun p => (!sensor || decide (p.id < 4096)) && decide (8 * lim p ≤ p.t))

/-- The causes of R250 that temperatures give, the highest first. -/
def thCauses (s : State) (ps : List Pos) : State :=
  let s := if anyPos ps true (fun p => thSet s p.set Reg.TH_LS_C.T_TRIP) || s.cc.tiles.any (fun p => p.2.localTrip && !p.2.lost) then
      callShutdown s 4 else s
  let s := if anyPos ps false (fun p => thSet s p.set Reg.TH_LS_B.T_LIM) then callShutdown s 3 else s
  let s := if anyPos ps true (fun p => thSet s p.set Reg.TH_LS_B.T_SD) then callShutdown s 1 else s
  let s := if anyPos (ps.filter (fun p => decide (4096 ≤ p.id))) false (fun p => thSet s p.set Reg.TH_LS_B.T_SD) then
      callShutdown s 2 else s
  if s.th.sd == .orderly && decide (getF s Reg.TH_TAU.TAU_US < 200) then callShutdown s 9 else s

/-- Limits and causes over some positions (R245 to R250). DEDUCED (log 50). -/
def applyLimits (s : State) (ps : List Pos) : State :=
  let s := ps.foldl (fun s p => ceilPos (localPos (warnPos s p) p) p) s
  lowerAll (thCauses s ps)

/-! ## Sensor states (R230, R240) -/

/-- A sensor fails in service: SNS_FAIL and its event. DEDUCED (log 49). -/
def snsFailed (s : State) (n : Nat) : State :=
  let x := sns s n
  let s := setSns s n { x with st := .failed, failedCh := orBit x.failedCh x.chan, disRun := 0, agreeRun := 0 }
  thEvent (setF s Reg.TH_ERR.SNS_FAIL 1) 4 (snsUnit n) x.val 0 0

/-- The spare channel is brought in for a FAILED sensor, or it is ABSENT (R230, R240, R413). -/
def snsSpare (s : State) (n : Nat) : State :=
  let x := sns s n
  if x.spareOk then
    let s := setSns s n { x with
      st := .trimming, chan := 1, spareOk := false, ofs := 0, new := true, trimN := 0, trimRefs := 0, trimSum := 0, fresh := false }
    spareEvent s 3 (snsUnit n) 3
  else spareEvent (setSns s n { x with st := .absent }) 4 (snsUnit n) 3

/-- The spare channel fails its trim (R230). -/
def trimFailed (s : State) (n : Nat) : State :=
  let x := sns s n
  spareEvent (setSns s n { x with st := .absent, failedCh := orBit x.failedCh 1 }) 4 (snsUnit n) 3

/-- The rate of a sensor, whatever its state: its value less its value 5 samples earlier, over 0.1 ms (R236). -/
def withRate (x : Sns) : Sns :=
  { x with rate := if x.hist.length = 5 then clampInt (-32768) 32767 ((x.val - x.hist.getD 4 x.val) * 40) else 0 }

/-- Takes a converted value into a sensor, with its rate (R236). DEDUCED (log 49). -/
def takeVal (x : Sns) (t : Int) : Sns :=
  withRate { x with val := t, has := true, hist := if x.has then (x.val :: x.hist).take 5 else [], fresh := true, new := false }

end Sys2Proof.Machine
end

