-- ==== Sys2Proof/Machine/Thermal.lean ====
section
/-! DEFINITION. The rows of the thermal chapter: sample windows, Sizing, the observer, coolant and cycle counting
(R226 to R263). -/

namespace Sys2Proof.Machine

/-! ## The observer (R231 to R238) -/

/-- The nodes of the loaded model with their indices. -/
def modelNodes (s : State) : List (Nat × NodeDef) := match s.th.model with
  | some m => (List.range m.nodes.length).zip m.nodes
  | none => []

/-- The observer begins to settle, or ends (R233). -/
def setSettling (s : State) (b : Bool) : State :=
  setF { s with th.settling := b, th.solves := 0 } Reg.TH_OBS_STATUS.SETTLING (b2n b)

/-- Every node is initialised, and the observer settles (R233). -/
def initNodes (s : State) : State :=
  let hot := 8 * maxUsed s
  let nodes := (modelNodes s).foldl (fun l p =>
    let x := sns s p.2.sensor
    tset ({} : ThNode) l p.1 { t := if x.st == .trusted then 8 * x.val else hot }) []
  setSettling { bumpFree s with th.nodes := nodes } true

/-- Residual of a sensor's value against a temperature in Q1.15 of 256 °C (R234). -/
def residOf (v t : Int) : Int := sat16 (8 * v - t)

/-- P of a node in Q1.15 of 4,096 W (R234): the cluster's or the rail's power, in 7.8125 µW and then in steps of 0.125 W. -/
def nodePower (s : State) (psrc : Nat) : Int :=
  let k := psrc % 4096
  let p : Int := if psrc / 4096 = 1 then (rail s (mfTile s k).rail).vsns * (tile s k).hH * 4
    else if psrc / 4096 = 2 then (if (rail s k).st == .up then (rail s k).power else 0) else 0
  clampInt (-32768) 32767 (roundEven p 16000)

/-- F of R235. -/
def flowF (s : State) : Int :=
  if getF s Reg.TH_FLOW_NOM.NOM_FLOW = 0 then 32767
  else if flagOn s Reg.TH_FLOW_STATUS.LOST then min 32767 ((getF s Reg.TH_FLOW.MIN_PCT * 32768 / 100 : Nat) : Int)
  else s.th.f

/-- T_COOL in 0.0625 °C (R259). DEDUCED (log 51). -/
def coolT (s : State) : Int := s.th.cool.getD (getF s Reg.TH_FLOW_NOM.DEF_COOL)

/-- The update of one node before correction (R234): its new temperature, and whether the writeback or the accumulator saturated.
DEDUCED (log 51). -/
def solveNode (s : State) (f cool : Int) (i : Nat) (n : NodeDef) : Int × Bool :=
  let t := (thNode s i).t
  let add := fun (a : Int × Bool) (d : Int) => let r := accAdd a.1 d; (r.1, a.2 || r.2)
  let acc := (n.nbs.zip n.as).foldl (fun a p => if p.1 = 0xFFFF then a else add a (p.2 * sat16 ((thNode s p.1).t - t))) (t * 32768, false)
  let acc := add acc (n.b * nodePower s n.psrc)
  let acc := add acc ((wbVal (n.c * f)).1 * sat16 (8 * cool - t))
  let r := wbVal acc.1
  (r.1, acc.2 || r.2)

/-- A node takes its new temperature: history, rate and time-to-limit (R236). -/
def takeNode (s : State) (i : Nat) (n : NodeDef) (t : Int) : State :=
  let x := thNode s i
  let rate := if x.hist.length < 9 then 0 else clampInt (-32768) 32767 ((t - (x.t :: x.hist).getD 9 t) * 40)
  let y := { x with t := t, hist := (x.t :: x.hist).take 9, rate := rate }
  { s with th.nodes := tset {} s.th.nodes i { y with
    tau := if n.hot && obsValid s then posTau s (⟨4096 + i, t, rate, n.set, none⟩ : Pos) else 0xFFFF } }

/-- More than a quarter of some residuals lie above XC_OBS_C (R237). -/
def diverges (s : State) (es : List Int) : Bool :=
  decide (es.length < 4 * (es.filter (fun e => decide (8 * getF s Reg.TH_XCHK.XC_OBS_C < e.natAbs))).length)

/-- Divergence (R237). -/
def diverged (s : State) : State :=
  let s := incSat (setF (initNodes s) Reg.TH_ERR.OBS_DIVERGE 1) Reg.TH_OBS_STATUS.DIVERGES
  thEvent s 7 (hubUnit s) (maxUsed s) 0 0

/-- Limits of the HOT nodes after a solve (R236, R245, R246, R250). -/
def nodeLimits (s : State) : State := applyLimits (formTau s) ((hotNodes s).map (nodePos s))

/-- How a sample stands against its neighbour reference, where it has one (R240). -/
def nbAgrees (s : State) (n : Nat) : Option Bool :=
  (nbRef s n).map (fun v => decide (((sns s n).val - v).natAbs ≤ getF s Reg.TH_XCHK.XC_NB_C))

/-- How it stands against the observer, by the residual of R234, where a node of a valid observer names the sensor (R240). -/
def obsAgrees (s : State) (obs : Bool) (n : Nat) : Option Bool :=
  if obs && (snsNode s n).isSome then some (decide ((sns s n).resid.natAbs ≤ 8 * getF s Reg.TH_XCHK.XC_OBS_C)) else none

/-- Agreement, disagreement, or no reference (R240). -/
def verdict (o b : Option Bool) : Option Bool := match o, b with
  | none, none => none
  | _, _ => some (o == some true || b == some true)

/-- The cross-check transitions of one sensor (R240). DEDUCED (log 49). -/
def transition (s : State) (n : Nat) (j : Option Bool) : State :=
  let x := sns s n
  let k := getF s Reg.TH_XCHK.XC_COUNT
  match (if x.st == .trusted || x.st == .suspect then j else none) with
  | none => s
  | some true =>
    let y := { x with agreeRun := x.agreeRun + 1, disRun := 0 }
    setSns s n (if x.st == .suspect && decide (k ≤ y.agreeRun) then { y with st := .trusted, agreeRun := 0 } else y)
  | some false =>
    let y := { x with disRun := x.disRun + 1, agreeRun := 0 }
    if x.st == .trusted && decide (k ≤ y.disRun) then
      thEvent (setF (setSns s n { y with st := .suspect, disRun := 0 }) Reg.TH_ERR.SNS_SUSPECT 1) 3 (snsUnit n) x.val 0 0
    else if x.st == .suspect && decide (8 * k ≤ y.disRun) then snsSpare (snsFailed (setSns s n y) n) n
    else setSns s n y

/-- The samples that wait are judged, and the transitions of the cross-check follow (R240). DEDUCED (log 49, 51). -/
def judgeAll (s : State) (obs : Bool) : State :=
  (s.th.judge.map (fun p => (p.1, verdict (obsAgrees s obs p.1) p.2))).foldl (fun s p => transition s p.1 p.2) { s with th.judge := [] }

/-- Limits of the sized sensors. -/
def snsLimits (s : State) : State := applyLimits s (((mfSns s).filter (fun n => (sns s n).st != .unsized)).map (snsPos s))

/-- The residuals of a solve (R234): the sensor, the residual, and whether it corrects its node, for each node whose sensor is TRUSTED or
SUSPECT and has a sample that no solve has taken. -/
def solveResids (s : State) (new : List ((Nat × NodeDef) × Int × Bool)) : List (Nat × Int × Bool) :=
  (new.filter (fun q =>
    let x := sns s q.1.2.sensor
    (x.st == .trusted || x.st == .suspect) && snsCurrent s q.1.2.sensor && x.fresh)).map (fun q =>
      let x := sns s q.1.2.sensor
      (q.1.2.sensor, residOf x.val q.2.1, x.st == .trusted))

/-- One solve (R234 to R237): the samples it takes are judged by their residuals, unless the observer has diverged, when they are judged
without it. DEDUCED (log 51). -/
def solve (s : State) : State :=
  let valid := obsValid s
  let f := flowF s
  let cool := coolT s
  let new := (modelNodes s).map (fun p => (p, solveNode s f cool p.1 p.2))
  let all := solveResids s new
  let es := all.filter (·.2.2)
  let fixed := new.map (fun q =>
    match es.find? (·.1 == q.1.2.sensor) with
    | some e => (q.1, let r := wbVal (q.2.1 * 32768 + q.1.2.l * e.2.1); (r.1, q.2.2 || r.2))
    | none => q)
  let bad := valid && diverges s (es.map (·.2.1))
  let s := all.foldl (fun s e => setSns s e.1 { sns s e.1 with resid := e.2.1, fresh := false }) s
  let s := fixed.foldl (fun s q => takeNode s q.1.1 q.1.2 q.2.1) s
  let s := if fixed.any (·.2.2) then setF s Reg.BE_ARITH.WB_SAT 1 else s
  let s := if bad then diverged s else { s with th.solves := s.th.solves + 1 }
  let due := !s.th.judge.isEmpty
  let s := judgeAll s (valid && !bad)
  let s := if due then snsLimits (formTau (formUsed s)) else s
  if bad then s else nodeLimits s

/-- OBSERVER_SOLVE (R234): 10 µs after the last, while a model is loaded and OBS_EN = 1. -/
def execObserverSolve (s : State) : Host.Outcome State Fault Refusal :=
  finish (if released s 6 && s.th.model.isSome && flagOn s Reg.TH_CFG.OBS_EN then
    let s := advanceTo s (s.th.solveAt + us 10)
    solve { s with th.solveAt := s.now } else s)

/-- OBSERVER_SETTLED (R233). -/
def execObserverSettled (s : State) : Host.Outcome State Fault Refusal :=
  finish (if s.th.settling && decide (100 ≤ s.th.solves) then setSettling s false else s)

/-- An entry of a model (R231). -/
def parseNode (bs : List Byte) (o : Nat) : NodeDef :=
  { nbs := (List.range 5).map (fun k => leAt bs (o + 2 * k) 2)
    as := (List.range 5).map (fun k => toSigned 16 (leAt bs (o + 10 + 2 * k) 2))
    psrc := leAt bs (o + 20) 2, b := toSigned 16 (leAt bs (o + 22) 2), c := toSigned 16 (leAt bs (o + 24) 2)
    sensor := leAt bs (o + 26) 2, l := toSigned 16 (leAt bs (o + 28) 2), set := byteAt bs (o + 30) % 4, hot := bitAt (byteAt bs (o + 30)) 7 }

def parseModel (bs : List Byte) : ThModel :=
  ⟨leAt bs 8 4, (List.range (leAt bs 6 2)).map (fun k => parseNode bs (64 + 32 * k))⟩

/-- PSRC names a class that is not reserved, and a unit of the manifest (check 5 of R232). -/
def psrcOk (s : State) (p : Nat) : Bool := match p / 4096 with
  | 0 => true
  | 1 => (mfTile s (p % 4096)).present
  | 2 => (mfRail s (p % 4096)).isSome
  | _ => false

/-- The first failing check of R232. -/
def modelCheck (s : State) (bs : List Byte) : Nat :=
  let m := parseModel bs
  let n := leAt bs 6 2
  if leAt bs 0 4 ≠ 0x4D4F4442 ∨ leAt bs 4 2 ≠ 1 ∨ n = 0 ∨ 2048 < n then 1
  else if crc32 (bs.drop 64) ≠ leAt bs 12 4 then 2
  else if !allZero bs 16 48 || !(List.range n).all (fun k =>
      byteAt bs (64 + 32 * k + 31) == 0 && byteAt bs (64 + 32 * k + 30) / 4 % 32 == 0) then 3
  else if !((List.range n).zip m.nodes).all (fun p => p.2.nbs.all (fun b => b == 0xFFFF || (decide (b < n) && b != p.1))) then 4
  else if !m.nodes.all (fun x => psrcOk s x.psrc) then 5
  else if !((List.range n).zip m.nodes).all (fun p => p.2.sensor == 0xFFFF ||
      ((mfSns s).contains p.2.sensor && !(m.nodes.take p.1).any (·.sensor == p.2.sensor))) then 6
  else if !m.nodes.all (fun x => x.as.all (fun a => decide (0 ≤ a)) && decide (0 ≤ x.b) && decide (0 ≤ x.c) && decide (0 ≤ x.l) &&
      decide (x.as.foldl (· + ·) x.c ≤ 0x7FFF)) then 7
  else 0

def obsLoadBody (mem : MemRead) (s : State) (f : Flight) (d : List Byte) : State :=
  match mem with
  | .fail st => readFail s f (leAt d 8 8) (leAt d 16 4) 0 st.toNat
  | .data bs corr =>
    let s := readDone corr s f (leAt d 8 8) (leAt d 16 4) 0
    let bs := bs.take (leAt d 16 4)
    if 64 + 32 * leAt bs 6 2 ≠ leAt d 16 4 then complete s f 0x0012 0
    else
      let k := modelCheck s bs
      if k ≠ 0 then complete (setF s Reg.TH_OBS_STATUS.REJECT k) f 0x0012 k
      else
        let s := match s.th.pend with
          | some (_, key) => completeKey s key 0x0013 0
          | none => s
        setJob { s with th.pend := some (parseModel bs, f.key) } f .obsLoad

/-- OBSERVER_LOAD (R232, R233). -/
def execObserverLoad (mem : MemRead) (s : State) : Host.Outcome State Fault Refusal :=
  finish (runRead s (fun d => dOp d == 0x40) .obsLoad (fun _ d => loadSpec true d) (fun s _ => !readOpen s 0) (obsLoadBody mem))

/-- OBSERVER_SWITCH (R233): at a solve boundary the accepted model replaces the loaded one. DEDUCED (log 51). -/
def switchModel (s : State) : State := match s.th.pend with
  | some (m, key) =>
    if released s 6 then
      let s := initNodes { s with th.model := some m, th.pend := none }
      let s := setF (setF (setF s Reg.TH_OBS_STATUS.NODES m.nodes.length) Reg.TH_OBS_STATUS.LOADED 1) Reg.TH_MODEL_ID.ID m.id
      completeKey s key 0 0
    else s
  | none => s

def execObserverSwitch (s : State) : Host.Outcome State Fault Refusal := finish (switchModel s)

/-- What follows a write of TH_CFG: OBS_EN from 0 to 1 with a model loaded (R233), and LEGACY from 0 to 1 (R242). -/
def thCfgWritten (old s : State) : State :=
  let s := if !flagOn old Reg.TH_CFG.OBS_EN && flagOn s Reg.TH_CFG.OBS_EN && s.th.model.isSome then
      initNodes { s with th.solveAt := s.now } else s
  if flagOn s Reg.TH_CFG.LEGACY && !flagOn old Reg.TH_CFG.LEGACY then
    { s with th.judge := [], th.sns := s.th.sns.map (fun (p : Nat × Sns) =>
        (p.1, if p.2.st == .suspect then { p.2 with st := .trusted, disRun := 0, agreeRun := 0 } else p.2)) }
  else s

/-! ## Sample windows (R226, R230, R239 to R250) -/

/-- Every sensor of the build. -/
def allSns (s : State) : List Nat := List.range (8 * s.build.tiles) ++ (List.range 32).map (· + 1024)

/-- A sensor fails Sizing (R228). -/
def sizingSample (s : State) (n : Nat) (count : Nat) (t : Int) : State :=
  let x := sns s n
  if !hardOk s n x count t then snsFailed (setSns s n (takeVal x t)) n
  else setSns s n { takeVal x t with sum := x.sum + t }

/-- The first stage of a window: conversion and the hard checks (R239, R240). VALUE is T whatever the checks and the state say (R227).
DEDUCED (log 49). -/
def sampleOne (s : State) (n count : Nat) : State :=
  let x := sns s n
  let t := snsConvert s n x.chan x.ofs count
  match x.st with
  | .unsized =>
    if s.th.sizing.on && decide (s.th.sizing.n < 64) && (mfSns s).contains n then sizingSample s n count t else setSns s n (takeVal x t)
  | .trusted | .suspect =>
    let s := setSns s n (takeVal x t)
    if hardOk s n x count t then s else snsSpare (snsFailed s n) n
  | .trimming => s
  | _ => setSns s n (takeVal x t)

/-- Every sample is held at the sensor's tile agent (R226). -/
def holdLocal (s : State) (n count : Nat) : State :=
  let x := sns s n
  setSns s n { x with loc := snsConvert s n x.chan x.ofs count }

/-- The reference of a channel that is trimmed (R230): by the states that stand after the window's hard checks (R240). -/
def trimRefOf (s : State) (n : Nat) : Option Int :=
  match (if obsValid s then (snsNode s n).map (fun k => nodeTemp (thNode s k)) else none) with
  | some v => some v
  | none => nbRef s n

/-- The 64th sample of a trim (R230). The mean is rounded to nearest, ties to even: the rule names no rounding. DESIGN CHOICE (log 85). -/
def trimDone (s : State) (n : Nat) : State :=
  let x := sns s n
  if x.trimRefs = 0 then setF (setSns s n { x with st := .trusted }) Reg.TH_ERR.SIZING_NOREF 1
  else
    let m := roundEven x.trimSum x.trimRefs
    if 128 < m.natAbs then trimFailed s n
    else
      let o := min m 127
      setSns s n (withRate { x with st := .trusted, ofs := o, val := clampInt (-1024) 4095 (x.val + o) })

/-- The control core that trims a sensor of a tile agent runs, or the reserve complex does its work (R350, R360). -/
def trimRuns (s : State) (n : Nat) : Bool := match snsTile n with
  | some t => (tcore s t).st == 1 || (tcore s t).st == 6
  | none => true

/-- A sample of a sensor in TRIMMING (R230). While the control core is stopped the trim waits, and it then starts again (R361). -/
def trimOne (s : State) (n count : Nat) (ref : Option Int) : State :=
  let x := sns s n
  let t := snsConvert s n x.chan 0 count
  if !trimRuns s n then setSns s n { takeVal x t with trimN := 0, trimRefs := 0, trimSum := 0 }
  else if !hardOk s n x count t then trimFailed (setSns s n (takeVal x t)) n
  else
    let y := { takeVal x t with trimN := x.trimN + 1 }
    let s := setSns s n (match ref with
      | some v => { y with trimRefs := x.trimRefs + 1, trimSum := x.trimSum + (v - t) }
      | none => y)
    if x.trimN + 1 = 64 then trimDone s n else s

/-- The second and third stages of a window (R240, R242). Where the observer is valid the residual of R234 comes with the solve that takes
the sample, and the judgement with it; neighbour references are those of the window. DEDUCED (log 49). -/
def crossCheck (s : State) : State :=
  let l := (mfSns s).filter (fun n => ((sns s n).st == .trusted || (sns s n).st == .suspect) && snsCurrent s n)
  if flagOn s Reg.TH_CFG.LEGACY then
    l.foldl (fun s n => if (sns s n).st == .suspect then setSns s n { sns s n with st := .trusted, disRun := 0, agreeRun := 0 } else s)
      { s with th.judge := [] }
  else
    let s := { s with th.judge := l.map (fun n => (n, nbAgrees s n)) }
    if obsValid s then s else judgeAll s false

/-- A sample window ends (R226): every sensor is sampled. Samples of the window before that no solve has taken are judged first, without
the observer; a channel in TRIMMING takes its sample last, so that it is neither judged nor a reference in the window that makes it
TRUSTED (R240). -/
def sampleWindow (counts : List (Nat × Nat)) (s : State) : State :=
  let count := fun (n : Nat) => ((counts.find? (·.1 == n)).map (·.2)).getD 0
  let s := judgeAll s false
  let all := (allSns s).filter (fun n => !snsInReset s n)
  let l := all.filter (snsCurrent s)
  let trims := l.filter (fun n => (sns s n).st == .trimming)
  let s := all.foldl (fun s n => holdLocal s n (count n)) s
  let s := l.foldl (fun s n => sampleOne s n (count n)) s
  let s := if s.th.sizing.on && decide (s.th.sizing.n < 64) then { s with th.sizing.n := s.th.sizing.n + 1 } else s
  let refs := trims.map (fun n => (n, trimRefOf s n))
  let s := refs.foldl (fun s p => trimOne s p.1 (count p.1) p.2) (crossCheck s)
  snsLimits (formTau (formUsed s))

/-- SENSOR_SAMPLE_WINDOW (R226): 20 µs after the last. -/
def execSensorSampleWindow (counts : List (Nat × Nat)) (s : State) : Host.Outcome State Fault Refusal :=
  finish (if released s 6 then
    let s := advanceTo s (s.th.sampleAt + us 20)
    sampleWindow counts { s with th.sampleAt := s.now } else s)

/-- THERMAL_CEILING_LIFT (R246): the hub lifts the tile agent's own ceiling with it; an orphan's, once it hears the hub again (R247).
DEDUCED (log 50). -/
def liftCeil (t : Nat) (s : State) : State :=
  let c := thCeil s t
  if released s 6 && !c.callers.isEmpty && ((positions s).filter (fun p => c.callers.contains p.id)).all (posCool s) then
    let s := advanceTo s (c.at_ + ms 1)
    let s := setThCeil s t {}
    modTile s t (fun x => if x.orphan then { x with liftDue := true } else { x with localCeil := 16 })
  else s

def execThermalCeilingLift (tile : Nat) (s : State) : Host.Outcome State Fault Refusal := finish (liftCeil tile s)

/-! ## Sizing (R228, R229) -/

/-- Sizing completes: every sensor that did not fail enters TRUSTED, and spare channels of the others are brought in. -/
def sizingEnd (s : State) : State :=
  let since := (s.th.sizing.step2At).getD s.now
  let s := (mfSns s).foldl (fun s n =>
    let x := sns s n
    match x.st with
    | .unsized => setSns s n { x with st := .trusted, sum := 0, mean := none, disRun := 0, agreeRun := 0 }
    | .failed => snsSpare s n
    | _ => s) s
  let s := setF (setF s Reg.TH_SIZE.DONE 1) Reg.TH_SIZE.WAITED_MS (min 65535 ((s.now - since) / ms 1))
  formUsed { s with th.sizing := {} }

/-- Sizing falls back (R229): O_s stays 0, FUSE_ONLY, a thermal event. -/
def sizingFallback (s : State) (f : Fld) : State :=
  let s := setF (setF s f 1) Reg.TH_SIZE.FUSE_ONLY 1
  let s := sizingEnd s
  thEvent s 10 (hubUnit s) (maxUsed s) 0 0

/-- The manifest names a coolant inlet temperature reading. -/
def inletNamed (s : State) : Bool := match s.mf.bind (·.tray) with
  | some t => t.inlet != 0xFF
  | none => false

/-- Sizing begins after the manifest has been accepted (R228, R229). -/
def sizingStart (s : State) : State :=
  if flagOn s Reg.TH_SIZE.DONE then s
  else if !inletNamed s then sizingFallback s Reg.TH_ERR.SIZING_NOREF
  else { s with th.sizing := { on := true, startedAt := s.now } }

/-- The conditions of step 2 over the means of the round. DEDUCED (log 49). -/
def sizingMet (s : State) (ms : List (Nat × Int)) : Bool :=
  let vs := ms.map (·.2)
  let spread : Int := match vs with
    | [] => 0
    | v :: l => l.foldl max v - l.foldl min v
  decide (spread ≤ 32) && ms.all (fun p => match (sns s p.1).mean with
    | some m => decide ((p.2 - m).natAbs ≤ 4)
    | none => false)

/-- Steps 3 and 4: the offset of one sensor (R228). DEDUCED (log 49). -/
def setOffset (s : State) (tref : Int) (p : Nat × Int) : State :=
  let x := sns s p.1
  let d := tref - p.2
  if 128 < d.natAbs then snsFailed s p.1
  else
    let o := min d 127
    setSns s p.1 (withRate { x with ofs := o, val := clampInt (-1024) 4095 (x.val + o) })

/-- The round of samples that runs starts again: the power core stopped in it (R361). -/
def sizingRestart (s : State) : State :=
  if s.th.sizing.on then
    { s with
      th.sizing.n := 0
      th.sns := s.th.sns.map (fun (p : Nat × Sns) => (p.1, if p.2.st == .unsized then { p.2 with sum := 0 } else p.2)) }
  else s

/-- SIZING_ROUND_DONE (R228): `inlet` is what step 3 reads, where step 2 is met. DEDUCED (log 49). -/
def sizingRound (inlet : Option Int) (s : State) : State :=
  if s.th.sizing.on && s.th.sizing.n == 64 && !dutyRuns s 1 then sizingRestart s
  else if s.th.sizing.on && s.th.sizing.n == 64 then
    let s := { s with th.sizing.step2At := some ((s.th.sizing.step2At).getD s.now), th.sizing.n := 0 }
    let ms := ((mfSns s).filter (fun n => (sns s n).st == .unsized)).map (fun n => (n, roundEven (sns s n).sum 64))
    if sizingMet s ms then
      match inlet, s.mf.bind (·.tray) with
      | some t, some m => sizingEnd (ms.foldl (fun s p => setOffset s (t + m.refOfs) p) s)
      | _, _ => sizingFallback s Reg.TH_ERR.SIZING_NOREF
    else ms.foldl (fun s p => setSns s p.1 { sns s p.1 with sum := 0, mean := some p.2 }) s
  else s

def execSizingRoundDone (inlet : Option Int) (s : State) : Host.Outcome State Fault Refusal := finish (sizingRound inlet s)

/-- SIZING_TIMEOUT (R229): WAIT_MS after Sizing began, by the power core (R350). DEDUCED (log 49). -/
def sizingTimeout (s : State) : State :=
  match s.mf.bind (·.tray) with
  | some m => if s.th.sizing.on && dutyRuns s 1 then
      sizingFallback (advanceTo s (s.th.sizing.startedAt + ms m.waitMs)) Reg.TH_ERR.SIZING_SPREAD else s
  | none => s

def execSizingTimeout (s : State) : Host.Outcome State Fault Refusal := finish (sizingTimeout s)

/-! ## Coolant (R235, R259, R260) -/

/-- The manifest names the tray's flow and inlet temperature readings. -/
def flowNamed (s : State) : Bool := match s.mf.bind (·.tray) with
  | some t => t.flow != 0xFF && t.inlet != 0xFF
  | none => false

/-- A poll was missed (R259). DEDUCED (log 51). -/
def flowMissed (s : State) : State :=
  let n := s.th.missed + 1
  let s := { s with th.missed := n }
  if decide (getF s Reg.TH_FLOW.MISS_LIMIT ≤ n) && !flagOn s Reg.TH_FLOW_STATUS.LOST then
    let s := setF (setF s Reg.TH_FLOW_STATUS.LOST 1) Reg.TH_ERR.FLOW_LOST 1
    thEvent s 9 (hubUnit s) (coolT s) 0 0
  else s

/-- FLOW_POLL (R259, R361, R450): POLL_MS after the last. A poll that falls while no core carries the power core's duties is missed,
and so is one that still waits for the bus. -/
def flowPoll (s : State) : State :=
  if released s 6 && flowNamed s && !subIn s 5 then
    let s := advanceTo s (s.th.pollAt + ms (getF s Reg.TH_FLOW.POLL_MS))
    if s.th.polling || !dutyRuns s 1 then flowMissed { s with th.pollAt := s.now }
    else { s with th.pollAt := s.now, th.polling := true }
  else s

def execFlowPoll (s : State) : Host.Outcome State Fault Refusal := finish (flowPoll s)

/-- A valid reading is judged against NOM_FLOW (R260). DEDUCED (log 51). -/
def flowJudge (s : State) (flow : Nat) : State :=
  let nom := getF s Reg.TH_FLOW_NOM.NOM_FLOW
  if nom = 0 then { s with th.belowMin := false }
  else
    let low := getF s Reg.TH_FLOW.LOW_PCT
    let min := decide (flow * 100 < getF s Reg.TH_FLOW.MIN_PCT * nom)
    let s := { s with th.belowMin := min }
    let s := if flow * 100 < low * nom then
        thEvent (setF (setF s Reg.TH_FLOW_STATUS.LOW 1) Reg.TH_ERR.FLOW_LOW 1) 8 (hubUnit s) (coolT s) 0 0
      else if (low + 5) * nom ≤ flow * 100 then setF s Reg.TH_FLOW_STATUS.LOW 0 else s
    if min then callShutdown s 6 else s

/-- A completed reading of flow and inlet temperature (R235, R259, R260). DEDUCED (log 51). -/
def flowTaken (s : State) (flow : Nat) (t : Int) : State :=
  let nom := getF s Reg.TH_FLOW_NOM.NOM_FLOW
  let f : Int := if nom = 0 then 32767 else Min.min 32767 ((flow * 32768 / nom : Nat) : Int)
  let s := setF (setF (setF s Reg.TH_FLOW_STATUS.FLOW flow) Reg.TH_FLOW_STATUS.VALID 1) Reg.TH_FLOW_STATUS.LOST 0
  flowJudge { s with th.missed := 0, th.cool := some t, th.f := f } flow

/-- The targets of the tray's readings that did not acknowledge their address are marked absent (R58). DEDUCED (log 51). -/
def flowNacks (s : State) (flow inlet : Bool) : State :=
  match s.mf with
  | some m => match m.tray with
    | some t =>
      let mark := fun (s : State) (b : Bool) (k : Nat) => if b then i3cAbsent s k (i3cAddr m k) else s
      mark (mark s flow t.flow) inlet t.inlet
    | none => s
  | none => s

/-- FLOW_READING (R58, R259, R260): what a poll gave, or that it did not complete, as where a target did not acknowledge its address. -/
def flowReading (r : FlowRead) (s : State) : State :=
  if s.th.polling then
    let s := { s with th.polling := false }
    match r with
    | .read f t => flowTaken s f t
    | .missed => flowMissed s
    | .nack a b => flowMissed (flowNacks s a b)
  else s

def execFlowReading (reading : FlowRead) (s : State) : Host.Outcome State Fault Refusal := finish (flowReading reading s)

/-! ## Limit sets (R243) -/

/-- The order that a limit set must satisfy (R243). -/
def limOk (s : State) (n : Nat) : Bool :=
  let g := fun (f : Nat → Fld) => getF s (f n)
  decide (g Reg.TH_LS_A.T_WARN ≤ g Reg.TH_LS_A.T_THR) && decide (g Reg.TH_LS_A.T_THR < g Reg.TH_LS_B.T_SD) &&
    decide (g Reg.TH_LS_B.T_SD < g Reg.TH_LS_B.T_LIM) && decide (g Reg.TH_LS_B.T_LIM ≤ g Reg.TH_LS_C.T_TRIP) &&
    decide (g Reg.TH_LS_C.T_REARM < g Reg.TH_LS_A.T_THR)

/-- T_TRIP of a limit set in the fuse map (R405). DEDUCED (log 50). -/
def fuseTrip (s : State) (n : Nat) : Nat := bitsAt (fuse s (57 + n / 2)) (12 * (n % 2)) 12

/-- What follows a write to a register of limit set n (R243, R247): T_TRIP is capped, a set out of order keeps the previous
value, and the tile agents are sent the limits. DEDUCED (log 50). -/
def limitWritten (old : State) (n : Nat) (s : State) : State :=
  let v := getF s (Reg.TH_LS_C.T_TRIP n)
  let s := if v = getF old (Reg.TH_LS_C.T_TRIP n) then s else setF s (Reg.TH_LS_C.T_TRIP n) (min v (fuseTrip s n))
  sendLims (if limOk s n then s else setF old Reg.TH_ERR.LIM_ORDER 1)

/-! ## Cycle counting (R262, R263) -/

/-- The sensors of a region: a tile agent's, or the hub's (region 128). -/
def regionSns (s : State) (g : Nat) : List Nat :=
  (mfSns s).filter (fun n => snsRegion n == g && (sns s n).st != .unsized)

/-- The index of a half-cycle's counter (R263); the range and twice the mean are in 0.0625 °C. -/
def rfIndex (s : State) (range : Nat) (mean2 : Int) : Nat :=
  let rb := min 15 (range / (getF s Reg.TH_RF_CFG.RANGE_STEP * 8))
  let mb := min 3 ((mean2 - 32 * getF s Reg.TH_RF_CFG.MEAN_BASE).toNat / (160 * getF s Reg.TH_RF_CFG.MEAN_STEP))
  mb * 16 + rb

/-- Adds half-cycles to a region's counter (R263). DEDUCED (log 53). -/
def rfCount (s : State) (g : Nat) (a b : Int) (n : Nat) : State :=
  let k := 64 * g + rfIndex s (a - b).natAbs (a + b)
  { s with th.rfCnt := tset 0 s.th.rfCnt k (satAdd 0xFFFFFFFF (tget 0 s.th.rfCnt k) n) }

/-- Closes cycles on a stack, newest first (R262); `fuel` bounds the closings by the stack's length. DEDUCED (log 53). -/
def rfClose (s : State) (g : Nat) : Nat → List Int → State × List Int
  | fuel + 1, s4 :: s3 :: s2 :: s1 :: l =>
    if (s2 - s3).natAbs ≤ (s1 - s2).natAbs ∧ (s2 - s3).natAbs ≤ (s3 - s4).natAbs then
      rfClose (rfCount s g s2 s3 2) g fuel (s4 :: s1 :: l)
    else (s, s4 :: s3 :: s2 :: s1 :: l)
  | _, l => (s, l)

/-- A reversal goes onto the region's stack (R262). DEDUCED (log 53). -/
def rfPush (s : State) (g : Nat) (v : Int) : State :=
  let x := tget ({} : Rf) s.th.rf g
  let (s, st) := rfClose s g 32 (v :: x.stack)
  let (s, st) := if 32 ≤ st.length then
      match st.reverse with
      | s1 :: s2 :: _ => (rfCount s g s1 s2 1, st.dropLast)
      | _ => (s, st)
    else (s, st)
  { s with th.rf := tput s.th.rf g { tget ({} : Rf) s.th.rf g with stack := st } }

/-- One sample of a region (R262): the running extreme moves, or a turn of more than MIN_REV makes it a reversal.
DEDUCED (log 53). -/
def rfSample (s : State) (g : Nat) (v : Int) : State :=
  let x := tget ({} : Rf) s.th.rf g
  let m : Int := getF s Reg.TH_RF_CFG.MIN_REV
  let lo := min v (x.lo.getD v)
  let hi := max v (x.hi.getD v)
  let put := fun (s : State) (y : Rf) => { s with th.rf := tput s.th.rf g { y with stack := (tget ({} : Rf) s.th.rf g).stack } }
  match x.up with
  | none =>
    if m < v - lo then put (rfPush s g lo) { lo := some v, hi := some v, up := some true }
    else if m < hi - v then put (rfPush s g hi) { lo := some v, hi := some v, up := some false }
    else put s { x with lo := some lo, hi := some hi }
  | some true =>
    if m < hi - v then put (rfPush s g hi) { lo := some v, hi := some v, up := some false }
    else put s { x with hi := some hi }
  | some false =>
    if m < v - lo then put (rfPush s g lo) { lo := some v, hi := some v, up := some true }
    else put s { x with lo := some lo }

/-- RAINFLOW_SAMPLE (R262): DECIM_MS after the last, while RF_EN = 1. -/
def rainflow (s : State) : State :=
  if released s 6 && flagOn s Reg.TH_CFG.RF_EN then
    let s := advanceTo s (s.th.rfAt + ms (getF s Reg.TH_RF_CFG.DECIM_MS))
    (List.range s.build.tiles ++ [128]).foldl (fun s g => match (regionSns s g).map (fun n => (sns s n).used) with
      | [] => s
      | v :: l => rfSample s g (l.foldl max v)) { s with th.rfAt := s.now }
  else s

def execRainflowSample (s : State) : Host.Outcome State Fault Refusal := finish (rainflow s)

end Sys2Proof.Machine
end

