-- ==== Sys2Proof/Machine/BandOps.lean ====
section
/-! DEFINITION. Loops, arbitration, profile generators and the Brim, shared by the Band Engine's rows and the hub hold
(R89 to R126). -/

namespace Sys2Proof.Machine

/-! ## The fields of a loop descriptor (R107) -/

def lpPg (x : Loop) : Nat := bitsAt x.w0 8 6
def lpSpSrc (x : Loop) : Nat := bitsAt x.w0 14 2
def lpAct (x : Loop) : Nat := bitsAt x.w0 16 16
def lpSrc (x : Loop) : Nat := bitsAt x.w1 0 16
def lpDiv (x : Loop) : Nat := bitsAt x.w1 16 8
def lpTrk (x : Loop) : Bool := bitAt x.w1 24
def lpSp (x : Loop) : Int := toSigned 16 (bitsAt x.w2 0 16)
def lpH (x : Loop) : Int := bitsAt x.w2 16 16
def lpAlpha (x : Loop) : Int := bitsAt x.w3 0 16
def lpKi (x : Loop) : Int := bitsAt x.w3 16 16
def lpDn (x : Loop) : Int := bitsAt x.w4 0 16
def lpUp (x : Loop) : Int := bitsAt x.w4 16 16
def lpMin (x : Loop) : Int := bitsAt x.w5 0 16
def lpMax (x : Loop) : Int := bitsAt x.w5 16 16
def lpCMax (x : Loop) : Int := bitsAt x.w6 0 16
def lpShift (x : Loop) : Nat := bitsAt x.w6 16 4
def lpMargin (x : Loop) : Int := bitsAt x.w6 24 8

/-- Word i of a descriptor, W0 to W15 (R107). -/
def lpWord (x : Loop) (i : Nat) : Nat := match i with
  | 0 => x.w0
  | 1 => x.w1
  | 2 => x.w2
  | 3 => x.w3
  | 4 => x.w4
  | 5 => x.w5
  | 6 => x.w6
  | 8 => ofSigned 16 x.u + 65536 * ofSigned 16 x.c
  | 9 => ofSigned 16 x.yf + 65536 * ofSigned 16 x.s
  | 10 => ofSigned 16 x.e + 2 ^ 16 * b2n x.sat + 2 ^ 17 * b2n (x.win && lpEn x) + 2 ^ 18 * b2n x.ifrz + 2 ^ 19 * b2n x.above +
      2 ^ 20 * b2n x.below + 2 ^ 21 * b2n (x.tracked && lpEn x) + 2 ^ 22 * b2n x.srcAbs
  | 11 => x.steps
  | 12 => ofSigned 32 x.ci
  | _ => 0

/-- Replaces one of W0 to W6. -/
def putWord (x : Loop) (i v : Nat) : Loop := match i with
  | 0 => { x with w0 := v }
  | 1 => { x with w1 := v }
  | 2 => { x with w2 := v }
  | 3 => { x with w3 := v }
  | 4 => { x with w4 := v }
  | 5 => { x with w5 := v }
  | 6 => { x with w6 := v }
  | _ => x

/-- A word keeps the ranges and the reserved bits of R107 and R108. -/
def wordOk (i v : Nat) : Bool := match i with
  | 0 => bitsAt v 1 3 == 0
  | 1 => bitsAt v 25 7 == 0
  | 2 => !bitAt v 31
  | 3 | 4 => !bitAt v 15 && !bitAt v 31
  | 5 => !bitAt v 15 && !bitAt v 31 && decide (bitsAt v 0 16 ≤ bitsAt v 16 16)
  | 6 => !bitAt v 15 && bitsAt v 20 4 == 0
  | _ => false

/-- The actuators that an identifier names (R99). -/
def actsOf (s : State) (a : Nat) : List Nat :=
  if a % 4096 = 0xFFF then
    (if a < 0x1000 then (List.range s.build.tiles).map actFreq else (List.range s.build.rails).map actVtgt)
  else [a]

/-- A valid actuator identifier (R99). -/
def actValid (s : State) (a : Nat) : Bool :=
  if a < 0x1000 then decide (a < s.build.tiles) || a == 0xFFF
  else if a < 0x2000 then a == actDisp
  else a < 0x3000 && (decide (a - 0x2000 < s.build.rails) || a == 0x2FFF)

/-! ## Measurements (R94, R95) -/

/-- The unit that a source names is marked absent (R95, R413). -/
def srcAbsent (s : State) (id : Nat) : Bool := id / 4096 == 3 && (sns s (id % 4096)).st == .absent

/-- A source's latched value (R94, R238). -/
def measure (s : State) (id : Nat) : Int :=
  let i := id % 4096
  match id / 4096 with
  | 0 => windowSource s 0
  | 1 => sat16 (roundEven (iRail s i) 8)
  | 2 => if s.th.model.isSome && flagOn s Reg.TH_CFG.OBS_EN then sat16 (thNode s i).t else -32768
  | 3 => sat16 (8 * (sns s i).used)
  | 4 => if s.th.model.isSome && flagOn s Reg.TH_CFG.OBS_EN then sat16 (thNode s i).rate else -32768
  | 5 => sat16 (8 * (tile s i).hH)
  | 6 => if s.pins.brake then windowSource s 0 else -32768
  | 7 => windowSource s i
  | _ => 0

/-- A source that a restart accepts (R119, reason 2). -/
def srcValid (s : State) (id : Nat) : Bool :=
  let i := id % 4096
  match id / 4096 with
  | 0 | 6 => i == 0
  | 1 => (mfRail s i).isSome
  | 2 | 4 => decide (i < 2048)
  | 3 => (mfSns s).contains i
  | 5 => (mfTile s i).present
  | 7 => decide (i < 4)
  | _ => false

/-! ## Set-points (R104) -/

/-- A loop's set-point target; that of a window stands as the last frame boundary wrote it (R275). -/
def spTarget (s : State) (l : Nat) (x : Loop) : Int := match lpSpSrc x with
  | 0 => lpSp x
  | 1 => s.bg.lw.getD (lpSrc x % 4096) 0
  | 2 => pbSp s l
  | _ => 0

/-- S of a loop: its target, or what its profile generator carries. -/
def spOf (s : State) (l : Nat) (x : Loop) : Int :=
  if lpPg x = 0 then spTarget s l x else sat16 (roundEven (pg s (lpPg x)).x (2 ^ getF s (Reg.PG_CFG.SHIFT (lpPg x))))

/-- One tick of a profile generator (R103). Where x + v leaves the signed 32-bit range, as after a change of target near full scale, the
rule gives neither a wrap nor a clamp: x is kept as it is, and PGn_X shows its low 32 bits. DESIGN CHOICE (log 37). -/
def pgStep (vm am jm : Int) (g : Pg) : Pg :=
  let k := -((-am).fdiv jm)
  let d := g.t - g.x
  let sg := sgn d
  let m := max 0 ((d.natAbs : Int) - g.v.natAbs * k)
  let vref := sg * min vm (isqrt (2 * am * m).toNat)
  let aref := clampInt (-am) am (vref - g.v)
  let a := g.a + clampInt (-jm) jm (aref - g.a)
  let v := clampInt (-vm) vm (g.v + a)
  let x := g.x + v
  if sg ≠ 0 ∧ sgn (g.t - x) ≠ sg then { g with x := g.t, v := 0, a := 0 } else { g with x := x, v := v, a := a }

/-- The velocity limit of profile generator 0 (R105). -/
def pg0Vmax (s : State) : Nat := min (getF s (Reg.PG_VMAX.VMAX 0)) (actVal s actDisp * 262144 / 10)

/-- A generator moves one tick toward its target. -/
def pgMove (s : State) (p : Nat) (vm : Nat) : State :=
  setPg s p (pgStep vm (getF s (Reg.PG_AMAX.AMAX p)) (getF s (Reg.PG_JMAX.JMAX p)) (pg s p))

/-- A set-point generator at a tick (R104, R115): its target comes from the lowest-numbered enabled loop of a running domain
that names it; while only loops of stopped domains name it, it does not move. -/
def pgTick (s : State) (p : Nat) : State :=
  let named := s.be.loops.filter (fun q => lpEn q.2 && lpPg q.2 == p)
  match named.find? (fun q => lpRuns s q.2) with
  | some q =>
    pgMove (setPg s p { pg s p with t := spTarget s q.1 q.2 * (2 ^ getF s (Reg.PG_CFG.SHIFT p) : Nat) }) p (getF s (Reg.PG_VMAX.VMAX p))
  | none => if named.isEmpty then pgMove s p (getF s (Reg.PG_VMAX.VMAX p)) else s

/-- Profile generator 0 at a tick (R105, R188). -/
def pg0Tick (s : State) : State := pgMove (setPg s 0 { pg s 0 with t := pg0Target s }) 0 (pg0Vmax s)

/-! ## Live words (R110, R117) -/

/-- A word is written into its descriptor: an uncorrectable error in it is gone, and a change made while the domain is stopped is
remembered (R119, R120). -/
def applyWord (s : State) (l i v : Nat) (stopped : Bool) : State :=
  modLoop s l (fun x => { putWord x i v with ue := x.ue.filter (· != i), dirty := x.dirty || (stopped && decide (2 ≤ i)) })

/-- Applies a pending word, and completes the command whose last word it is. -/
def applyLive (s : State) (w : LiveWord) (stopped : Bool) : State :=
  completeOpt (applyWord { s with be.words := s.be.words.erase w } w.loop w.idx w.val stopped) w.key 0 0

/-- The oldest pending word of a loop is applied before its evaluation. -/
def applyOldest (s : State) (l : Nat) : State := match s.be.words.find? (·.loop == l) with
  | some w => applyLive s w false
  | none => s

/-! ## Evaluation (R96, R97) -/

/-- The filter: YF after a measurement, and whether an addition or a write-back saturated. -/
def lpFilter (x : Loop) (y : Int) : Int × Bool × Bool :=
  if lpAlpha x = 0 then (y, false, false)
  else
    let (acc, a) := accAdd (x.yf * 32768) (lpAlpha x * sat16 (y - x.yf))
    let (v, w) := wbVal acc
    (v, a, w)

/-- The hysteretic step on a filtered measurement. -/
def lpStep (x : Loop) (yf sp : Int) : Loop :=
  let e := sat16 (yf - sat16 (sp + x.c))
  let above := decide (lpH x < e)
  let below := decide (e < -lpH x)
  let u := if above then max (x.u - lpDn x) (lpMin x) else if below then min (x.u + lpUp x) (lpMax x) else x.u
  { x with
    yf := yf, s := sp, e := e, u := u, above := above, below := below, sat := u == lpMin x || u == lpMax x
    steps := if u = x.u then x.steps else satAdd 0xFFFFFFFF x.steps 1 }

/-- The integrator: CI and C, with eps = sat16(YF - S). -/
def lpIntegrate (x : Loop) : Loop × Bool × Bool :=
  let frozen := x.sat || x.tracked
  let (acc, a) := accAdd x.ci (-(asr (lpKi x * sat16 (x.yf - x.s)) (lpShift x)))
  let ci := if frozen then x.ci else clampInt (-(lpCMax x * 32768)) (lpCMax x * 32768) acc
  let (c, w) := wbVal ci
  ({ x with ifrz := frozen, ci := ci, c := c }, !frozen && a, w)

/-- One evaluation of a loop on its measurement and set-point (R96), with the saturation flags. -/
def lpEval (x : Loop) (y sp : Int) : Loop × Bool × Bool :=
  let (yf, a1, w1) := lpFilter x y
  let (z, a2, w2) := lpIntegrate (lpStep x yf sp)
  (z, a1 || a2, w1 || w2)

/-- A loop is due in frame f (R98). -/
def lpDue (f l : Nat) (x : Loop) : Bool := f % (lpDiv x + 1) == l % (lpDiv x + 1)

/-- A Band Engine event (R342, class 0x04). -/
def beEvent (s : State) (code unit reason dom : Nat) : State := raiseEvent s 4 code unit (leBytes 1 reason ++ leBytes 1 dom)

/-- Evaluates one due loop with the measurement and the set-point that were latched for it, or what stops it: a source that was absent
then (R95), or an uncorrectable word (R124). DESIGN CHOICE (log 37). -/
def evalLoop (bad : List Nat) (s : State) (l : Nat) : State :=
  let s := applyOldest s l
  let x := loop s l
  if !bad.isEmpty then
    let s := setF s Reg.BE_FAULT.DOM (orBit (getF s Reg.BE_FAULT.DOM) (lpDom x))
    let s := setLoop { s with be.errStop := orBit s.be.errStop (lpDom x) } l { x with ue := x.ue ++ bad }
    beEvent s 3 (loopUnit l) 0 (lpDom x)
  else if x.srcAbs then setLoop s l { x with above := false, below := false, ifrz := true }
  else
    let (z, a, w) := lpEval x x.y x.s
    let s := setLoop s l z
    let s := if a then setF s Reg.BE_ARITH.ACC_SAT 1 else s
    if w then setF s Reg.BE_ARITH.WB_SAT 1 else s

/-- What a running loop latches at a frame boundary: its measurement and set-point (R94, R104), and whether its source is absent, when
S keeps its value (R95). YF of a loop that has restarted is the measurement (R120). -/
def latchLoop (s : State) (l : Nat) (x : Loop) : Loop :=
  let y := measure s (lpSrc x)
  let off := srcAbsent s (lpSrc x)
  { x with
    y := y, s := if off then x.s else spOf s l x, srcAbs := off
    yf := if bitAt s.be.firstFrame (lpDom x) then y else x.yf }

/-- Every running loop latches; the event of an absent source is raised once, at the first boundary at which it is (R95).
DESIGN CHOICE (log 37). -/
def latchLoops (s : State) : State :=
  let news := s.be.loops.filter (fun p => lpRuns s p.2 && srcAbsent s (lpSrc p.2) && !p.2.srcAbs)
  let s := { s with be.loops := s.be.loops.map (fun (p : Nat × Loop) => if lpRuns s p.2 then (p.1, latchLoop s p.1 p.2) else p) }
  news.foldl (fun s p => beEvent s 1 (loopUnit p.1) 0 (lpDom p.2)) s

/-! ## Arbitration (R100, R101) -/

/-- The lowest U among the running loops that drive an actuator, and the lowest-numbered loop that has it. -/
def arbOne (s : State) (a : Nat) : Option (Nat × Nat) :=
  s.be.loops.foldl (fun (m : Option (Nat × Nat)) (p : Nat × Loop) =>
    if lpRuns s p.2 && (actsOf s (lpAct p.2)).contains a then match m with
      | some (l, u) => if p.2.u.toNat < u then some (p.1, p.2.u.toNat) else some (l, u)
      | none => some (p.1, p.2.u.toNat)
    else m) none

/-- Tracking of one loop that wins nothing (R101). -/
def lpTrack (s : State) (x : Loop) : Loop :=
  let m := (actsOf s (lpAct x)).foldl (fun m a => min m (tget 0x7FFF s.be.arb a)) 0x7FFF
  let lim := (m : Int) + lpMargin x * 32
  if lpTrk x && !x.win && !x.srcAbs && decide (lim < x.u) then { x with u := lim, tracked := true } else { x with tracked := false }

/-- Every actuator of a running domain takes its arbitrated value, winners are marked, and losers track.
DESIGN CHOICE (log 37). -/
def arbitrate (s : State) : State :=
  let res : List (Nat × Option (Nat × Nat)) :=
    ((allActs s).filter (fun a => !bitAt s.be.stopped (actDom s a))).map (fun a => (a, arbOne s a))
  let wins := res.filterMap (fun p => p.2.map (·.1))
  let put := fun (t : List (Nat × Nat)) (q : Nat × Option (Nat × Nat)) => tset 0x7FFF t q.1 (match q.2 with
    | some (_, u) => u
    | none => 0x7FFF)
  let s := { s with be.arb := res.foldl put s.be.arb }
  { s with be.loops := s.be.loops.map (fun (p : Nat × Loop) =>
      if lpRuns s p.2 then (p.1, lpTrack s { p.2 with win := wins.contains p.1 }) else p) }

/-! ## Stopping (R115, R118, R363) -/

/-- A domain stops: its actuators are held at the lower of the Brim and their value, and its pending words apply. -/
def stopDom (s : State) (d : Nat) : State :=
  if bitAt s.be.stopped d then s
  else
    let at_ := ((allActs s).filter (fun a => actDom s a == d)).foldl (fun t a => tput t a (actVal s a)) s.be.atStop
    let s := { s with
      be.stopped := orBit s.be.stopped d, be.firstFrame := clrBit s.be.firstFrame d, be.carried := clrBit s.be.carried d
      be.atStop := at_ }
    (s.be.words.filter (fun w => lpDom (loop s w.loop) == d)).foldl (fun s w => applyLive s w true) s

/-- PC stops: the phase controllers keep the values of this moment. DEDUCED (log 45). -/
def stopPc (s : State) : State := if s.be.pcStopped then s else { s with be.pcStopped := true, be.pcSnap := s.regs }

/-- Every control domain and PC stop at once (R363). -/
def stopAll (s : State) : State := stopPc ((List.range 16).foldl stopDom s)

/-! ## Restarting (R119, R120) -/

/-- The reason for which a loop refuses its domain's restart; 0 for none (R119). DEDUCED (log 38). -/
def lpRefuse (s : State) (d : Nat) (x : Loop) : Nat :=
  if !(actValid s (lpAct x) && (actsOf s (lpAct x)).all (fun a => actDom s a == d)) then 1
  else if !srcValid s (lpSrc x) then 2
  else if !((List.range 7).all (fun i => wordOk i (lpWord x i))) || lpSpSrc x == 3 || (lpSpSrc x == 1 && lpSrc x / 4096 != 7) then 3
  else if x.ue.any (fun i => decide (i ≤ 6)) then 5
  else 0

/-- The first failing loop of a domain and its reason; loop 0 and reason 4 for a domain in BE_FAULT.DOM. -/
def domRefuse (s : State) (d : Nat) : Option (Nat × Nat) :=
  if bitAt (getF s Reg.BE_FAULT.DOM) d then some (0, 4)
  else s.be.loops.findSome? (fun p =>
    if lpEn p.2 && lpDom p.2 == d && lpRefuse s d p.2 != 0 then some (p.1, lpRefuse s d p.2) else none)

/-- U of a loop from the held values of its actuators, the lowest where it drives several (R120). -/
def heldU (s : State) (x : Loop) : Int :=
  let u : Nat := ((actsOf s (lpAct x)).map (fun a => actToU s a (holdVal s a))).foldl min 0x7FFF
  min (lpMax x) (max (lpMin x) u)

/-- A loop as a restart sets it (R120): U from the held value, CI cleared after a change; words of its state that held an uncorrectable
error are rewritten. YF follows when the measurement is latched. No frame has tracked it yet (R97). -/
def lpRestart (s : State) (l : Nat) (x : Loop) : Loop :=
  let ci := if x.dirty || x.ue.contains 12 then 0 else x.ci
  let bad10 := x.ue.contains 10
  { x with
    u := heldU s x, ci := ci, c := (wbVal ci).1
    s := if x.ue.contains 9 then spOf s l x else x.s, steps := if x.ue.contains 11 then 0 else x.steps
    e := if bad10 then 0 else x.e, sat := x.sat && !bad10, win := x.win && !bad10, ifrz := x.ifrz && !bad10
    above := x.above && !bad10, below := x.below && !bad10, tracked := false, srcAbs := x.srcAbs && !bad10
    ue := [], dirty := false }

/-- Generators whose target comes from a loop of domain d. -/
def domPgs (s : State) (d : Nat) : List Nat :=
  ((List.range 64).drop 1).filter (fun p =>
    match s.be.loops.find? (fun q => lpRuns s q.2 && lpPg q.2 == p) with
    | some q => lpDom q.2 == d
    | none => false)

/-- A disabled loop of a domain that starts to run: its WIN and TRACKED read 0, and hold that at the next stop (R100). R120 does not say
which stop counts for words applied to it: those of an earlier stop, too, clear CI where the loop restarts after a later one.
DESIGN CHOICE (log 81). -/
def lpIdle (x : Loop) : Loop := { x with win := false, tracked := false }

/-- A domain whose checks pass restarts. -/
def restartDom (s : State) (d : Nat) : State :=
  let mine := fun (p : Nat × Loop) => lpEn p.2 && lpDom p.2 == d
  let unnamed := s.be.loops.any (fun p => mine p && lpSpSrc p.2 == 2 && !(match s.pb.prog with
    | some g => g.chans.any (·.1 == p.1)
    | none => false))
  let s := { s with be.loops := s.be.loops.map (fun (p : Nat × Loop) =>
    if mine p then (p.1, lpRestart s p.1 p.2) else if lpDom p.2 = d then (p.1, lpIdle p.2) else p) }
  let s := { s with be.stopped := clrBit s.be.stopped d, be.firstFrame := orBit s.be.firstFrame d }
  let s := (domPgs s d).foldl (fun s p => setPg s p { pg s p with v := 0, a := 0 }) s
  if unnamed then pbEvent (setF s Reg.PB_ERR.UNNAMED_SP 1) 4 else s

/-- A running domain goes on after a takeover (R369, step 4): its actuators start from the values in force, its loops' U from those, and
its generators from rest, as R120 has it; the loops' state is kept otherwise, with CI. DEDUCED (log 33). -/
def carryDom (s : State) (d : Nat) : State :=
  if bitAt s.be.stopped d then s
  else
    let at_ := ((allActs s).filter (fun a => actDom s a == d)).foldl (fun t a => tput t a (actVal s a)) s.be.atStop
    let s := { s with be.atStop := at_, be.firstFrame := orBit s.be.firstFrame d, be.carried := orBit s.be.carried d }
    let s := { s with be.loops := s.be.loops.map (fun (p : Nat × Loop) =>
      if lpEn p.2 && lpDom p.2 == d then (p.1, { p.2 with u := heldU s p.2, tracked := false }) else p) }
    (domPgs s d).foldl (fun s p => setPg s p { pg s p with v := 0, a := 0 }) s

/-- The running domains go on at the first frame boundary after a takeover. -/
def carryDoms (s : State) : State := if s.be.takeover then (List.range 16).foldl carryDom { s with be.takeover := false } else s

/-- A lane's residue check has failed (R125): BE_FAULT names the lane and every domain that was running. -/
def laneMarks (s : State) : State :=
  let run := (List.range 16).filter (fun d => !bitAt s.be.stopped d)
  let s := setF { s with be.laneBad := true } Reg.BE_FAULT.DOM (run.foldl orBit (getF s Reg.BE_FAULT.DOM))
  beEvent (setF s Reg.BE_FAULT.LANE 1) 4 (hubUnit s) 0 0

/-- A restart is refused (R119). -/
def refuseDom (s : State) (d l reason : Nat) : State :=
  let s := setF (setF (setF s Reg.BE_REFUSE.LOOP l) Reg.BE_REFUSE.DOM d) Reg.BE_REFUSE.REASON reason
  let s := if d < 15 then setF s Reg.BE_FAULT.REFUSED (orBit (getF s Reg.BE_FAULT.REFUSED) d) else s
  beEvent s 2 (if reason = 4 then hubUnit s else loopUnit l) reason d

/-- One domain of a start request, with the first refusal so far as reason and domain. -/
def startDom (a : State × Option (Nat × Nat)) (d : Nat) : State × Option (Nat × Nat) :=
  let (s, no) := a
  if !bitAt s.be.stopped d then (s, no)
  else match domRefuse s d with
    | some (l, k) => (refuseDom s d l k, if no.isSome then no else some (k, d))
    | none => (restartDom s d, no)

/-- PC restarts: the values written during the stop take effect (R118, R454). DEDUCED (log 45). -/
def startPc (s : State) : State := if s.be.pcStopped then brakeRestart { s with be.pcStopped := false } else s

/-- A stop or start request at the boundary, and its completion (R325). -/
def applyReq (s : State) (r : DomReq) : State :=
  let ds := bitList r.doms 16
  if r.start then
    let (s, no) := ds.foldl startDom (s, none)
    let s := if r.pc then startPc s else s
    match no with
    | some (k, d) => completeOpt s r.key 0x000A (k + 16 * d)
    | none => completeOpt s r.key 0 0
  else
    let s := ds.foldl stopDom s
    completeOpt (if r.pc then stopPc s else s) r.key 0 0

/-- The stops and starts of a frame boundary, in the order taken (R115, R119, R124). -/
def boundaryReqs (s : State) : State :=
  let reqs := s.be.reqs
  let s := (bitList s.be.errStop 16).foldl stopDom { s with be.reqs := [], be.errStop := 0 }
  reqs.foldl applyReq s

end Sys2Proof.Machine
end

