-- ==== Sys2Proof/Machine/Felt.lean ====
section
/-! DEFINITION. Felt: links, moving credits, audits, synchronisation, the exchange policy, lag and the deterministic step
(R276 to R297). -/

namespace Sys2Proof.Machine

/-! ## Links and messages -/

def group (s : State) : Option MfGroup := s.mf.bind (·.group)

/-- This member is the root. -/
def isRoot (s : State) : Bool := match group s with
  | some g => g.parent.isNone
  | none => false

def ownPeer (s : State) : Nat := match group s with
  | some g => g.own
  | none => 0

/-- Changes a link. -/
def modLink (s : State) (k : Nat) (f : Link → Link) : State :=
  { s with bg.links := s.bg.links.map (fun p => if p.1 = k then (p.1, f p.2) else p) }

def link (s : State) (k : Nat) : Option Link := (s.bg.links.find? (·.1 == k)).map (·.2)

/-- The link to a peer. -/
def linkOf (s : State) (peer : Nat) : Option (Nat × Link) := s.bg.links.find? (·.2.peer == peer)

/-- Children: links 1 to 32. -/
def children (s : State) : List (Nat × Link) := s.bg.links.filter (·.1 != 0)

/-- Sends a message of a TYPE with its fields on a link (R276). -/
def sendFelt (s : State) (peer type fields : Nat) : State :=
  fmpSend s peer (type * 2 ^ 124 + ((group s).map (·.group)).getD 0 % 4096 * 2 ^ 112 + fields)

/-- Sends a message on a link, unless the link answers a SYNC_REQ: then nothing else is sent on it (R286). DEDUCED (log 57). -/
def sendLink (s : State) (l : Link) (type fields : Nat) : State :=
  if l.st == .answering then s else sendFelt s l.peer type fields

/-- Whether the named bits of a TYPE leave no reserved bit set (R276). -/
def reservedClear (type p : Nat) : Bool := match type with
  | 1 => p % 2 ^ 56 == 0
  | 2 => p % 2 ^ 80 == 0
  | 3 => p % 2 ^ 52 == 0
  | 4 | 5 => p % 2 ^ 27 == 0
  | 6 => p % 2 ^ 96 == 0
  | 7 => p % 2 ^ 31 == 0
  | 8 => p % 2 ^ 60 == 0
  | 9 => p % 2 ^ 112 == 0
  | 10 => p % 2 ^ 48 == 0
  | _ => false

/-- A message that FX-4 discards without effect (R277). DEDUCED (log 57). -/
def badFelt (s : State) (m : FmpMsg) : Bool :=
  let p := m.payload.toNat
  m.ue || !reservedClear (bitsAt p 124 4) p || (group s).map (·.group) != some (bitsAt p 112 12) || (linkOf s m.peer.toNat).isNone

/-- The Felt transport runs: the hub is out of reset. -/
def feltRuns (s : State) : Bool := released s 6

/-- A bad message (R277). -/
def badMessage (s : State) (m : FmpMsg) : State := bgErrPeer s Reg.BG_ERR.BAD_MSG m.peer.toNat

/-- OWN has changed, be it between two frames: the open periods of the reports take it up (R305). -/
def noteOwn (s : State) : State :=
  let f := fun (p : Period) => { p with ownMin := min p.ownMin s.bg.own, ownMax := max p.ownMax s.bg.own }
  if s.mf.isSome then { s with bg.sec := f s.bg.sec, bg.min_ := f s.bg.min_ } else s

/-- Credits change a link's totals and POOL by the same amount; OWN is limited while a reset is being synchronised (R282, R288). -/
def poolAdd (s : State) (d : Int) : State :=
  let s := { s with bg.pool := s.bg.pool + d }
  if s.bg.ownFloor then
    let h := bgHeld s
    noteOwn { s with bg.own := min s.bg.floor h, bg.pool := h - min s.bg.floor h }
  else s

/-- Sends credits out of POOL on a link that is UP (R278); none while HELD is below 0 (R265). -/
def sendCredit (s : State) (k : Nat) (amt : Nat) : State :=
  match link s k with
  | some l =>
    if l.st == .up && amt != 0 && decide (0 ≤ bgHeld s) then
      let n := min amt 16777215
      let tot := (l.sent + n) % 2 ^ 32
      let s := { modLink s k (fun l => { l with sent := tot }) with bg.pool := s.bg.pool - n }
      sendFelt s l.peer 1 (tot * 2 ^ 80 + n * 2 ^ 56)
    else s
  | none => s

/-! ## Synchronising (R286 to R288) -/

/-- Every link is UP: SYNCING ends (R288). -/
def syncCheck (s : State) : State :=
  if s.bg.links.all (fun p => p.2.st == .up) then { s with bg.syncing := false, bg.ownFloor := false } else s

/-- A member sends SYNC_REQ on a link and waits for the answer (R286). -/
def syncLink (s : State) (k : Nat) : State :=
  match link s k with
  | some l => sendFelt (modLink s k (fun l => { l with st := .waiting, ooo := [], retries := [], gapAt := none, back := 0 })) l.peer 9 0
  | none => s

/-- Credits of a link that came back and were not sent again. -/
def backSum (l : Link) : Nat := (l.retries.filter (·.due.isSome)).foldl (fun n r => n + r.credit.amt) l.back

/-- A SYNC_REQ arrives (R286, R287). DEDUCED (log 57). -/
def syncReq (s : State) (k : Nat) (l : Link) : State :=
  if l.st == .waiting then
    let s := bgErrPeer s Reg.BG_ERR.BOTH_RESET l.peer
    if ownPeer s < l.peer then
      poolAdd (modLink s k (fun l => { l with
        sent := 0, recv := 0, acked := 0, back := 0, zeroed := true, ackDue := l.ackDue || l.recv != 0
        retries := [], ooo := [], gapAt := none, st := .answering, ansAt := s.now }))
        (-(totDiff l.recv l.sent))
    else s
  else modLink s k (fun l => { l with
    st := .answering, ansAt := s.now, back := backSum l, zeroed := false, retries := [], ooo := [], gapAt := none })

/-- Completes every FELT_SYNC that waits for a peer's link. -/
def feltSynced (s : State) (peer : Nat) : State :=
  (s.hr.flights.filter (fun f => f.job == .feltSync peer)).foldl (fun s f => complete s f 0 0) s

/-- A link becomes UP. -/
def linkUp (s : State) (k peer : Nat) : State := feltSynced (syncCheck (modLink s k (fun l => { l with st := .up, lost := false }))) peer

/-- SYNC_WAIT_DONE (R286): 10 µs after SYNC_REQ, the answer. -/
def syncWait (s : State) (k : Nat) : State :=
  match link s k with
  | some l =>
    if l.st == .answering then
      let s := advanceTo s (l.ansAt + us 10)
      let sent := (l.sent + 2 ^ 32 - l.back % 2 ^ 32) % 2 ^ 32
      let s := poolAdd (modLink s k (fun l => { l with sent := sent, back := 0, zeroed := false })) l.back
      linkUp (sendFelt s l.peer 10 (l.recv * 2 ^ 80 + sent * 2 ^ 48)) k l.peer
    else s
  | none => s

def execSyncWaitDone (link : Nat) (s : State) : Host.Outcome State Fault Refusal := finish (syncWait s link)

/-- A SYNC_ANS arrives (R286): the totals, POOL, and the link is UP. DEDUCED (log 57). -/
def syncAns (s : State) (k : Nat) (l : Link) (p : Nat) : State :=
  if l.st == .waiting then
    let sent := bitsAt p 80 32
    let recv := bitsAt p 48 32
    let d := totDiff recv sent - totDiff l.recv l.sent
    linkUp (poolAdd (modLink s k (fun l => { l with sent := sent, recv := recv, acked := sent, ackDue := l.ackDue || recv != l.recv })) d) k l.peer
  else s

/-! ## Audits (R284) -/

/-- A member's contribution, from one sample of its totals. -/
def contribution (s : State) : Int := s.bg.links.foldl (fun n p => n + totDiff p.2.sent p.2.recv) (bgHeld s)

/-- The root's result: Δ, where no part of the tree is missing. -/
def auditRoot (s : State) (sum : Int) (part : Bool) : State :=
  let d := s.bg.issued - sum
  if part || d = 0 then s
  else
    let s := poolAdd { s with bg.adjust := s.bg.adjust + d, bg.sec.audit := s.bg.sec.audit + d } d
    bgErrAlways s Reg.BG_ERR.AUDIT (hubUnit s) 0 d

/-- An audit that has every reply it can get ends: up, unless this member is an orphan (R289), or at the root. -/
def auditCheck (s : State) : State :=
  if s.bg.audit.isNone then s
  else
    let kids := (children s).filter (fun p => p.2.st != .down)
    if !kids.all (fun p => p.2.reply.isSome) then s
    else
      let sum := kids.foldl (fun n p => n + (p.2.reply.getD (0, false)).1) s.bg.auditOwn
      let part := (children s).any (fun p => p.2.st == .down) || kids.any (fun p => (p.2.reply.getD (0, false)).2)
      let s := { s with bg.audit := none }
      if isRoot s then auditRoot s sum part
      else match link s 0 with
        | some l => if s.bg.orphan then s else sendLink s l 7 (s.bg.epoch * 2 ^ 96 + ofSigned 64 sum * 2 ^ 32 + b2n part * 2 ^ 31)
        | none => s

/-- An audit of an EPOCH runs here: it goes down to every child, and the contribution is sampled. -/
def auditBegin (s : State) (epoch : Nat) : State :=
  let s := { s with bg.epoch := epoch, bg.audit := some s.now, bg.auditOwn := contribution s }
  let s := setF s Reg.BG_AUDIT.EPOCH epoch
  auditCheck ((children s).foldl (fun s p =>
    let s := modLink s p.1 (fun l => { l with reply := none })
    sendLink s p.2 6 (epoch * 2 ^ 96)) s)

/-- ROOT_AUDIT_START (R284): PERIOD_MS after the last. -/
def rootAudit (s : State) : State :=
  let n := getF s Reg.BG_AUDIT.PERIOD_MS
  if feltRuns s && s.bg.formed && isRoot s && n != 0 then
    let s := advanceTo s (s.bg.auditAt + ms n)
    auditBegin { s with bg.auditAt := s.now } ((s.bg.epoch + 1) % 65536)
  else s

def execRootAuditStart (s : State) : Host.Outcome State Fault Refusal := finish (rootAudit s)

/-- AUDIT_ABANDON (R284): 4 × PEER_TIMEOUT_US after the audit began here. -/
def auditAbandon (s : State) : State :=
  match s.bg.audit with
  | some t => { advanceTo s (t + us (4 * getF s Reg.BG_FELT.PEER_TIMEOUT_US)) with bg.audit := none }
  | none => s

def execAuditAbandon (s : State) : Host.Outcome State Fault Refusal := finish (auditAbandon s)

/-- A link is taken DOWN. -/
def linkDown (s : State) (k : Nat) : State := auditCheck (modLink s k (fun l => { l with st := .down }))

/-! ## Receiving -/

/-- CRITICAL, GIVING and PACING end (R293). -/
def endLag (s : State) : State :=
  { s with
    bg.critical := false, bg.giving := false, bg.pacing := false, bg.paceLevel := 16, bg.acting := none, bg.named := none
    bg.nameRun := 0, bg.endRun := 0 }

/-- A good message is heard on a link: a DOWN link is synchronised, and the parent's ends ORPHAN (R286, R289). -/
def heard (s : State) (k : Nat) (l : Link) (syncReq : Bool) : State :=
  let s := modLink s k (fun l => { l with heardAt := s.now, lost := false })
  let s := if k = 0 then { s with bg.orphan := false } else s
  if l.st == .down && !syncReq then syncLink s k else s

/-- Takes a message of a row's TYPE: discarded where it is bad (R277), without effect on another row's. A SYNC_ANS that finds its link DOWN
answers an earlier request, and only has the link synchronised. DEDUCED (log 57). -/
def feltIn (s : State) (m : FmpMsg) (type : Nat) (body : State → Nat → Link → Nat → State) : State :=
  if !feltRuns s || m.undeliv then s
  else if badFelt s m then badMessage s m
  else
    let p := m.payload.toNat
    if bitsAt p 124 4 ≠ type then s
    else match linkOf s m.peer.toNat with
      | some (k, l) =>
        let u := heard s k l (type == 9)
        if l.st == .down && type == 10 then u
        else match link u k with
        | some l => body u k l p
        | none => u
      | none => s

/-- A CREDIT is applied: RECV_TOTAL and POOL. DEDUCED (log 57). -/
def applyCredit (s : State) (k : Nat) (c : Credit) : State :=
  poolAdd (modLink s k (fun l => { l with recv := c.total, ackDue := true })) c.amt

/-- The CREDIT whose SENT_TOTAL - AMOUNT equals RECV_TOTAL. DEDUCED (log 57). -/
def fits (l : Link) (c : Credit) : Bool := (c.total + 2 ^ 32 - c.amt % 2 ^ 32) % 2 ^ 32 == l.recv

/-- A gap has stood since the first CREDIT ahead of it arrived (R279). DEDUCED (log 57). -/
def gapStart (l : Link) : Option Nat := (l.ooo.map (·.2)).foldl (fun (m : Option Nat) t => some (min t (m.getD t))) none

/-- Held CREDITs apply as gaps fill; a later gap goes on from its own start (R278, R279). DEDUCED (log 57). -/
def fillGap (s : State) (k : Nat) : Nat → State
  | 0 => s
  | n + 1 => match link s k with
    | some l => match l.ooo.find? (fun c => fits l c.1) with
      | some c => fillGap (applyCredit (modLink s k (fun l => { l with ooo := l.ooo.erase c })) k c.1) k n
      | none => modLink s k (fun l => { l with gapAt := gapStart l })
    | none => s

/-! ## Exchange policy (R290) -/

/-- Own need in credits: ceil(W1 ÷ 0.1 W). DEDUCED (log 58). -/
def ownNeed (s : State) : Nat := ceilDiv s.bg.pfSum 25600000

/-- The target t of the exchange. -/
def ownTarget (s : State) : Int :=
  let t : Int := ceilDiv (ownNeed s * (100 + getF s Reg.BG_CFG.MARGIN_PCT)) 100
  let t := if s.bg.critical then s.bg.ceilC
    else if s.bg.giving then (t * (100 - (getF s Reg.BG_CFG.GIVE_PCT : Int))).fdiv 100 else t
  clampInt s.bg.floor s.bg.ceilC t

/-- The OWN step: credits move between OWN and POOL toward the target. -/
def ownStep (s : State) : State :=
  if s.bg.ownFloor then s
  else
    let t := ownTarget s
    let d := if t + getF s Reg.BG_EXCH.HYST < s.bg.own then s.bg.own - t else 0
    let s := { s with bg.own := s.bg.own - d, bg.pool := s.bg.pool + d }
    let u := if s.bg.own < t then max 0 (min (t - s.bg.own) s.bg.pool) else 0
    noteOwn { s with bg.own := s.bg.own + u, bg.pool := s.bg.pool - u }

/-- The exchange policy runs: FELT_EN, and the power core's duties (R350, R361). -/
def policyOn (s : State) : Bool := flagOn s Reg.BG_CFG.FELT_EN && dutyRuns s 1

/-- A loop on chip power or a window wins a FREQ actuator: one that runs (R97, R290). -/
def powerLoopWins (s : State) : Bool :=
  s.be.loops.any (fun p =>
    let c := bitsAt p.2.w1 12 4
    p.2.win && lpRuns s p.2 && bitsAt p.2.w0 28 4 == 0 && (c == 0 || c == 7))

/-- Own PRIO (R290). DEDUCED (log 58). -/
def ownPrio (s : State) : Nat := if s.bg.critical then 2 else if s.bg.ceil || s.bg.stop || powerLoopWins s then 1 else 0

/-- What a child is short of, and what it is granted now (R290). DEDUCED (log 58). -/
def grantChild (s : State) (k : Nat) : State × Nat :=
  match link s k with
  | some l => match l.demand with
    | some d =>
      let eff := ((d.need : Int) - totDiff l.sent d.recv).toNat
      let g := if l.st == .up && decide (0 ≤ bgHeld s) then min eff s.bg.pool.toNat else 0
      (sendCredit s k g, eff - g)
    | none => (s, 0)
  | none => (s, 0)

/-- Grants to every child, PRIO 2 first: the state, the sum of what is short, and the highest PRIO that is short.
DEDUCED (log 58). -/
def grantAll (s : State) (short prio : Nat) : State × Nat × Nat :=
  let order := [2, 1, 0].flatMap (fun p => ((children s).filter (fun c => (c.2.demand.map (fun d => min d.prio 2)) == some p)).map (fun c => (c.1, p)))
  order.foldl (fun a c =>
    let r := grantChild a.1 c.1
    (r.1, a.2.1 + r.2, if 0 < r.2 then max a.2.2 c.2 else a.2.2)) (s, short, prio)

/-! ## The deterministic step (R296) -/

/-- STEPDOWN and STEPUP_OK of this member. -/
def ownDown (s : State) : Bool := decide (getF s Reg.BG_DET.SHORT_CONFIRM ≤ s.bg.shortRun)
def ownUpOk (s : State) : Bool := match s.bg.upSince with
  | some t => decide (t + ms (getF s Reg.BG_DET.UP_HOLD_MS) ≤ s.now)
  | none => false

/-- STEPDOWN and STEPUP_OK of this member and all below it. -/
def treeDown (s : State) : Bool := ownDown s || (children s).any (fun c => (c.2.demand.map (·.stepdown)).getD false)
def treeUpOk (s : State) : Bool := ownUpOk s && (children s).all (fun c => (c.2.demand.map (·.stepupOk)).getD false)

/-- Sends the STEP that is open to every child. DEDUCED (log 58). -/
def sendStep (s : State) (m : StepMsg) : State :=
  (children s).foldl (fun s c => sendLink s c.2 8 (m.angle.toNat * 2 ^ 80 + m.down * 2 ^ 76 + m.plan % 65536 * 2 ^ 60)) s

/-- A STEP is open: a timer is armed for its angle, or it applies at once where the angle is not ahead. -/
def openStep (s : State) (m : StepMsg) : State :=
  let s := sendStep { s with bg.step := some m } m
  let s := if (getF s Reg.BG_PLAN_ID.ID) % 65536 = m.plan then s else bgErr s Reg.BG_ERR.DET_PLAN
  armTimers (if timerDue s ⟨m.angle, 0, .step m.down⟩ then lowerAll (stepApply s) else s)

/-- The root decides a STEP (R296): down on STEPDOWN, up after UP_HOLD_MS of STEPUP_OK, which are judged while a STEP is open too. -/
def rootStep (s : State) : State :=
  let s := { s with bg.upOkSince := if treeUpOk s then some (s.bg.upOkSince.getD s.now) else none }
  if isRoot s && flagOn s Reg.BG_CFG.DET_EN && dutyRuns s 1 && s.bg.step.isNone then
    let angle := s.bg.view.aMax + BitVec.ofNat 32 (256 * getF s Reg.BG_DET.LEAD)
    let plan := getF s Reg.BG_PLAN_ID.ID % 65536
    if treeDown s && decide (s.bg.down < 15) then openStep s ⟨angle, s.bg.down + 1, plan⟩
    else match s.bg.upOkSince with
      | some t => if !treeDown s && decide (t + ms (getF s Reg.BG_DET.UP_HOLD_MS) ≤ s.now) && decide (0 < s.bg.down) then
          openStep { s with bg.upOkSince := none } ⟨angle, s.bg.down - 1, plan⟩ else s
      | none => s
  else s

/-! ## Lag (R291 to R293) -/

/-- A thermal ceiling, a local trip, the brake ceiling, a Brim hold or a settle fault limits a powered cluster: it keeps it below what the
arbitration or the plan gives it (R292). DEDUCED (log 58). -/
def limitedElse (s : State) (t : Nat) : Bool :=
  let a := actFreq t
  let base := (planLevel s).getD (actFromU s a (tget 0x7FFF s.be.arb a))
  (tile s t).pwrOk && (decide ((tget ({} : ThCeil) s.th.ceils t).level < base) || (tile s t).localTrip ||
    (s.pc.brake && decide (getPc s Reg.PC_BRAKE0.FREQ + 1 < base)) || (actHeld s a && decide (holdVal s a < base)) ||
    (vfsFault s (mfTile s t).rail && decide ((tile s t).applied < wantLevel s t)))

/-- The cause code of this member (R292). -/
def ownCause (s : State) : Nat :=
  let other := (mfTiles s).any (limitedElse s)
  if other then 2 else if s.bg.ceil || s.bg.stop || ownPrio s != 0 then 1 else 0

/-- The lowest applied level of the powered clusters. -/
def ownLevel (s : State) : Nat :=
  match ((mfTiles s).filter (fun t => (tile s t).pwrOk)).map (fun t => (tile s t).applied) with
  | [] => 1
  | v :: l => l.foldl min v

/-- This member's own entry (R291). -/
def ownPace (s : State) : Pace :=
  { aMin := s.sa.aX, aMax := s.sa.aX, minPeer := ownPeer s, cause := ownCause s, minLevel := ownLevel s - 1
    valid := s.sa.state == .tracking }

/-- Two entries combined: the angle furthest behind with what it carries, ties to the lower peer, and the one furthest ahead. -/
def joinPace (a b : Pace) : Pace :=
  if !b.valid then a else if !a.valid then b
  else
    let low := if ahead a.aMin b.aMin then b else if ahead b.aMin a.aMin then a else if b.minPeer < a.minPeer then b else a
    { low with aMax := if ahead b.aMax a.aMax then b.aMax else a.aMax }

/-- The combined entry of this member and what it heard from its children within PEER_TIMEOUT_US. -/
def treePace (s : State) : Pace :=
  (children s).foldl (fun a c => match c.2.pace with
    | some (p, t) => if s.now < t + us (getF s Reg.BG_FELT.PEER_TIMEOUT_US) then joinPace a p else a
    | none => a) (ownPace s)

def paceFields (p : Pace) : Nat :=
  p.aMin.toNat * 2 ^ 80 + p.aMax.toNat * 2 ^ 48 + p.minPeer % 16384 * 2 ^ 34 + p.cause % 4 * 2 ^ 32 + p.minLevel % 16 * 2 ^ 28 +
    b2n p.valid * 2 ^ 27

def parsePace (m : Nat) : Pace :=
  { aMin := BitVec.ofNat 32 (bitsAt m 80 32), aMax := BitVec.ofNat 32 (bitsAt m 48 32), minPeer := bitsAt m 34 14
    cause := bitsAt m 32 2, minLevel := bitsAt m 28 4, valid := bitAt m 27 }

/-- The member that a view names, where it names one (R293). -/
def namedBy (s : State) (v : Pace) : Option Nat :=
  if v.valid && decide (getF s Reg.BG_LAG.LAG_UNITS ≤ (v.aMax - v.aMin).toNat) then some v.minPeer else none

/-- Whether LAG_MODE and the named member's cause call for a shift (1), a pace (2) or neither (0) (R293). -/
def lagAction (mode cause : Nat) : Nat :=
  if cause = 0 ∨ 2 < cause then 0
  else match mode with
    | 1 => 1
    | 2 => 2
    | 3 => if cause = 1 then 1 else 2
    | _ => 0

/-- CONFIRM views have named a member: shift or pace here (R293). DEDUCED (log 58). -/
def applyLag (s : State) (v : Pace) : State :=
  let near := decide ((v.aMax - s.sa.aX).toNat < getF s Reg.BG_LAG.LAG_UNITS) || decide (2 ^ 31 ≤ (v.aMax - s.sa.aX).toNat)
  let self := v.minPeer == ownPeer s
  match lagAction (getF s Reg.BG_CFG.LAG_MODE) v.cause with
  | 1 =>
    { s with bg.acting := some v.minPeer, bg.critical := s.bg.critical || self, bg.giving := s.bg.giving || (!self && near) }
  | 2 =>
    { s with
      bg.acting := some v.minPeer, bg.pacing := s.bg.pacing || near
      bg.paceLevel := min 16 (v.minLevel + 1 + getF s Reg.BG_LAG.PACE_MARGIN) }
  | _ => s

/-- A view ends the state that stands (R293). -/
def viewEnds (s : State) (v : Pace) : Bool :=
  !v.valid || decide (2 * (v.aMax - v.aMin).toNat < getF s Reg.BG_LAG.LAG_UNITS) ||
    (match namedBy s v, s.bg.acting with
    | some n, some a => n != a
    | _, _ => false)

/-- A view is recorded and judged (R291, R293). DEDUCED (log 58). -/
def takeView (s : State) (v : Pace) : State :=
  let s := { s with bg.view := v }
  let s := setF (setF s Reg.BG_VIEW_MIN.ANGLE v.aMin.toNat) Reg.BG_VIEW_MAX.ANGLE v.aMax.toNat
  let s := setF (setF s Reg.BG_VIEW_INFO.PEER v.minPeer) Reg.BG_VIEW_INFO.CAUSE v.cause
  let s := setF (setF s Reg.BG_VIEW_INFO.LEVEL v.minLevel) Reg.BG_VIEW_INFO.VALID (b2n v.valid)
  let k := getF s Reg.BG_LAG.CONFIRM
  let n := namedBy s v
  let s := { s with
    bg.nameRun := if n.isSome then (if s.bg.named == n then s.bg.nameRun + 1 else 1) else 0, bg.named := n
    bg.endRun := if s.bg.acting.isSome && viewEnds s v then s.bg.endRun + 1 else 0 }
  let s := if s.bg.acting.isSome && decide (k ≤ s.bg.endRun) then
      { endLag s with bg.named := s.bg.named, bg.nameRun := s.bg.nameRun } else s
  lowerAll (if n.isSome && decide (k ≤ s.bg.nameRun) && !s.bg.orphan then applyLag s v else s)

/-- Forwards a view to every child. -/
def sendView (s : State) (v : Pace) : State := (children s).foldl (fun s c => sendLink s c.2 5 (paceFields v)) s

/-! ## The exchange period -/

/-- ACKs that a change of RECV_TOTAL owes (R278), on every link on which anything is sent (R286). -/
def sendAcks (s : State) : State :=
  s.bg.links.foldl (fun s p =>
    if p.2.ackDue && p.2.st != .answering then sendFelt (modLink s p.1 (fun l => { l with ackDue := false })) p.2.peer 2 (p.2.recv * 2 ^ 80)
    else s) s

/-- R290's part of the period. -/
def policy (s : State) : State :=
  let s := ownStep s
  let own := (ownTarget s - s.bg.own).toNat
  let (s, unmet, prio) := grantAll s own (if 0 < own then ownPrio s else 0)
  match link s 0 with
  | none => s
  | some l =>
    if s.bg.orphan then s
    else
      let s := sendLink s l 3 (min unmet 16777215 * 2 ^ 88 + prio * 2 ^ 86 + b2n (treeDown s) * 2 ^ 85 + b2n (treeUpOk s) * 2 ^ 84 +
        l.recv * 2 ^ 52)
      if unmet = 0 && decide (0 < s.bg.pool) then sendCredit s 0 s.bg.pool.toNat else s

/-- PACE to the parent, or VIEW from the root (R291), by the power core. While no core carries its duties a period counts as an invalid
view (R361). DEDUCED (log 58). -/
def lagPeriod (s : State) : State :=
  if !dutyRuns s 1 then takeView s { s.bg.view with valid := false }
  else
    let p := treePace s
    if isRoot s then takeView (sendView s p) p
    else match link s 0 with
      | some l => if s.bg.orphan then s else sendLink s l 4 (paceFields p)
      | none => s

/-- A member whose OWN exceeds a new CEIL moves the excess to POOL (R285). -/
def ceilMove (s : State) : State :=
  let d := max 0 (s.bg.own - s.bg.ceilC)
  noteOwn { s with bg.own := s.bg.own - d, bg.pool := s.bg.pool + d }

/-- EXCHANGE_PERIOD (R278, R290, R291, R296): PERIOD_US after the last. DEDUCED (log 58). -/
def exchange (s : State) : State :=
  if feltRuns s && s.bg.formed then
    let s := advanceTo s (s.bg.exAt + us (getF s Reg.BG_EXCH.PERIOD_US))
    let s := { s with
      bg.exAt := s.now, bg.shortRun := if s.bg.acted || s.bg.ceil || s.bg.stop then s.bg.shortRun + 1 else 0, bg.acted := false }
    let s := ceilMove (sendAcks s)
    let s := if policyOn s then policy s else s
    rootStep (lagPeriod s)
  else s

def execExchangePeriod (s : State) : Host.Outcome State Fault Refusal := finish (exchange s)

/-! ## Rows of the messages -/

/-- FELT_CREDIT (R278, R286, R290): the OWN step follows at once a CREDIT of the parent. DEDUCED (log 57). -/
def takeCredit (s : State) (k : Nat) (l : Link) (p : Nat) : State :=
  let c : Credit := ⟨bitsAt p 80 32, bitsAt p 56 24⟩
  if l.st == .waiting || l.st == .down || c.amt = 0 then s
  else if fits l c then
    let s := fillGap (applyCredit s k c) k 9
    if k = 0 && policyOn s then ownStep s else s
  else if 1 ≤ (c.total + 2 ^ 32 - l.recv) % 2 ^ 32 ∧ (c.total + 2 ^ 32 - l.recv) % 2 ^ 32 < 2 ^ 31 then
    if l.ooo.length < 8 && !l.ooo.any (·.1 == c) then
      modLink s k (fun l => { l with ooo := l.ooo ++ [(c, s.now)], gapAt := some (l.gapAt.getD s.now) })
    else s
  else s

def execFeltCredit (msg : FmpMsg) (s : State) : Host.Outcome State Fault Refusal := finish (feltIn s msg 1 takeCredit)

/-- FELT_ACK (R278, R283): the check is made at every ACK, also while SYNC_ANS is awaited, when R286 discards CREDITs and returned
messages only. -/
def takeAck (s : State) (k : Nat) (l : Link) (p : Nat) : State :=
  let v := bitsAt p 80 32
  let acked := if (v + 2 ^ 32 - l.acked) % 2 ^ 32 < 2 ^ 31 then v else l.acked
  let s := modLink s k (fun l => { l with
    acked := acked, retries := l.retries.filter (fun r => decide (2 ^ 31 ≤ (acked + 2 ^ 32 - r.credit.total) % 2 ^ 32)) })
  if (l.sent + 2 ^ 32 - acked) % 2 ^ 32 < 2 ^ 31 then s
  else
    let s := if bgErrClear s then setF s Reg.BG_ERR_PEER.PEER l.peer else s
    syncLink (bgErrAlways s Reg.BG_ERR.TOTAL_FAULT (peerUnit l.peer) l.peer 0) k

def execFeltAck (msg : FmpMsg) (s : State) : Host.Outcome State Fault Refusal := finish (feltIn s msg 2 takeAck)

/-- FELT_DEMAND (R290, R296). -/
def takeDemand (s : State) (k : Nat) (_l : Link) (p : Nat) : State :=
  if k = 0 then s
  else rootStep (modLink s k (fun l => { l with
    demand := some ⟨bitsAt p 88 24, bitsAt p 86 2, bitAt p 85, bitAt p 84, bitsAt p 52 32⟩ }))

def execFeltDemand (msg : FmpMsg) (s : State) : Host.Outcome State Fault Refusal := finish (feltIn s msg 3 takeDemand)

/-- FELT_PACE (R291): the last valid PACE of a child. -/
def takePace (s : State) (k : Nat) (_l : Link) (p : Nat) : State :=
  let v := parsePace p
  if k = 0 || !v.valid then s else modLink s k (fun l => { l with pace := some (v, s.now) })

def execFeltPace (msg : FmpMsg) (s : State) : Host.Outcome State Fault Refusal := finish (feltIn s msg 4 takePace)

/-- FELT_VIEW (R291, R293): forwarded on receipt, and recorded and judged by the power core (R350). -/
def viewIn (s : State) (k : Nat) (_l : Link) (p : Nat) : State :=
  if k = 0 then
    let s := sendView s (parsePace p)
    if dutyRuns s 1 then takeView s (parsePace p) else s
  else s

def execFeltView (msg : FmpMsg) (s : State) : Host.Outcome State Fault Refusal := finish (feltIn s msg 5 viewIn)

/-- FELT_AUDIT (R284). -/
def auditIn (s : State) (k : Nat) (_l : Link) (p : Nat) : State := if k = 0 then auditBegin s (bitsAt p 96 16) else s

def execFeltAudit (msg : FmpMsg) (s : State) : Host.Outcome State Fault Refusal := finish (feltIn s msg 6 auditIn)

/-- FELT_AUDIT_REPLY (R284): of the audit that runs here. DEDUCED (log 57). -/
def replyIn (s : State) (k : Nat) (_l : Link) (p : Nat) : State :=
  if k = 0 || s.bg.audit.isNone || bitsAt p 96 16 != s.bg.epoch then s
  else auditCheck (modLink s k (fun l => { l with reply := some (toSigned 64 (bitsAt p 32 64), bitAt p 31) }))

def execFeltAuditReply (msg : FmpMsg) (s : State) : Host.Outcome State Fault Refusal := finish (feltIn s msg 7 replyIn)

/-- FELT_STEP (R296). -/
def stepIn (s : State) (k : Nat) (_l : Link) (p : Nat) : State :=
  if k = 0 then openStep s ⟨BitVec.ofNat 32 (bitsAt p 80 32), bitsAt p 76 4, bitsAt p 60 16⟩ else s

def execFeltStep (msg : FmpMsg) (s : State) : Host.Outcome State Fault Refusal := finish (feltIn s msg 8 stepIn)

/-- FELT_SYNC_REQ (R286, R287). -/
def execFeltSyncReq (msg : FmpMsg) (s : State) : Host.Outcome State Fault Refusal :=
  finish (feltIn s msg 9 (fun s k l _ => syncReq s k l))

/-- FELT_SYNC_ANS (R286). -/
def execFeltSyncAns (msg : FmpMsg) (s : State) : Host.Outcome State Fault Refusal := finish (feltIn s msg 10 syncAns)

/-- FELT_BAD_MESSAGE (R277). -/
def execFeltBadMessage (msg : FmpMsg) (s : State) : Host.Outcome State Fault Refusal :=
  finish (if feltRuns s && badFelt s msg then badMessage s msg else s)

/-- FELT_UNDELIVERED (R279, R286): a CREDIT that came back is sent again later, or takes the link DOWN after its last retry;
one with an error, or that is not of the group, is discarded (R277), and the totals that R287 zeroed stay 0. DEDUCED (log 57). -/
def undelivered (s : State) (m : FmpMsg) : State :=
  let p := m.payload.toNat
  if !feltRuns s || !m.undeliv then s
  else if badFelt s m then badMessage s m
  else if bitsAt p 124 4 ≠ 1 then s
  else match linkOf s m.peer.toNat with
    | none => s
    | some (k, l) =>
      let c : Credit := ⟨bitsAt p 80 32, bitsAt p 56 24⟩
      match l.st with
      | .waiting => s
      | .answering => if l.zeroed then s else modLink s k (fun l => { l with back := l.back + c.amt })
      | st =>
        let tries := ((l.retries.find? (·.credit == c)).map (·.tries)).getD 0
        let rest := l.retries.filter (·.credit != c)
        let due := s.now + us (getF s Reg.BG_FELT.RETRY_US)
        let s' := modLink s k (fun l => { l with retries := rest ++ [⟨c, tries, some due⟩] })
        if st == .up && decide (getF s Reg.BG_FELT.RETRY_MAX ≤ tries) then linkDown (bgErrPeer s' Reg.BG_ERR.LINK_DOWN l.peer) k else s'

def execFeltUndelivered (msg : FmpMsg) (s : State) : Host.Outcome State Fault Refusal := finish (undelivered s msg)

/-- FELT_RETRY (R279): RETRY_US after a CREDIT came back, it is sent again unchanged. -/
def feltRetry (s : State) (k : Nat) : State :=
  match link s k with
  | some l =>
    if l.st != .up then s
    else match l.retries.find? (·.due.isSome) with
      | some r =>
        let s := advanceTo s (r.due.getD 0)
        let s := modLink s k (fun l => { l with retries := lmod (· == r) (fun r => { r with tries := r.tries + 1, due := none }) l.retries })
        sendFelt s l.peer 1 (r.credit.total * 2 ^ 80 + r.credit.amt * 2 ^ 56)
      | none => s
  | none => s

def execFeltRetry (link : Nat) (s : State) : Host.Outcome State Fault Refusal := finish (feltRetry s link)

/-- FELT_GAP_TIMEOUT (R279): a gap has stayed unfilled for 8 × RETRY_US. -/
def gapTimeout (s : State) (k : Nat) : State :=
  match link s k with
  | some l => match l.gapAt with
    | some t => if l.st == .up then
        let s := advanceTo s (t + us (8 * getF s Reg.BG_FELT.RETRY_US))
        syncLink (linkDown (bgErrPeer s Reg.BG_ERR.LINK_DOWN l.peer) k) k
      else s
    | none => s
  | none => s

def execFeltGapTimeout (link : Nat) (s : State) : Host.Outcome State Fault Refusal := finish (gapTimeout s link)

/-- PEER_TIMEOUT (R289): a link has been silent for PEER_TIMEOUT_US. -/
def peerTimeout (s : State) (k : Nat) : State :=
  match link s k with
  | some l =>
    if feltRuns s && !l.lost then
      let s := advanceTo s (l.heardAt + us (getF s Reg.BG_FELT.PEER_TIMEOUT_US))
      let s := modLink s k (fun l => { l with lost := true })
      if k = 0 then linkDown (bgErrPeer { endLag s with bg.orphan := true } Reg.BG_ERR.ORPHAN l.peer) 0
      else linkDown (bgErrPeer s Reg.BG_ERR.PEER_LOST l.peer) k
    else s
  | none => s

def execPeerTimeout (link : Nat) (s : State) : Host.Outcome State Fault Refusal := finish (peerTimeout s link)

/-! ## Formation -/

/-- The group forms from the manifest (R266, R282, R286, R288): every link is synchronised. DEDUCED (log 57). -/
def formGroup (s : State) : State :=
  match group s with
  | none => s
  | some g =>
    let peers := (match g.parent with
      | some p => [(0, p)]
      | none => []) ++ (List.range g.children.length).map (fun k => (k + 1, g.children.getD k 0))
    let links := peers.map (fun p => (p.1, ({ peer := p.2, heardAt := s.now } : Link)))
    let own : Int := min g.floor g.initial
    let s := { s with
      bg.formed := true, bg.initial := g.initial, bg.floor := g.floor, bg.ceilC := g.ceil, bg.adjust := 0
      bg.issued := if g.parent.isNone then (g.issued : Int) else 0, bg.links := links, bg.own := own, bg.pool := g.initial - own
      bg.syncing := true, bg.ownFloor := true }
    syncCheck (links.foldl (fun s p => syncLink s p.1) s)

/-! ## Commands -/

/-- The first operand of ENVELOPE_SET outside its range (R329); a FLOOR or CEIL that MASK does not name takes its current value, which is
its reset value while no group is formed. DEDUCED (log 58). -/
def envOperand (s : State) (d : List Byte) : Option Nat :=
  let m := byteAt d 8
  let floor := if bitAt m 0 then (leAt d 12 4 : Int) else s.bg.floor
  let ceil := if bitAt m 1 then (leAt d 16 4 : Int) else s.bg.ceilC
  if m = 0 then some 8
  else if bitAt m 0 && decide (40960 < leAt d 12 4) then some 12
  else if bitAt m 1 && decide (40960 < leAt d 16 4) then some 16
  else if (bitAt m 0 || bitAt m 1) && decide (ceil < floor) then some (if bitAt m 1 then 16 else 12)
  else if bitAt m 2 && !isRoot s then some 8
  else none

/-- The fields that MASK does not name hold 0, as reserved bytes (R11). -/
def envSpec (s : State) (d : List Byte) : OpSpec :=
  { secure := s.hr.lockEnv, named := [(12, 12)], bits := [(8, 7)], target := noTarget d, operand := envOperand s d }

def envBody (s : State) (f : Flight) (d : List Byte) : State :=
  if !s.bg.formed then complete s f 0x0008 0
  else
    let m := byteAt d 8
    let s := if bitAt m 0 then { s with bg.floor := leAt d 12 4 } else s
    let s := if bitAt m 1 then { s with bg.ceilC := leAt d 16 4 } else s
    let s := if bitAt m 2 then
        let δ := toSigned 32 (leAt d 20 4)
        poolAdd { s with bg.issued := s.bg.issued + δ, bg.adjust := s.bg.adjust + δ } δ else s
    complete (poolAdd s 0) f 0 0

/-- ENVELOPE_SET (R285, R335). -/
def execEnvelopeSet (s : State) : Host.Outcome State Fault Refusal :=
  finish (runDesc s (fun d => dOp d == 0x50) .taken envSpec envBody)

/-- The peer of FELT_SYNC is one of the member's links (R335). -/
def feltTarget (s : State) (d : List Byte) : Bool :=
  dTarget d / 2 ^ 24 == 9 && validUnit s (dTarget d) && (!s.bg.formed || (linkOf s (dTarget d % 2 ^ 24)).isSome)

def feltSyncBody (s : State) (f : Flight) (d : List Byte) : State :=
  let peer := dTarget d % 2 ^ 24
  if !s.bg.formed then complete s f 0x0008 0
  else match linkOf s peer with
    | some (k, _) => syncLink (setJob s f (.feltSync peer)) k
    | none => complete s f 0x0006 0

/-- FELT_SYNC (R286, R335). -/
def execFeltSync (s : State) : Host.Outcome State Fault Refusal :=
  finish (runDesc s (fun d => dOp d == 0x51) .taken (fun s d => { target := feltTarget s d }) feltSyncBody)

/-! ## The frequency plan (R294) -/

def parsePlan (bs : List Byte) : Plan :=
  ⟨leAt bs 8 4, (List.range (leAt bs 6 2)).map (fun k => (leAt bs (32 + 4 * k) 2, byteAt bs (34 + 4 * k)))⟩

/-- Whether phases rise strictly. -/
def rising : List Nat → Bool
  | a :: b :: l => decide (a < b) && rising (b :: l)
  | _ => true

def planOk (bs : List Byte) : Bool :=
  let n := leAt bs 6 2
  leAt bs 0 4 == 0x4E414C50 && leAt bs 4 2 == 1 && decide (1 ≤ n) && decide (n ≤ 64) && crc32 (bs.drop 32) == leAt bs 12 4 &&
    allZero bs 16 16 && (List.range n).all (fun k => byteAt bs (35 + 4 * k) == 0) && rising ((parsePlan bs).entries.map (·.1)) &&
    (parsePlan bs).entries.all (fun e => decide (1 ≤ e.2) && decide (e.2 ≤ 16))

/-- PLAN_SWITCH (R294): the accepted plan replaces the loaded one. DEDUCED (log 58). -/
def switchPlan (s : State) : State :=
  match s.bg.pendPlan with
  | some (p, key) =>
    if released s 6 && dutyRuns s 2 then
      let s := setF { s with bg.plan := some p, bg.pendPlan := none } Reg.BG_PLAN_ID.ID p.id
      completeKey (lowerAll (armTimers (planFollow s))) key 0 0
    else s
  | none => s

def execPlanSwitch (s : State) : Host.Outcome State Fault Refusal := finish (switchPlan s)

def planLoadBody (mem : MemRead) (s : State) (f : Flight) (d : List Byte) : State :=
  match mem with
  | .fail st => readFail s f (leAt d 8 8) (leAt d 16 4) 0 st.toNat
  | .data bs corr =>
    let s := readDone corr s f (leAt d 8 8) (leAt d 16 4) 0
    let bs := bs.take (leAt d 16 4)
    if 32 + 4 * leAt bs 6 2 ≠ leAt d 16 4 || !planOk bs then complete s f 0x0012 0
    else
      let s := match s.bg.pendPlan with
        | some (_, key) => completeKey s key 0x0013 0
        | none => s
      let s := setJob { s with bg.pendPlan := some (parsePlan bs, f.key) } f .planLoad
      if s.sa.state == .tracking then s else switchPlan s

/-- PLAN_LOAD (R294, R325). -/
def execPlanLoad (mem : MemRead) (s : State) : Host.Outcome State Fault Refusal :=
  finish (runRead s (fun d => dOp d == 0x32) .planLoad (fun _ d => loadSpec true d) (fun s _ => !readOpen s 0) (planLoadBody mem))

end Sys2Proof.Machine
end

