-- ==== Sys2Proof/Machine/Fuse.lean ====
section
/-! DEFINITION. The fuse word (R403) and the repair list (R407 to R409). -/

namespace Sys2Proof.Machine

/-! ## The fuse word (R403) -/

/-- The integers assigned to the data bits: those from 3 to 31 that are not powers of two, ascending. -/
def fuseInts : List Nat := (List.range 32).filter (fun n => decide (3 ≤ n) && n != 4 && n != 8 && n != 16)

/-- The check bits c_0 to c_4 that the data bits of a word give. -/
def fuseChecks (v : Nat) : Nat := fuseInts.zipIdx.foldl (fun c p => if bitAt v p.2 then c ^^^ p.1 else c) 0

/-- The number of 1 bits among the low n bits of a word is odd. -/
def oddBits (v n : Nat) : Bool := (List.range n).foldl (fun b k => b != bitAt v k) false

/-- The word that holds 26 data bits: bits [30:26] are c_0 to c_4, bit 31 the overall parity. -/
def fuseWord (data : Nat) : Nat :=
  let v := data % 2 ^ 26
  let w := v + 2 ^ 26 * fuseChecks v
  w + 2 ^ 31 * b2n (oddBits w 31)

/-- What the check finds in a word. -/
inductive FuseRead where
  | good
  | corrected (w : Nat)
  | bad
deriving DecidableEq, Repr

/-- The bit that a non-zero syndrome names: a check bit for a power of two, else a data bit. -/
def fuseBit (syn : Nat) : Nat :=
  match syn with
  | 1 => 26
  | 2 => 27
  | 4 => 28
  | 8 => 29
  | 16 => 30
  | n => (fuseInts.findIdx? (· == n)).getD 31

/-- The check of R403: one bit in error is corrected, two fail. -/
def fuseCheck (w : Nat) : FuseRead :=
  let syn := fuseChecks w ^^^ bitsAt w 26 5
  if oddBits w 32 then .corrected (w ^^^ 2 ^ (if syn = 0 then 31 else fuseBit syn))
  else if syn = 0 then .good else .bad

/-- A void word of the repair list, and one that fails its check, are skipped (R408). -/
def fuseVoid (w : Nat) : Bool := w == 0xFFFFFFFF || fuseCheck w == .bad

/-! ## The repair list (R407, R408) -/

/-- First word of the repair list. -/
def repairBase : Nat := 3072

/-- Words of the repair list that are not empty, in word order. -/
def repairWords (s : State) : List (Nat × Nat) := s.rs.fuses.filter (fun p => decide (repairBase ≤ p.1))

/-- The records in force, as KIND and payload. -/
def repairs (s : State) : List (Nat × Nat) :=
  ((repairWords s).filter (fun p => !fuseVoid p.2)).map (fun p => (bitsAt p.2 20 6, bitsAt p.2 0 20))

/-- A record names a unit that FX_BUILD has. -/
def repairInBuild (s : State) (kind p : Nat) : Bool := match kind with
  | 1 => decide (bitsAt p 0 7 < s.build.tiles)
  | 2 => decide (bitsAt p 0 11 / 16 < s.build.tiles)
  | 3 => decide (bitsAt p 0 11 / 8 < s.build.tiles) || (decide (1024 ≤ bitsAt p 0 11) && decide (bitsAt p 0 11 < 1056))
  | 4 => decide (bitsAt p 0 8 < s.build.ports)
  | 5 => decide (bitsAt p 16 4 < s.build.rails) && decide (bitsAt p 0 8 < s.build.ports)
  | 6 => decide (bitsAt p 19 1 < s.build.hubs) && (!bitAt p 18 || decide (bitsAt p 0 14 < 4096))
  | 7 => decide (bitsAt p 5 1 < s.build.hubs) && decide (s.build.hubs = 2) && decide (bitsAt p 0 5 < 18)
  | 8 => true
  | _ => false

/-- The payloads of the records of one KIND that name units of the build, in word order. -/
def repairsOf (s : State) (kind : Nat) : List Nat :=
  ((repairs s).filter (fun r => r.1 == kind && repairInBuild s r.1 r.2)).map (·.2)

/-- A port is fused bad. -/
def portBad (s : State) (p : Nat) : Bool := (repairsOf s 4).any (fun x => bitsAt x 0 8 == p)

/-- A reserve core is fused bad. -/
def reserveBad (s : State) (k : Nat) : Bool := (repairsOf s 8).any (fun x => bitsAt x 0 2 == k)

/-- The control core of a tile agent is fused bad. -/
def tileCoreBad (s : State) (t : Nat) : Bool := (repairsOf s 1).any (fun x => bitsAt x 0 7 == t)

/-- Channels of a detector, and of a sensor, that are fused bad: bit 0 A, bit 1 B. -/
def chansBad (s : State) (kind i : Nat) : Nat :=
  (repairsOf s kind).foldl (fun m x => if bitsAt x 0 11 == i then orBit m (bitsAt x 11 1) else m) 0
def detBad (s : State) (d : Nat) : Nat := chansBad s 2 d
def snsBad (s : State) (n : Nat) : Nat := chansBad s 3 n

/-! ## Rows and lanes (R409) -/

/-- The key of an SRAM row: hub × 2^15 + firmware × 2^14 + row. -/
def rowKey (hub : Nat) (fw : Bool) (row : Nat) : Nat := 2 ^ 15 * hub + 2 ^ 14 * b2n fw + row

/-- Spare rows of a hub that are still free. -/
def rowsFree (s : State) (hub : Nat) (fw : Bool) : Nat :=
  (if fw then 16 else 64) - (s.sp.mapped.filter (fun k => k / 2 ^ 14 == 2 * hub + b2n fw)).length

/-- SP_LANE of the hub that transmits. -/
def laneFld (hub : Nat) : Fld := Reg.SP_LANE.FAILED hub

/-- Lanes of a hub's direction that are out of service. -/
def lanesFailed (s : State) (hub : Nat) : Nat := (bitList (getF s (laneFld hub)) 18).length

/-- The lowest-numbered spare lane of a hub's direction that is in service and carries no other lane's traffic (R412). -/
def spareLane (s : State) (hub : Nat) : Option Nat :=
  [16, 17].find? (fun l => !bitAt (getF s (laneFld hub)) l && !s.sp.laneAt.any (fun p => p.1 / 32 == hub && p.2 == l))

/-- The lane whose traffic a lane carries: its own, or for a spare that of the lane it stands for. -/
def laneCarries (s : State) (hub lane : Nat) : Option Nat :=
  if lane < 16 then some (32 * hub + lane) else (s.sp.laneAt.find? (fun p => p.1 / 32 == hub && p.2 == lane)).map (·.1)

/-- A lane goes out of service, and its traffic moves to a spare lane where one is left (R412). -/
def laneOut (s : State) (hub lane : Nat) : State :=
  let s := setF s (laneFld hub) (orBit (getF s (laneFld hub)) lane)
  match laneCarries s hub lane with
  | none => s
  | some k =>
    let s := { s with sp.laneAt := tdel s.sp.laneAt k }
    match spareLane s hub with
    | some l => { s with sp.laneAt := tput s.sp.laneAt k l }
    | none => s

/-- Mirror Link lanes out of service: those of the worse direction (DU_STATUS.LANES_FAILED, R372). -/
def lanesOut (s : State) : Nat := max (lanesFailed s 0) (lanesFailed s 1)

/-- A repair record beyond the spare capacity. -/
def overflow (s : State) : State := setF s Reg.SP_STATUS.OVERFLOW 1

/-- Reports how many spare rows are free (SP_ROWS). -/
def putRows (s : State) : State :=
  let s := setF (setF s Reg.SP_ROWS.H0_STATE (rowsFree s 0 false)) Reg.SP_ROWS.H0_FW (rowsFree s 0 true)
  if s.build.hubs = 2 then setF (setF s Reg.SP_ROWS.H1_STATE (rowsFree s 1 false)) Reg.SP_ROWS.H1_FW (rowsFree s 1 true) else s

/-- A ROW_BAD record takes effect (R408). -/
def fuseRow (s : State) (p : Nat) : State :=
  let k := rowKey (bitsAt p 19 1) (bitAt p 18) (bitsAt p 0 14)
  if s.sp.mapped.contains k then s
  else if rowsFree s (bitsAt p 19 1) (bitAt p 18) = 0 then overflow s
  else { s with sp.mapped := s.sp.mapped ++ [k] }

/-- A LANE_BAD record takes effect (R408). -/
def fuseLane (s : State) (p : Nat) : State :=
  let f := laneFld (bitsAt p 5 1)
  let l := bitsAt p 0 5
  if bitAt (getF s f) l then s
  else if 2 ≤ lanesFailed s (bitsAt p 5 1) then overflow s
  else laneOut s (bitsAt p 5 1) l

/-- ROW_BAD and LANE_BAD, before step 3 (R408). -/
def fuseRowsLanes (s : State) : State := putRows ((repairsOf s 7).foldl fuseLane ((repairsOf s 6).foldl fuseRow s))

/-- SP_STATUS as the repair list gives it at the commit (R407, R408). -/
def fuseStatus (s : State) : State :=
  let ws := repairWords s
  let s := setF (setF s Reg.SP_STATUS.RECORDS ws.length) Reg.SP_STATUS.FULL (b2n (ws.length == 1024))
  let s := setF s Reg.SP_STATUS.VOID (min 255 (ws.filter (fun p => fuseVoid p.2)).length)
  if (repairs s).any (fun r => r.1 != 0 && !repairInBuild s r.1 r.2) then setF s Reg.SP_STATUS.IGNORED 1 else s

end Sys2Proof.Machine
end

