-- ==== Sys2Proof/Machine/Mailbox.lean ====
section
/-! DEFINITION. The mailboxes (R345 to R348). -/

namespace Sys2Proof.Machine

def hdrType (h : Nat) : Nat := bitsAt h 24 8
def hdrLen (h : Nat) : Nat := bitsAt h 20 4
def hdrSeq (h : Nat) : Nat := bitsAt h 0 16

/-- The core that serves a channel runs, or is covered: the scheduler core for channels 0 and 1, the security core for 2 and 3
(R350). DEDUCED (log 59). -/
def mbRuns (s : State) (c : Nat) : Bool := hostRuns s && decide (c < 4) && dutyRuns s (if c < 2 then 2 else 0)

/-- Takes every whole message of a queue. A header of TYPE 0 is a framing error; a header whose words have not all come waits
(R346). The TYPEs from 0x80 are no requests: nothing answers them. DEDUCED (log 59). -/
def takeMsgs (now : Nat) : Nat → Mbox → Mbox × Bool
  | 0, b => (b, false)
  | k + 1, b =>
    match b.h2f with
    | [] => ({ b with partAt := none }, false)
    | h :: t =>
      if hdrType h = 0 then ({ b with h2f := [], partAt := none }, true)
      else if t.length < hdrLen h then ({ b with partAt := some (b.partAt.getD now) }, false)
      else
        let m := h :: t.take (hdrLen h)
        takeMsgs now k { b with
          h2f := t.drop (hdrLen h)
          partAt := none
          msgs := if 0x80 ≤ hdrType h then b.msgs else b.msgs ++ [m] }

/-- FX-4 looks through the queue of channel c. -/
def mbTake (s : State) (c : Nat) : State :=
  let (b, bad) := takeMsgs s.now 17 (mbox s c)
  let s := setMbox s c b
  if bad then incSat s (Reg.MB_DROP.FRAME c) else s

/-- Bit 0 of MBc_H2F_DB is set: it clears, and the whole messages are taken (R346). -/
def mbDoorbell (s : State) (c : Nat) : State :=
  if mbRuns s c && (mbox s c).db then mbTake (setMbox s c { mbox s c with db := false }) c else s

def execMbDoorbell (chan : BitVec 2) (s : State) : Host.Outcome State Fault Refusal := finish (mbDoorbell s chan.toNat)

/-- Host software has written a word to MBc_H2F_DATA (R345). A message whose header waited may now be whole.
DEDUCED (log 59). -/
def mbWord (s : State) (c w : Nat) : State :=
  let b := mbox s c
  if 16 ≤ b.h2f.length then incSat s (Reg.MB_DROP.H2F c)
  else
    let s := setMbox s c { b with h2f := b.h2f ++ [w] }
    if b.partAt.isSome then mbTake s c else s

/-- The words of a header have not followed within 10 µs (R346). -/
def mbFraming (s : State) (c : Nat) : State :=
  match (mbox s c).partAt with
  | none => s
  | some t =>
    let s := advanceTo s (t + us 10)
    incSat (setMbox s c { mbox s c with h2f := [], partAt := none }) (Reg.MB_DROP.FRAME c)

def execMailboxFramingTimeout (chan : BitVec 2) (s : State) : Host.Outcome State Fault Refusal := finish (mbFraming s chan.toNat)

/-- Sets bit 0 of MBc_F2H_DB; a Mailbox event when it goes from 0 to 1 unmasked (R348). -/
def mbBell (s : State) (c : Nat) : State :=
  let v := getF s (Reg.MB_F2H_DB.BITS c)
  if bitAt v 0 then s
  else
    let s := setF s (Reg.MB_F2H_DB.BITS c) (v + 1)
    if bitAt (getF s (Reg.MB_F2H_MASK.MASK c)) 0 then s
    else raiseEvent s 0x0B 1 (hubUnit s) (leBytes 1 c ++ zeros 3 ++ leBytes 4 1)

/-- Writes the oldest waiting reply where the queue can hold it whole. -/
def mbPlaceOne (s : State) (c : Nat) : State :=
  let b := mbox s c
  match b.replies with
  | [] => s
  | (_, r) :: t =>
    if b.f2h.length + r.length ≤ 16 then mbBell (setMbox s c { b with f2h := b.f2h ++ r, replies := t }) c else s

/-- Writes the waiting replies that the queue can hold. DEDUCED (log 59). -/
def mbPlace (s : State) (c : Nat) : State := (mbox s c).replies.foldl (fun s _ => mbPlaceOne s c) s

/-- A read of MBc_F2H_DATA: the oldest word leaves, and a waiting reply may find room (R348). -/
def mbPop (s : State) (c : Nat) : State := mbPlace (setMbox s c { mbox s c with f2h := (mbox s c).f2h.tail }) c

/-- The oldest message of channel c is answered by `reply`, where its TYPE is one that `sel` accepts (R347). -/
def mbAnswer (s : State) (c : Nat) (sel : Nat → Bool) (reply : State → List Nat → State × List Nat) : State :=
  if mbRuns s c then
    match (mbox s c).msgs with
    | [] => s
    | m :: t =>
      let h := m.headD 0
      if sel (hdrType h) then
        let s := setMbox s c { mbox s c with msgs := t }
        let (s, body) := reply s m.tail
        let head := (hdrType h + 0x80) * 2 ^ 24 + body.length * 2 ^ 20 + hdrSeq h
        mbPlace (setMbox s c { mbox s c with replies := (mbox s c).replies ++ [(s.now, head :: body)] }) c
      else s
  else s

/-- A reply of status 0, or of status 2 where LEN is wrong. -/
def mbStatus (ok : Bool) (s : State) (words : List Nat) : State × List Nat := if ok then (s, 0 :: words) else (s, [2])

def execMbEcho (chan : BitVec 2) (s : State) : Host.Outcome State Fault Refusal :=
  finish (mbAnswer s chan.toNat (· == 0x01) (fun s p => mbStatus (decide (p.length ≤ 14)) s p))

def execMbFwInfo (chan : BitVec 2) (s : State) : Host.Outcome State Fault Refusal :=
  finish (mbAnswer s chan.toNat (· == 0x02) (fun s p =>
    mbStatus p.isEmpty s ((List.range 5).map (fun k => getF s (Reg.FW_IMAGE.ID k)))))

/-- State of core code 0x03: that of the lowest-numbered tile agent whose control core is not RUNNING (R356). -/
def tileCoreState (s : State) : Nat :=
  (((List.range s.build.tiles).find? (fun t => (tcore s t).st != 1)).map (fun t => (tcore s t).st)).getD 1

/-- FW_STATE, which the CORE_STATE reply repeats (R347, R356). -/
def fwState (s : State) : Nat :=
  ((List.range 8).map (fun k => (if k = 3 then tileCoreState s else (core s k).st) * 16 ^ k)).foldl (· + ·) 0

def execMbCoreState (chan : BitVec 2) (s : State) : Host.Outcome State Fault Refusal :=
  finish (mbAnswer s chan.toNat (· == 0x03) (fun s p => mbStatus p.isEmpty s [fwState s]))

/-- A message of the secure channels only: status 3 elsewhere, 2 where LEN is wrong (R347). DEDUCED (log 59). -/
def mbLock (c : Nat) (act : State → State) (s : State) (p : List Nat) : State × List Nat :=
  if c < 2 then (s, [3]) else if p.isEmpty then (act s, [0]) else (s, [2])

def execMbLockFirmware (chan : BitVec 2) (s : State) : Host.Outcome State Fault Refusal :=
  finish (mbAnswer s chan.toNat (· == 0x20) (mbLock chan.toNat (fun s => { s with hr.lockFw := true })))

def execMbLockEnvelope (chan : BitVec 2) (s : State) : Host.Outcome State Fault Refusal :=
  finish (mbAnswer s chan.toNat (· == 0x21) (mbLock chan.toNat (fun s => { s with hr.lockEnv := true })))

/-- The TYPEs of R347. -/
def mbKnown (t : Nat) : Bool := [0x01, 0x02, 0x03, 0x20, 0x21].contains t

def execMbUnknownType (chan : BitVec 2) (s : State) : Host.Outcome State Fault Refusal :=
  finish (mbAnswer s chan.toNat (fun t => !mbKnown t) (fun s _ => (s, [1])))

/-- A reply has found no room for 1 ms: it is discarded and counted (R348). -/
def mbReplyLate (s : State) (c : Nat) : State :=
  match (mbox s c).replies with
  | [] => s
  | (t, _) :: l =>
    let s := advanceTo s (t + ms 1)
    mbPlace (incSat (setMbox s c { mbox s c with replies := l }) (Reg.MB_DROP.F2H c)) c

def execMbReplyTimeout (chan : BitVec 2) (s : State) : Host.Outcome State Fault Refusal := finish (mbReplyLate s chan.toNat)

end Sys2Proof.Machine
end

