-- ==== Sys2Proof/Machine/Tap.lean ====
section
/-! DEFINITION. The TAP controller and its registers (R59, R60): the states through which TCK takes it, what Capture-IR and Capture-DR
load, what an instruction selects, and TDO. -/

namespace Sys2Proof.Machine

/-- The next state at an edge of TCK, by TMS, as IEEE 1149.1-2013, which R59 names, gives it. PRESUMED (log 78). -/
def tapNext (st : TapSt) (tms : Bool) : TapSt := match st with
  | .testLogicReset => if tms then .testLogicReset else .runTestIdle
  | .runTestIdle => if tms then .selectDr else .runTestIdle
  | .selectDr => if tms then .selectIr else .captureDr
  | .captureDr => if tms then .exit1Dr else .shiftDr
  | .shiftDr => if tms then .exit1Dr else .shiftDr
  | .exit1Dr => if tms then .updateDr else .pauseDr
  | .pauseDr => if tms then .exit2Dr else .pauseDr
  | .exit2Dr => if tms then .updateDr else .shiftDr
  | .updateDr => if tms then .selectDr else .runTestIdle
  | .selectIr => if tms then .testLogicReset else .captureIr
  | .captureIr => if tms then .exit1Ir else .shiftIr
  | .shiftIr => if tms then .exit1Ir else .shiftIr
  | .exit1Ir => if tms then .updateIr else .pauseIr
  | .pauseIr => if tms then .exit2Ir else .pauseIr
  | .exit2Ir => if tms then .updateIr else .shiftIr
  | .updateIr => if tms then .selectDr else .runTestIdle

/-- The data registers of R59. -/
inductive TapReg where
  | bypass | idcode | freeze | scan | load
deriving DecidableEq, Repr

/-- The data register that an instruction selects; a code that R59 does not list acts as BYPASS. -/
def tapReg (ir : Nat) : TapReg :=
  if ir = 0x01 then .idcode else if ir = 0x20 then .freeze else if ir = 0x21 then .scan else if ir = 0x22 then .load else .bypass

/-- FX_IDCODE (R60). -/
def fxIdcode (s : State) : Nat := 0x2F404001 + 2 * bitsAt (tget 0 s.rs.fuses 0) 0 11

/-- What FX_SCAN shifts out as word k (R436): words 0 and 1 always, the rest while the snapshot is valid. -/
def scanOut (s : State) (k : Nat) : Nat :=
  if k = 0 then 0x4E414353 else if k = 1 then 0x00040201
  else if flagOn s Reg.OBS_FRZ_STATUS.SNAP_VALID then tget 0 s.obs.snap k else 0

/-- What Capture-DR loads into the FX_FREEZE data register (R437). -/
def freezeCapture (s : State) : Nat :=
  getF s Reg.OBS_FRZ_STATUS.FROZEN + 2 * getF s Reg.OBS_FRZ_STATUS.SNAP_VALID + 4 * getF s Reg.OBS_FRZ_STATUS.SNAP_KEPT +
    8 * getF s Reg.OBS_FRZ_STATUS.ARMED + 16 * getF s Reg.OBS_FRZ_STATUS.SOURCE

/-- The bits of v from bit 0 up to bit n - 1: the order in which a register shifts out. -/
def bitsLsb (v n : Nat) : List Bool := (List.range n).map (bitAt v)

/-- What Capture-IR loads: 0b0000_0001 (R59). -/
def irCapture : Nat := 0x01

/-- What Capture-DR loads into the register selected: a 0 for BYPASS, the identification, the freeze status, or word 0 of the scan
chain. Capture has no stated value for FX_LOAD, whose register holds what was shifted in. PRESUMED (log 78). -/
def drCapture (s : State) : List Bool := match tapReg s.tap.ir with
  | .bypass => [false]
  | .idcode => bitsLsb (fxIdcode s) 32
  | .freeze => bitsLsb (freezeCapture s) 8
  | .scan => bitsLsb (scanOut s 0) 32
  | .load => s.tap.dr

/-- The scan chain moves on by a bit and ignores TDI (R436): after the last bit of a word stands the next word. -/
def scanShift (s : State) (x : Tap) : Tap :=
  if x.dr.length ≤ 1 then { x with scanWord := x.scanWord + 1, dr := bitsLsb (scanOut s (x.scanWord + 1)) 32 }
  else { x with dr := x.dr.tail }

/-- One edge of TCK in Shift-DR: TDO's bit goes out, and the register selected moves on. The bytes of an image are as many as come, so
that the register of FX_LOAD grows with them. PRESUMED (log 78). -/
def drShift (s : State) (x : Tap) (tdi : Bool) : Tap :=
  let x := { x with out := x.out ++ [x.dr.headD false] }
  match tapReg x.ir with
  | .scan => scanShift s x
  | .load => { x with dr := x.dr ++ [tdi] }
  | _ => { x with dr := x.dr.tail ++ [tdi] }

/-- One edge of TCK as the registers take it: capture and shift, and the instruction that Update-IR puts in force or Test-Logic-Reset
selects. The effect of Update-DR is the rows' (R436, R437). The table has no row for TCK: a row of the TAP runs the edges that it stands
for, an idle step one of a scan, and the others happen unseen. DESIGN CHOICE (log 79). -/
def tapEdge (s : State) (tms tdi : Bool) : State :=
  let x := s.tap
  let x : Tap := match x.st with
    | .testLogicReset => { x with ir := 0x01 }
    | .captureIr => { x with irShift := irCapture }
    | .shiftIr => { x with irShift := x.irShift / 2 + 128 * b2n tdi }
    | .updateIr => { x with ir := x.irShift }
    | .captureDr => { x with dr := drCapture s, scanWord := 0, out := [] }
    | .shiftDr => drShift s x tdi
    | _ => x
  { s with tap := { x with st := tapNext x.st tms } }

/-- The snapshot shifts out: the controller stands in Shift-DR of FX_SCAN. -/
def scanning (s : State) : Bool := s.tap.st == .shiftDr && tapReg s.tap.ir == .scan

/-- While the snapshot shifts out, TCK runs at its 50 MHz: one edge, and one bit, in each five reference cycles that pass idle (R59,
R436). DESIGN CHOICE (log 79). -/
def tckRuns (s : State) : State := if scanning s && s.now % 5 == 0 then tapEdge s false false else s

/-- Nothing is commanded: one reference cycle of 4 ns passes, on each port the beat or message that FX-4 presents passes, where there is
one (R41), and a scan goes on. DESIGN CHOICE (log 1). -/
def idle (s : State) : State :=
  tckRuns { advanceTo s (s.now + 1) with bg.tx := s.bg.tx.tail, hap.mq := s.hap.mq.tail, hap.ss := passBeat s.hap.ss }

/-- Shift-DR for as many edges as there are bits, of which the last leaves it for Exit1-DR (R59). -/
def tapShift (s : State) : List Bool → State
  | [] => s
  | [b] => tapEdge s true b
  | b :: bs => tapShift (tapEdge s false b) bs

/-- The data register of an instruction is captured, and the bits given are shifted in (R59). That the instruction had been put in
before is unseen. DESIGN CHOICE (log 79). -/
def tapScan (s : State) (ir : Nat) (bits : List Bool) : State :=
  tapShift (tapEdge { s with tap := { s.tap with ir := ir, st := .captureDr } } false false) bits

/-- The bits of a data register as a number, bit 0 next to TDO. -/
def drValue (s : State) : Nat := (s.tap.dr.zipIdx.filter (·.1)).foldl (fun n p => n + 2 ^ p.2) 0

/-- TDO (R27, R59): it drives in Shift-IR and Shift-DR alone, the bit next to it, and is at high impedance otherwise. -/
def tapDrives (st : TapSt) : Bool := st == .shiftDr || st == .shiftIr
def tapOut (s : State) : Bool := if s.tap.st == .shiftIr then bitAt s.tap.irShift 0 else s.tap.dr.headD false

end Sys2Proof.Machine
end

