-- ==== Sys2Proof/Machine/Duplex.lean ====
section
/-! DEFINITION. Firmware cores, hub faults, the duplex and takeover (R350 to R373), and the Mirror Link's lanes (R412). -/

namespace Sys2Proof.Machine

/-! ## Events and states -/

/-- A firmware and duplex event of a hub core (R342, class 0x0D): core code and state. -/
def coreEvent (s : State) (code k : Nat) : State :=
  raiseEvent s 0x0D code (hubUnit s) (leBytes 1 k ++ leBytes 1 (core s k).st)

/-- The event of a tile agent's control core, whose UNIT is the tile agent. -/
def tcoreEvent (s : State) (code t : Nat) : State :=
  raiseEvent s 0x0D code (tileUnit t) (leBytes 1 3 ++ leBytes 1 (tcore s t).st)

/-- A unit that no spare replaces is marked absent (R413). -/
def absentEvent (s : State) (unit kind : Nat) : State := raiseEvent s 0x0E 4 unit (leBytes 1 kind)

/-- Faults of a core within the last second, this one among them (R359). -/
def recentFaults (s : State) (c : FwCore) : List Nat := s.now :: c.faults.filter (fun t => decide (s.now < t + ms 1000))

/-- The state after a fault's judgement: RETIRED past the limit, else RESTARTING while restarts are on (R359).
DEDUCED (log 31). -/
def afterFault (s : State) (c : FwCore) : Nat :=
  if getF s Reg.FW_CFG.RESTART_LIMIT < c.faults.length then 6 else if flagOn s Reg.FW_CFG.AUTO_RESTART then 5 else 4

/-! ## Firmware images (R352 to R355) -/

/-- The limit of BODY_LEN for a KIND (R352). -/
def bodyLimit (kind : Nat) : Nat := match kind with
  | 1 => 131072
  | 4 => 65536
  | _ => 196608

/-- The signature of an image holds: SIG_R and SIG_S over bytes 0 to 31 and the body (R352, R353). -/
def imageSigOk (bs : List Byte) : Bool :=
  ecdsaVerify Config.imageKey (bs.take 32 ++ bs.drop 128) (leAt bs 32 48) (leAt bs 80 48)

/-- The first failing reason of R353 for an image that comes for `kind`, or 0. The signature is checked where `signed` asks for it.
DEDUCED (log 30). -/
def imageReason (s : State) (kind : Nat) (signed : Bool) (bs : List Byte) : Nat :=
  if leAt bs 0 4 ≠ 0x57464C46 ∨ leAt bs 4 2 ≠ 1 then 1
  else if byteAt bs 6 ≠ kind ∨ kind = 0 ∨ 5 < kind then 2
  else if leAt bs 12 4 % 32 ≠ 0 ∨ leAt bs 12 4 = 0 ∨ bodyLimit kind < leAt bs 12 4 then 3
  else if byteAt bs 7 ≠ 0 ∨ leAt bs 8 4 = 0 ∨ !allZero bs 20 12 then 4
  else if leAt bs 16 4 < bitsAt (fuse s (59 + kind)) 0 16 then 5
  else if signed && !imageSigOk bs then 6 else 0

/-- The image that waits is of another KIND (R354). -/
def otherWaits (s : State) (kind : Nat) : Option Nat := match s.du.image with
  | some i => if i.kind = kind then none else some i.kind
  | none => none

/-- An image is rejected: the reason and the KIND (R353). -/
def rejectImage (s : State) (reason kind : Nat) : State :=
  setF (setF s Reg.FW_REJECT.REASON reason) Reg.FW_REJECT.KIND kind

/-- An accepted image waits to start (R354). -/
def acceptImage (s : State) (bs : List Byte) : State := { s with du.image := some ⟨byteAt bs 6, leAt bs 8 4, bs.drop 128⟩ }

/-- The security core checks the image that a FIRMWARE_LOAD in flight has read, and the command completes; while no core carries its
duties the image waits (R353, R354, R361). DEDUCED (log 30). -/
def checkImage (s : State) (f : Flight) : State := match f.job with
  | .firmware kind bs =>
    if dutyRuns s 0 then
      match otherWaits s kind with
      | some k => complete s f 0x0008 k
      | none =>
        let k := imageReason s kind true bs
        if k = 0 then complete (acceptImage s bs) f 0 0 else complete (rejectImage s k kind) f 0x001B kind
    else s
  | _ => s

/-- The security core checks an image that FX_LOAD of the test access port has brought, without reason 6 (R353, R355); while no core
carries its duties the image waits (R361). DEDUCED (log 30). -/
def checkTapImage (s : State) (bs : List Byte) : State :=
  if !dutyRuns s 0 then { s with du.tapWait := some bs }
  else
    let s := { s with du.tapWait := none }
    if (otherWaits s (byteAt bs 6)).isSome then s
    else
      let k := imageReason s (byteAt bs 6) false bs
      if k = 0 then acceptImage s bs else rejectImage s k (byteAt bs 6)

/-- The images that waited for the security core's duties are checked. DEDUCED (log 30). -/
def checkImages (s : State) : State :=
  let s := s.hr.flights.foldl checkImage s
  match s.du.tapWait with
  | some bs => checkTapImage s bs
  | none => s

/-! ## Cover (R358, R361) -/

/-- The release step after which a core carries duties (R384). -/
def coreStep (k : Nat) : Nat := if k = 0 then 4 else if k = 1 then 5 else 8

/-- The lowest-numbered reserve core in STANDBY. -/
def standby (s : State) : Option Nat := [4, 5, 6, 7].find? (fun r => (core s r).st == 2)

/-- The duties of a core are carried by nobody. -/
def needsCover (s : State) (k : Nat) : Bool := decide (coreStep k ≤ s.rs.done) && !dutyRuns s k

/-- What waited for duties that are carried again goes on. DEDUCED (log 31). -/
def dutiesOn (s : State) : State := setupAgain (checkImages (pumpReports s))

/-- A reserve core takes the duties of core k, and what waited for them goes on. DEDUCED (log 31). -/
def coverBy (s : State) (k r : Nat) : State :=
  let s := setCore s r { core s r with st := 3, duty := some k }
  dutiesOn (coreEvent s 3 r)

/-- A stopped core is covered, or NO_COVER is set and, in a duplex, a takeover is asked for (R358, R361). DEDUCED (log 31). -/
def coverCore (s : State) (k : Nat) : State :=
  match standby s with
  | some r => coverBy s k r
  | none => { setF s Reg.DU_FAULT.NO_COVER 1 with du.asked := s.du.asked || s.du.mode == 1 }

/-- A reserve core has become free: the uncovered duties are covered, the lower core code first. -/
def coverWaiting (s : State) : State :=
  [0, 1, 2].foldl (fun s k => match standby s with
    | some r => if needsCover s k then coverBy s k r else s
    | none => s) s

/-! ## Core faults (R357 to R361) -/

/-- What a stop of the power core or the scheduler core makes to be done again, or ends (R361). DEDUCED (log 31). -/
def dutyGap (s : State) (k : Nat) : State :=
  if k = 1 then
    let s := sizingRestart (busGap s)
    if s.th.polling then flowMissed { s with th.polling := false } else s
  else if k = 2 then
    (s.hap.out.filter (fun r => match r.purpose with
      | .fetch _ _ _ => true
      | _ => false)).foldl (fun s r => hapReq s false r.addr r.beats r.cls r.sec [] r.purpose) s
  else s

/-- A security, power or scheduler core stops. -/
def mainFault (s : State) (k : Nat) : State :=
  let c := core s k
  let s := setCore s k { c with st := 4, stoppedAt := s.now, faults := recentFaults s c, byFault := true }
  let s := dutyGap (coreEvent s 1 k) k
  let s := coverCore s k
  setCore s k { core s k with st := afterFault s (core s k) }

/-- A reserve core stops; the duties it covered pass to another. DEDUCED (log 31). -/
def reserveFault (s : State) (k : Nat) : State :=
  let c := core s k
  let s := setCore s k { c with st := 4, stoppedAt := s.now, faults := recentFaults s c, duty := none, byFault := true }
  let s := coreEvent s 1 k
  let s := match c.duty with
    | some d => coverCore (dutyGap s d) d
    | none => s
  let s := setCore s k { core s k with st := afterFault s (core s k) }
  if (core s k).st = 6 then absentEvent { s with sp.reserve := s.sp.reserve ++ [k - 4] } (hubUnit s) 0x08 else s

/-- The trims of a tile agent's sensors that are under way start again (R230, R361). -/
def trimsAgain (s : State) (t : Nat) : State :=
  { s with th.sns := s.th.sns.map (fun (p : Nat × Sns) =>
      (p.1, if snsTile p.1 == some t && p.2.st == .trimming then { p.2 with trimN := 0, trimRefs := 0, trimSum := 0 } else p.2)) }

/-- A tile agent's control core stops (R360). DEDUCED (log 31). -/
def tileFault (s : State) (t : Nat) : State :=
  let c := tcore s t
  let s := setTcore s t { c with st := 4, stoppedAt := s.now, faults := recentFaults s c, byFault := true }
  let s := trimsAgain (tcoreEvent s 1 t) t
  let s := setTcore s t { tcore s t with st := afterFault s (tcore s t) }
  if (tcore s t).st = 6 then absentEvent s (tileUnit t) 0x01 else s

/-- A core that runs is judged faulted (R357). -/
def coreFault (c : Core) (s : State) : State := match c with
  | .hub k =>
    if !alive s then s
    else if k < 3 then (if (core s k).st = 1 then mainFault s k else s)
    else if 4 ≤ k ∧ k < 8 then (if (core s k).st = 2 ∨ (core s k).st = 3 then reserveFault s k else s)
    else s
  | .tile t => if tileRuns s t && (tcore s t).st == 1 then tileFault s t else s

def execCoreTrap (core : Core) (s : State) : Host.Outcome State Fault Refusal := finish (coreFault core s)

def execCoreDeadlineExpiry (core : Core) (s : State) : Host.Outcome State Fault Refusal := finish (coreFault core s)

/-- FW_RESTARTS of a core. -/
def restartsFld (k : Nat) : Fld :=
  if k = 0 then Reg.FW_RESTARTS.SEC else if k = 1 then Reg.FW_RESTARTS.PWR else Reg.FW_RESTARTS.SCHED

/-- A core can come back: it restarts, or is stopped while restarts are on. -/
def canRestart (s : State) (c : FwCore) : Bool := c.st == 5 || c.st == 7 || (c.st == 4 && flagOn s Reg.FW_CFG.AUTO_RESTART)

/-- The sub-block of a core (R399). -/
def coreSub (k : Nat) : Nat := if k < 3 then k + 1 else 4

/-- A sub-block of cores that BLOCK_RESET put in reset has left it when its cores run or stand by again (R399, R331). -/
def coreLeft (s : State) (k : Nat) : State :=
  let c := coreSub k
  let waits := if k < 3 then (core s k).st == 5 else [4, 5, 6, 7].any (fun r => (core s r).st == 5)
  if bitAt s.rs.subBlk c && !waits then
    (s.hr.flights.filter (fun f => f.job == .subReset c)).foldl (fun s f => complete s f 0 0) { s with rs.subBlk := clrBit s.rs.subBlk c }
  else s

/-- A restarted core takes its duties back, and the core that covered it stands by again (R359). DEDUCED (log 31). -/
def mainRestarted (s : State) (k : Nat) : State :=
  let c := core s k
  let s := setCore s k { c with st := 1, duty := none, byFault := false }
  let s := { s with du.cores := s.du.cores.map (fun (p : Nat × FwCore) =>
    if p.2.duty == some k then (p.1, { p.2 with st := 2, duty := none }) else p) }
  let s := if c.byFault then incSat (coreEvent s 2 k) (restartsFld k) else s
  coverWaiting (dutiesOn s)

/-- A reserve core stands by again. -/
def reserveRestarted (s : State) (k : Nat) : State :=
  let c := core s k
  let s := setCore s k { c with st := 2, duty := none, byFault := false }
  coverWaiting (if c.byFault then coreEvent s 2 k else s)

/-- A control core runs again. -/
def tileRestarted (s : State) (t : Nat) : State :=
  let c := tcore s t
  let s := setTcore s t { c with st := 1, byFault := false }
  if c.byFault then incSat (tcoreEvent s 2 t) Reg.FW_RESTARTS.TILE else s

/-- CORE_RESTARTED (R359, R360, R354). -/
def coreRestarted (c : Core) (s : State) : State := match c with
  | .hub k =>
    if !(alive s && canRestart s (core s k)) then s
    else if k < 3 then coreLeft (mainRestarted s k) k
    else if 4 ≤ k ∧ k < 8 then coreLeft (reserveRestarted s k) k
    else s
  | .tile t => if tileRuns s t && canRestart s (tcore s t) then tileRestarted s t else s

def execCoreRestarted (core : Core) (s : State) : Host.Outcome State Fault Refusal := finish (coreRestarted core s)

/-! ## Hub faults (R362, R363) -/

/-- The bit of DU_FAULT of a hub fault. -/
def hubFaultFld : HubFault → Fld
  | .lane => Reg.DU_FAULT.LANE
  | .stateUe => Reg.DU_FAULT.STATE_UE
  | .msgUe => Reg.DU_FAULT.MSG_UE
  | .rcLoss => Reg.DU_FAULT.RC_LOSS
  | .pllLoss => Reg.DU_FAULT.PLL_LOSS
  | .pcResidue => Reg.DU_FAULT.PC_RESIDUE
  | .frameWd => Reg.DU_FAULT.FRAME_WD

/-- Every port is driven off and a hard stop is taken with cause 8 (R363). DEDUCED (log 32). -/
def portsOff (s : State) : State :=
  let s := stepJobs ((mfRails s).foldl (fun s r => if railDown s r then s else disableRail s r .off .off) s)
  callShutdown s 8

/-- The hub hold (R363): everything stops at once, and the fault waits for the reset of R401. DEDUCED (log 32). -/
def hubHold (s : State) (f : HubFault) : State :=
  let s := stopAll s
  let s := { s with du.hold := true, du.holdFor := if s.du.holdFor.contains f then s.du.holdFor else s.du.holdFor ++ [f] }
  let s := raiseEvent s 0x0D 1 (hubUnit s) (leBytes 1 8 ++ leBytes 1 0)
  if f = .pcResidue ∨ f = .pllLoss then portsOff s else s

/-- A hub fault is judged: a takeover is asked for in a duplex, and otherwise the hub is held. DEDUCED (log 32). -/
def hubFault (f : HubFault) (s : State) : State :=
  let s := if f = .lane then laneMarks s else s
  let s := incSat (setF s (hubFaultFld f) 1) Reg.DU_CNT.HUB_FAULTS
  let s := if flagOn s Reg.OBS_FRZ_CFG.ON_HUBFLT then freezeNow s 6 0 0 else s
  if s.du.mode = 1 then { s with du.asked := true } else hubHold s f

/-- What the loss of a clock does to its own stability (R63): its count restarts. A loss of the RC oscillator before the clocks domain
completes stalls bring-up: no part of FX-4 then runs, and nothing counts (R65). DEDUCED (log 34). -/
def clockLost (f : HubFault) (s : State) : State := match f with
  | .rcLoss => { s with tb.rcStable := false, tb.rcFrom := if 2 ≤ s.rs.done then some s.now else none }
  | .pllLoss => if s.tb.pllStable || s.tb.pllFrom.isSome then { s with tb.pllStable := false, tb.pllFrom := some s.now } else s
  | _ => s

/-- A hub fault is judged: by the fault controller from step 6 on, and a loss of the RC oscillator by the hub PLL's monitor from the
completion of the clocks domain on (R65, R384). -/
def faultJudged (s : State) (f : HubFault) : Bool := released s 6 || (f == .rcLoss && alive s && decide (2 ≤ s.rs.done))

/-- HUB_FAULT (R362, R363, R65). -/
def execHubFault (fault : HubFault) (s : State) : Host.Outcome State Fault Refusal :=
  finish (if faultJudged s fault then hubFault fault (clockLost fault s) else if alive s then clockLost fault s else s)

/-! ## The journal and the duplex (R365, R366, R372) -/

/-- Images in force, by KIND. -/
def imagesInForce (s : State) : List (Nat × Nat) := (List.range 5).foldl (fun t k => tset 0 t (k + 1) (getF s (Reg.FW_IMAGE.ID k))) []

/-- The mirror holds every journal entry so far. -/
def journalHeld (n : Nat) : Nat := if n = 2 then 1 else n

/-- MIRROR_LANE_FAIL: the lane's traffic moves to a spare where one is left. DEDUCED (log 64). -/
def laneFail (hub lane : Nat) (s : State) : State :=
  let f := laneFld hub
  if s.du.mode = 1 ∧ released s 3 ∧ hub < 2 ∧ lane < 18 ∧ !bitAt (getF s f) lane then
    let spare := decide (lanesFailed s hub < 2)
    let k := 32 * hub + lane
    let s := laneOut { s with sp.lanes := s.sp.lanes ++ [k], sp.laneErrs := tdel s.sp.laneErrs k } hub lane
    raiseEvent s 0x0E (if spare then 3 else 4) (unitId 8 hub) (leBytes 1 0x07)
  else s

/-- A journal frame came with a corrected error on a lane: the eighth within 1 ms fails the lane (R412). -/
def laneError (hub : Nat) (s : State) (lane : Nat) : State :=
  let k := 32 * hub + lane
  let ts := s.now :: (tget [] s.sp.laneErrs k).filter (fun t => decide (s.now ≤ t + ms 1))
  let s := { s with sp.laneErrs := tput s.sp.laneErrs k ts }
  if 8 ≤ ts.length then laneFail hub lane s else s

/-- JOURNAL_FRAME (R365): the mirror applies what the active hub journalled; its lag is read in DU_LAG. `lanes` are the lanes in service
of the active hub's direction on which it corrected an error (R17, R412). DEDUCED (log 33). -/
def journalFrame (lag lanes : Nat) (s : State) : State :=
  if s.du.mode = 1 ∧ hostOpen s then
    let s := ((bitList lanes 18).filter (fun l => !bitAt (getF s (laneFld s.du.active)) l)).foldl (laneError s.du.active) s
    let s := setF s Reg.DU_LAG.NOW_NS (min 0xFFFF lag)
    let s := setF s Reg.DU_LAG.MAX_NS (max (getF s Reg.DU_LAG.MAX_NS) (min 0xFFFF lag))
    { s with
      du.mirror := if s.du.synced then imagesInForce s else s.du.mirror
      du.copied := if s.du.synced then s.du.image else s.du.copied
      hr.turn := if (turnOf s).isSome then journalHeld s.hr.turn else s.hr.turn
      hr.readTurn := if (turnOf s).isSome && s.hr.turn == 0 then journalHeld s.hr.readTurn else s.hr.readTurn
      hr.cplWait := s.hr.cplWait.map (fun (c : CplWait) => { c with wait := journalHeld c.wait })
      bg.signWait := journalHeld s.bg.signWait
      du.waitTx := s.du.waitTx.map (fun (p : FmpMsg × Nat) => (p.1, journalHeld p.2))
      hap.wait := s.hap.wait.map (fun (r : MReq) => { r with wait := journalHeld r.wait }) }
  else s

def execJournalFrame (obs : JournalObs) (s : State) : Host.Outcome State Fault Refusal := finish (journalFrame obs.lagNs obs.lanes s)

/-- A wait whose entry the mirror has acknowledged ends. -/
def journalDone (n : Nat) : Nat := if n = 1 then 0 else n

/-- The completions of a list are formed (R365). -/
def formWaiting (s : State) (l : List CplWait) : State :=
  l.foldl (fun s c => ringIdle (putCpl s c.ring c.slot c.tag c.status c.detail) c.ring) s

/-- Effects whose entry the mirror has acknowledged take place: messages and requests leave the hub, the next descriptor may be taken,
and completions are formed. DEDUCED (log 33). -/
def journalAck (s : State) : State :=
  let cpls := s.hr.cplWait.filter (·.wait == 1)
  let s := hapPump { s with
    bg.tx := s.bg.tx ++ (s.du.waitTx.filter (fun p => p.2 == 1)).map (·.1)
    du.waitTx := s.du.waitTx.filter (fun p => p.2 != 1)
    hap.wait := s.hap.wait.map (fun (r : MReq) => { r with wait := journalDone r.wait })
    hr.turn := journalDone s.hr.turn, bg.signWait := journalDone s.bg.signWait
    hr.readTurn := if s.hr.turn = 0 then journalDone s.hr.readTurn else s.hr.readTurn
    hr.cplWait := s.hr.cplWait.filter (·.wait != 1) }
  pumpReports (formWaiting s cpls)

def execJournalAck (s : State) : Host.Outcome State Fault Refusal := finish (if s.du.mode = 1 then journalAck s else s)

/-- No effect waits for the mirror any longer: the block is no duplex now. -/
def endJournal (s : State) : State :=
  let cpls := s.hr.cplWait
  let s := hapPump { s with
    bg.tx := s.bg.tx ++ s.du.waitTx.map (·.1)
    du.waitTx := []
    hap.wait := s.hap.wait.map (fun (r : MReq) => { r with wait := 0 })
    hr.turn := 0, hr.readTurn := 0, bg.signWait := 0, hr.cplWait := [] }
  pumpReports (formWaiting s cpls)

/-- MIRROR_SYNCED (R366). -/
def mirrorSynced (s : State) : State :=
  if s.du.mode = 1 ∧ hostOpen s then
    { s with du.synced := true, du.mirror := imagesInForce s, du.copied := s.du.image, hr.turn := 2, hr.readTurn := 2, bg.signWait := 2 }
  else s

def execMirrorSynced (s : State) : Host.Outcome State Fault Refusal := finish (mirrorSynced s)

/-- The duplex ends: the active hub goes on as a simplex (R372). DEDUCED (log 33). -/
def leaveDuplex (s : State) : State :=
  let s := incSat (setF s Reg.DU_FAULT.MIRROR_LOST 1) Reg.DU_CNT.MIRROR_LOSSES
  let s := endJournal { s with
    du.mode := 2, du.synced := false, du.asked := false, du.hbAbsent := false, pins.mirrorGstop := false }
  raiseEvent s 0x0D 1 (unitId 8 (1 - s.du.active)) (leBytes 1 8 ++ leBytes 1 0)

/-- MIRROR_LOST (R372): for lanes, where fewer than 16 remain in service. DEDUCED (log 33). -/
def mirrorLost (c : MirrorLoss) (s : State) : State :=
  if s.du.mode = 1 ∧ hostOpen s ∧ (c = .lanes → 2 < lanesOut s) then leaveDuplex s else s

def execMirrorLost (cause : MirrorLoss) (s : State) : Host.Outcome State Fault Refusal := finishGrants (mirrorLost cause s)

/-! ## Takeover (R367 to R371) -/

/-- The cores of the hub that takes over: released from its own images, with the image that waits as it was copied (R366).
DEDUCED (log 33). -/
def freshCores (s : State) : State :=
  let s := [0, 1, 2].foldl (fun s k => setCore s k { st := 1 }) s
  let s := [4, 5, 6, 7].foldl (fun s k => setCore s k { st := if reserveBad s (k - 4) then 6 else 2 }) s
  (List.range 5).foldl (fun s k => setF s (Reg.FW_IMAGE.ID k) (tget 0 s.du.mirror (k + 1))) { s with du.left := [], du.image := s.du.copied }

/-- What the revoked hub had on the Host Access Port (R369, steps 2, 5 and 6): slave requests that it had not answered are answered
TGTERR, its outstanding tags are quarantined, and what they asked for is asked again. DEDUCED (log 33). -/
def requeue (s : State) : State :=
  let us_ := getF s Reg.HAP_CFG.TIMEOUT_US
  let till := s.now + us (if us_ = 0 then 100 else us_)
  let again := (s.hap.out.filter (·.misfitAt.isNone)).map (fun (r : MReq) => { r with wait := 0 })
  { s with
    hap.quar := s.hap.quar ++ (s.hap.out.map (·.tag) ++ s.hap.iso).map (fun t => ⟨t, .atTime till⟩)
    hap.out := [], hap.iso := [], hap.mq := []
    hap.ss := s.hap.ss.map (fun (r : SlaveResp) => { r with status := 1, data := 0 })
    hap.wait := again ++ s.hap.wait }

/-- Frames that the journal's lag left unrecorded are charged as the last one (R303). Their energy belongs to no op code that the new hub
knows, so that it is idle (R422), and to the attribution entry of A_x (R424). DEDUCED (log 33). -/
def chargeLost (s : State) : State :=
  let e := (s.now - s.be.frameAt) / 125 * s.bg.lastEf
  let s := { s with bg.sec.flags := s.bg.sec.flags ||| 8, bg.min_.flags := s.bg.min_.flags ||| 8 }
  if e = 0 then s
  else
    let s := { s with
      bg.energyNj := s.bg.energyNj + e, bg.usedNj := s.bg.usedNj + e, bg.sec.nj := s.bg.sec.nj + e
      bg.unattrNj := s.bg.unattrNj + e, bg.sec.unattr := s.bg.sec.unattr + e
      obs.idle := s.obs.idle + e
      bg.sec.flags := s.bg.sec.flags ||| 16, bg.min_.flags := s.bg.min_.flags ||| 16 }
    bgErr (attrFrames s e ((s.now - s.be.frameAt) / 125)) Reg.BG_ERR.ESTIMATED

/-- Tile agents found on the active hub's ring, and those of the build that were not (R386). -/
def ringFound (s : State) : List Nat := if s.du.active = 1 then s.rs.census1 else s.rs.census0
def ringMiss (s : State) : List Nat := (List.range s.build.tiles).filter (fun t => !(ringFound s).contains t)

/-- TILES_FOUND and RS_TILE_MISSn read the census of the active hub's ring (R386). -/
def censusRegs (s : State) : State :=
  (List.range 4).foldl (fun s i => setF s (Reg.RS_TILE_MISS.MISS i) (ofBits (((ringMiss s).filter (fun t => t / 32 == i)).map (· % 32))))
    (setF s Reg.RS_STATUS.TILES_FOUND (ringFound s).length)

/-- The running domains' actuators start, at the next frame boundary, from the values in force in the manner of R120 (R369, step 4). -/
def takeActuators (s : State) : State := { s with be.takeover := true }

/-- The mirror becomes the active hub (R369). DEDUCED (log 33). -/
def takeover (s : State) : State :=
  let s := setF (thawNow s) Reg.OBS_FRZ_STATUS.SNAP_VALID 0
  let s := { s with
    du.mode := 3, du.active := 1 - s.du.active, du.synced := false, du.asked := false, du.hbAbsent := false
    pins.mirrorGstop := false, obs.snapDue := false, obs.snapCap := false, obs.snap := [] }
  let s := setTs (incSat s Reg.DU_CNT.TAKEOVERS) Reg.DU_TKO_TS_LO.TS Reg.DU_TKO_TS_HI.TS s.tb.time
  let s := takeActuators (censusRegs (censusStart (chargeLost (freshCores s))))
  let s := checkImages (endJournal (requeue s))
  let s := s.bg.links.foldl (fun s p => syncLink s p.1) { s with bg.syncing := !s.bg.links.isEmpty }
  raiseEvent s 0x0D 4 (hubUnit s) (leBytes 1 8 ++ leBytes 1 0)

/-- TAKEOVER_REQUEST (R367): a request stands on the journal of a duplex. -/
def takeoverRequest (s : State) : State :=
  if s.du.mode = 1 ∧ s.du.asked then takeover (setF s Reg.DU_FAULT.HB_LOST 1) else s

def execTakeoverRequest (s : State) : Host.Outcome State Fault Refusal := finishGrants (takeoverRequest s)

/-- HEARTBEAT_ABSENT (R368): absent 500 ns, so that the STANDBY mirror asserts GSTOP on brake, flow or power. -/
def heartbeatAbsent (s : State) : State :=
  if s.du.mode = 1 ∧ released s 6 then
    { s with du.hbAbsent := true, pins.mirrorGstop := s.pins.mirrorGstop || s.pins.brake || !s.pins.flowOk || !s.pins.pwrgd }
  else s

def execHeartbeatAbsent (s : State) : Host.Outcome State Fault Refusal := finish (heartbeatAbsent s)

/-- HEARTBEAT_RETURN (R368). -/
def execHeartbeatReturn (s : State) : Host.Outcome State Fault Refusal :=
  finishGrants { s with du.hbAbsent := false, pins.mirrorGstop := false }

/-- HEARTBEAT_LOSS (R367): with the journal silent too the active hub is lost; alone it is a link fault. -/
def heartbeatLoss (journal : Bool) (s : State) : State :=
  if s.du.mode = 1 ∧ hostOpen s then
    if journal then takeover (setF s Reg.DU_FAULT.HB_LOST 1) else leaveDuplex (setF s Reg.DU_FAULT.LINK 1)
  else s

def execHeartbeatLoss (journal : Bool) (s : State) : Host.Outcome State Fault Refusal := finishGrants (heartbeatLoss journal s)

/-! ## Mirror Link lanes (R412) -/

def execMirrorLaneFail (hub : Nat) (lane : Nat) (s : State) : Host.Outcome State Fault Refusal := finish (laneFail hub lane s)

/-! ## FIRMWARE_LOAD and the broadcast of tile images (R354, R355, R392, R393) -/

def firmwareSpec (d : List Byte) : OpSpec :=
  { secure := true, manifest := false, named := [(8, 8), (16, 4), (20, 1)], target := noTarget d
    operand := match loadOperand d with
      | some k => some k
      | none => if byteAt d 20 = 0 ∨ 5 < byteAt d 20 then some 20 else none }

/-- DEDUCED (log 30). -/
def firmwareBody (mem : MemRead) (failed : Nat) (s : State) (f : Flight) (d : List Byte) : State :=
  let kind := byteAt d 20
  if getF s Reg.RS_STRAPS.BOOT_SRC ≠ 3 ∨ s.hr.lockFw then complete s f 0x001A (getF s Reg.RS_STRAPS.BOOT_SRC)
  else match otherWaits s kind with
    | some k => complete s f 0x0008 k
    | none => match mem with
      | .fail st => readFailAt failed s f (leAt d 8 8) (leAt d 16 4) 3 st.toNat
      | .data bs corr =>
        let s := readDone corr s f (leAt d 8 8) (leAt d 16 4) 3
        let bs := bs.take (leAt d 16 4)
        if leAt d 16 4 ≠ 128 + leAt bs 12 4 then complete s f 0x0012 0
        else checkImage (setJob s f (.firmware kind bs)) { f with job := .firmware kind bs }

/-- An image is read where its command is not refused before (R328, R354): in traffic class 3. -/
def firmwareHeld (s : State) (d : List Byte) : Bool :=
  getF s Reg.RS_STRAPS.BOOT_SRC == 3 && !s.hr.lockFw && (otherWaits s (byteAt d 20)).isNone && !readOpen s 3

/-- FIRMWARE_LOAD (R328, R353, R354); `failed` is which of the requests of a read that fails is the one that fails. -/
def execFirmwareLoad (mem : MemRead) (failed : Nat) (s : State) : Host.Outcome State Fault Refusal :=
  finish (runRead s (fun d => dOp d == 0x03) (.firmware 0 []) (fun _ d => firmwareSpec d) firmwareHeld (firmwareBody mem failed))

/-- TAP_FIRMWARE_LOAD (R355): an image entered through FX_LOAD with BOOT_SRC 01. DEDUCED (log 30). -/
def tapImage (bs : List Byte) (s : State) : State :=
  let s := tapEdge (tapScan { s with tap.dr := [] } 0x22 (bs.flatMap (fun b => bitsLsb b.toNat 8))) true false
  if released s 8 && getF s Reg.RS_STRAPS.BOOT_SRC == 1 && bs.length == 128 + leAt bs 12 4 then checkTapImage s bs else s

def execTapFirmwareLoad (bytes : List Byte) (s : State) : Host.Outcome State Fault Refusal := finish (tapImage bytes s)

/-- The data frames of n bytes of an image from an offset on, 12 bytes each. -/
def dataFrames : Nat → Nat → List Byte → List RingFrame
  | 0, _, _ => []
  | k + 1, off, bs => if bs.isEmpty then [] else
    .data off ((bs.take 12) ++ zeros (12 - bs.length)) :: dataFrames k (off + 12) (bs.drop 12)

/-- The ring frames of a tile image: its bytes, and the close with length and CRC-32 (R392). -/
def bcastFrames (image : List Byte) : List RingFrame :=
  dataFrames image.length 0 image ++ [.close image.length (crc32 image)]

/-- A tile agent copies a frame into its staging buffer. -/
def stageFrame (buf : List Byte) : RingFrame → List Byte
  | .data off bs => buf.take off ++ zeros (off - buf.length) ++ bs ++ buf.drop (off + 12)
  | .close _ _ => buf

/-- A tile agent's check of what it has taken: the length and the CRC-32 of the closing frame hold for the staging buffer (R392). -/
def bcastCheck (fs : List RingFrame) : Bool := match fs.getLast? with
  | some (.close n c) =>
    let buf := (fs.foldl stageFrame []).take n
    buf.length == n && crc32 buf == c
  | _ => false

/-- A tile broadcast begins (R392). -/
def startBcast (s : State) (bringUp : Bool) (image : List Byte) (tiles : List Nat) : State :=
  setF { s with rs.bcast := some { bringUp := bringUp, frames := bcastFrames image, left := tiles } } Reg.RS_BCAST.BUSY 1

/-- A reserve core in STANDBY restarts into a new image of KIND 5, one at a time (R354). DEDUCED (log 30). -/
def startReserve (s : State) : State :=
  if [4, 5, 6, 7].any (fun r => (core s r).st == 7) then s
  else match s.du.left.find? (fun r => (core s r).st == 2) with
    | some r => { setCore s r { core s r with st := 7 } with du.left := s.du.left.filter (· != r) }
    | none => s

/-- The image that waits starts where it can (R354). DEDUCED (log 30). -/
def startImage (s : State) : State :=
  match s.du.image with
  | none => startReserve s
  | some i =>
    let force := fun (s : State) => setF { s with du.image := none } (Reg.FW_IMAGE.ID (i.kind - 1)) i.id
    if i.kind = 5 then startReserve { force s with du.left := [4, 5, 6, 7].filter (fun r => (core s r).st != 6) }
    else if i.kind = 4 then
      if s.rs.bcast.isSome then s else startBcast (force s) false i.body ((List.range s.build.tiles).filter (tileRuns s))
    else
      let k := i.kind - 1
      match standby s with
      | some r => if (core s k).st = 1 then
          let s := setCore (force s) k { core s k with st := 7 }
          coverBy s k r
        else s
      | none => s

/-- FIRMWARE_IMAGE_START (R354). -/
def execFirmwareImageStart (s : State) : Host.Outcome State Fault Refusal := finish (if released s 8 then startImage s else s)

/-- The tile agents that failed every send: RETIRED at step 7, and keeping their image at run time (R393). -/
def bcastFailed (bringUp : Bool) (s : State) (t : Nat) : State :=
  let s := if bringUp then setTcore s t { st := 6 } else s
  let s := tcoreEvent (incSat s Reg.RS_BCAST.FAILED) 1 t
  if bringUp then absentEvent s (tileUnit t) 0x01 else s

/-- The frames that a tile agent took of a send: those sent, but where `taken` names it. -/
def framesTaken (b : Bcast) (taken : List (Nat × List RingFrame)) (t : Nat) : List RingFrame := tget b.frames taken t

/-- The end of one send of a broadcast: the tile agents whose check failed get it again, up to 3 times (R393). What a tile agent takes
as it was sent passes its check. DEDUCED (log 30). -/
def bcastDone (taken : List (Nat × List RingFrame)) (s : State) : State :=
  match s.rs.bcast with
  | none => s
  | some b =>
    let fl := b.left.filter (fun t => framesTaken b taken t != b.frames && !bcastCheck (framesTaken b taken t))
    let s := if b.bringUp then s else (b.left.filter (fun t => !fl.contains t)).foldl (fun s t =>
      if (tcore s t).st = 1 then setTcore s t { tcore s t with st := 7 } else s) s
    if fl.isEmpty then setF { s with rs.bcast := none } Reg.RS_BCAST.BUSY 0
    else if b.tries < 3 then incSat { s with rs.bcast := some { b with left := fl, tries := b.tries + 1 } } Reg.RS_BCAST.RESENDS
    else fl.foldl (bcastFailed b.bringUp) (setF { s with rs.bcast := none } Reg.RS_BCAST.BUSY 0)

/-- TILE_BROADCAST_DONE (R392, R393): `taken` names the tile agents that did not take the frames of this send as they were sent, with
those that they took. -/
def execTileBroadcastDone (taken : List (Nat × List RingFrame)) (s : State) : Host.Outcome State Fault Refusal :=
  finish (bcastDone taken s)

end Sys2Proof.Machine
end

