-- ==== Sys2Proof/Machine/Observe.lean ====
section
/-! DEFINITION. Freezes, the snapshot and its scan (R430 to R437), the op-code transfers (R422), and the test access
port (R59, R437). -/

namespace Sys2Proof.Machine

/-! ## FREEZE (R430, R434) -/

/-- The time of OBS_FRZ_AT. -/
def frzAt (s : State) : Nat := getF s Reg.OBS_FRZ_AT_LO.TIME + 2 ^ 32 * getF s Reg.OBS_FRZ_AT_HI.TIME

def freezeSpec (d : List Byte) : OpSpec :=
  { manifest := false, named := [(8, 1)], target := noTarget d, operand := if 1 < byteAt d 8 then some 8 else none }

/-- A FREEZE with ACT = 1 freezes at once, or arms a timed freeze; it replaces one that is armed (R430). DEDUCED (log 62). -/
def freezeBody (s : State) (f : Flight) (_d : List Byte) : State :=
  let old := s.obs.timedKey
  let s := completeOpt (setF { s with obs.timedKey := none } Reg.OBS_FRZ_STATUS.ARMED 0) old 0x0013 0
  if !flagOn s Reg.OBS_FRZ_CFG.AT_EN then complete (freezeNow s 1 0 0) f 0 0
  else if frzAt s ≤ s.tb.time then complete (freezeNow s 2 0 (b2n (decide (frzAt s < s.tb.time)))) f 0 0
  else setF { s with obs.timedKey := some f.key } Reg.OBS_FRZ_STATUS.ARMED 1

def execFreeze (s : State) : Host.Outcome State Fault Refusal :=
  finish (runDesc s (fun d => dOp d == 0x61 && byteAt d 8 != 0) .freeze (fun _ d => freezeSpec d) freezeBody)

def execThaw (s : State) : Host.Outcome State Fault Refusal :=
  finishGrants (runDesc s (fun d => dOp d == 0x61 && byteAt d 8 == 0) .freeze (fun _ d => freezeSpec d)
    (fun s f _ => complete (thawNow s) f 0 0))

/-- Rack time reaches OBS_FRZ_AT while a timed freeze is armed (R430). DEDUCED (log 62). -/
def freezeInstant (s : State) : State :=
  match s.obs.timedKey with
  | none => s
  | some k =>
    let s := advanceTo s (s.now + ceilDiv (frzAt s - s.tb.time) 4)
    if frzAt s ≤ s.tb.time then
      completeKey (freezeNow (setF { s with obs.timedKey := none } Reg.OBS_FRZ_STATUS.ARMED 0) 2 0 0) k 0 0
    else s

def execFreezeTimedInstant (s : State) : Host.Outcome State Fault Refusal := finish (freezeInstant s)

/-- The last send of a freeze marker has arrived (R432). -/
def freezeSettled (s : State) : State :=
  if s.obs.marker then setF { s with obs.marker := false } Reg.OBS_FRZ_STATUS.SETTLED 1 else s

def execFreezeSettled (s : State) : Host.Outcome State Fault Refusal := finish (freezeSettled s)

/-- The snapshot taken at S is complete (R435). -/
def snapshotValid (s : State) : State :=
  if s.obs.snapCap then setF { s with obs.snapCap := false } Reg.OBS_FRZ_STATUS.SNAP_VALID 1 else s

def execSnapshotValid (s : State) : Host.Outcome State Fault Refusal := finish (snapshotValid s)

/-! ## Test access port (R59, R434, R436, R437) -/

/-- The FX_FREEZE register is captured, its 8 bits are shifted in, and Update-DR follows (R437). -/
def tapUpdate (bits : Byte) (s : State) : State := tapEdge (tapScan s 0x20 (bitsLsb bits.toNat 8)) true false

/-- An FX_FREEZE update with bit 0 alone freezes 32 ns later (R430). DEDUCED (log 61). -/
def tapFreeze (bits : Byte) (s : State) : State :=
  let s := tapUpdate bits s
  if alive s && bitAt (drValue s) 0 && !bitAt (drValue s) 1 then freezeNow (advanceTo s (s.now + 8)) 3 0 0 else s

def execTapFreeze (bits : Byte) (s : State) : Host.Outcome State Fault Refusal := finish (tapFreeze bits s)

/-- An FX_FREEZE update with bit 1 alone thaws. DEDUCED (log 61). -/
def tapThaw (bits : Byte) (s : State) : State :=
  let s := tapUpdate bits s
  if alive s && bitAt (drValue s) 1 && !bitAt (drValue s) 0 then thawNow s else s

def execTapThaw (bits : Byte) (s : State) : Host.Outcome State Fault Refusal := finishGrants (tapThaw bits s)

/-- Capture-DR of FX_SCAN: the chain stands at word 0, and Shift-DR follows (R436). DEDUCED (log 61). -/
def scanCapture (s : State) : State :=
  let s := tapEdge { s with tap := { s.tap with ir := 0x21, st := .captureDr } } false false
  if alive s then setF s Reg.OBS_FRZ_STATUS.SCAN_BUSY 1 else s

def execScanCapture (s : State) : Host.Outcome State Fault Refusal := finish (scanCapture s)

/-- Exit from Shift-DR, by an edge that shifts one more bit out (R436). Where the controller is not in Shift-DR of FX_SCAN there is
none. DEDUCED (log 61). -/
def scanExit (s : State) : State :=
  if scanning s then setF (tapEdge s true false) Reg.OBS_FRZ_STATUS.SCAN_BUSY 0 else s

def execScanExit (s : State) : Host.Outcome State Fault Refusal := finish (scanExit s)

/-- TRST_N resets the TAP controller alone (R59). Asserted in Shift-DR of FX_SCAN it leaves SCAN_BUSY as it is: R436 clears the bit at
the exit from Shift-DR and does not say whether a reset of the controller is one. DESIGN CHOICE (log 79). -/
def execTrstNAssert (s : State) : Host.Outcome State Fault Refusal := finish { s with tap := {} }

/-! ## Counts by op code (R422) -/

/-- A tile agent sends its increments. -/
def opCounts (s : State) (t : Nat) : State := if tileRuns s t then opTransfer s t else s

def execOpCountTransfer (tile : Nat) (s : State) : Host.Outcome State Fault Refusal := finish (opCounts s tile)

end Sys2Proof.Machine
end

