-- ==== Sys2Proof/Machine/Rings.lean ====
section
/-! DEFINITION. The doorbell page, the command rings and telemetry (R312 to R326, R343, R344). -/

namespace Sys2Proof.Machine

/-! ## The doorbell page (R312, R314) -/

/-- Fewer than a quarter of a ring's slots are free by the last consumer index read. -/
def lowRoom (prod cons size : Nat) : Bool := decide (4 * (size - (prod + 2 ^ 32 - cons) % 2 ^ 32) < size)

/-- Some ring that FX-4 writes has fewer than a quarter of its slots free. -/
def anyLow (s : State) : Bool :=
  (List.range 64).any (fun n => ringEn s n && lowRoom (ring s n).cplProd (ring s n).cplCons (ringSize s n)) ||
    (flagOn s Reg.HR_EV_CFG.EN && lowRoom s.hr.evProd s.hr.evCons (evSize s)) ||
    (flagOn s Reg.HR_TEL_CFG.EN && lowRoom s.hr.telProd s.hr.telCons (telSize s))

/-- A poll of the doorbell page (R314). -/
def doorbellPoll (s : State) : State :=
  if hostRuns s && dutyRuns s 2 && !s.hap.stopped && flagOn s Reg.HR_DB_BASE_LO.EN then
    let s := advanceTo s (s.hr.pollAt + us (getF s Reg.HR_DB_CFG.POLL_US))
    let s := hapReq { s with hr.pollAt := s.now } false (dbAddr s 0) 8 0 false [] .dbProd
    if anyLow s then
      hapReq (hapReq s false (dbAddr s 256) 8 0 false [] .dbCplCons) false (dbAddr s 512) 1 0 false [] .dbEvCons
    else s
  else s

def execDoorbellPoll (s : State) : Host.Outcome State Fault Refusal := finish (doorbellPoll s)

/-- Applies f to every enabled ring. -/
def eachRing (s : State) (f : State → Nat → State) : State :=
  (List.range 64).foldl (fun s n => if ringEn s n then f s n else s) s

/-- A read of the doorbell page has completed (R314). DEDUCED (log 19). -/
def doorbellDone (s : State) (d : Done) : State :=
  if d.status ≠ 0 then hrErr s Reg.HR_ERR.DB_READ none
  else match d.purpose with
    | .dbProd => eachRing s (fun s n => fetchMore (modRing s n (fun r => { r with prod := leAt d.data (4 * n) 4 })) n)
    | .dbCplCons => eachRing s (fun s n => modRing s n (fun r => { r with cplCons := leAt d.data (4 * n) 4 }))
    | _ => flushEvents { s with hr.evCons := leAt d.data 0 4, hr.telCons := leAt d.data 4 4 }

def isDoorbell : Purpose → Bool
  | .dbProd | .dbCplCons | .dbEvCons => true
  | _ => false

def execDoorbellReadDone (s : State) : Host.Outcome State Fault Refusal :=
  finish (match takeDone s isDoorbell with
    | some (d, s) => doorbellDone s d
    | none => s)

/-! ## Rings -/

/-- Ring n enters ERROR (R323). -/
def ringError (s : State) (n : Nat) (f : Fld) : State :=
  let s := hrErr (modRing s n (fun r => { r with error := true })) f (some n)
  ringIdle (raiseEvent s 0x0F 2 (hubUnit s) (leBytes 1 n)) n

/-- The descriptors that a fetch brought, 64 bytes each. -/
def splitDescs : Nat → List Byte → List (List Byte)
  | 0, _ => []
  | k + 1, bs => bs.take 64 :: splitDescs k (bs.drop 64)

/-- A fetch of n descriptors from index idx has completed (R317, R323). DEDUCED (log 19). -/
def fetchDone (s : State) (n idx k status : Nat) (data : List Byte) : State :=
  let r := ring s n
  if !r.fetching || r.fetchIdx != idx then s
  else
    let s := setRing s n { r with fetching := false }
    if !ringEn s n then s
    else if status ≠ 0 then ringError s n Reg.HR_ERR.FETCH
    else fetchMore (modRing s n (fun r => { r with ready := r.ready ++ splitDescs k data, fetchIdx := (idx + k) % 2 ^ 32 })) n

def isFetch : Purpose → Bool
  | .fetch _ _ _ => true
  | _ => false

def execDescriptorFetchDone (s : State) : Host.Outcome State Fault Refusal :=
  finish (match takeDone s isFetch with
    | some (⟨.fetch n i k, st, bs⟩, s) => fetchDone s n i k st bs
    | _ => s)

/-- A descriptor of reserved opcode is taken and completes (R319). -/
def badOpcode (s : State) : State :=
  match takeTurn s with
  | none => s
  | some n =>
    match (ring s n).ready with
    | [] => s
    | d :: _ =>
      if definedOp (dOp d) then s
      else
        let (s, f) := takeHead s n d .taken
        complete s f 0x0001 (dOp d)

def execDescriptorBadOpcode (s : State) : Host.Outcome State Fault Refusal := finish (badOpcode s)

/-- A completion record of ring n has been written, or its write has failed (R321, R323). DEDUCED (log 19). -/
def cplDone (s : State) (n i status : Nat) : State :=
  let r := ring s n
  if !r.cplOut.contains i then s
  else if status ≠ 0 then ringError s n Reg.HR_ERR.CPL_WRITE
  else
    let out := r.cplOut.filter (· != i)
    let s := setRing s n { r with cplOut := out }
    let after := coverIdx out r.cplProd
    if after = coverIdx r.cplOut r.cplProd then s
    else hapReq s true (dbAddr s (2048 + 4 * n)) 1 0 false (leBytes 4 after) (.cplIdx n after)

def isCpl : Purpose → Bool
  | .cpl _ _ => true
  | _ => false

/-- EN of ring n has gone from 0 to 1 (R316). DEDUCED (log 19). -/
def ringEnabled (s : State) (n : Nat) : State := setRing s n { idle := false, lost := (ring s n).lost }

/-- EN of ring n has gone from 1 to 0 (R316, R323). DEDUCED (log 19). -/
def ringDisabled (s : State) (n : Nat) : State :=
  ringIdle (modRing s n (fun r => { r with
    ready := [], fetching := false, lost := satAdd 15 r.lost r.held.length, held := [] })) n

def execNop (s : State) : Host.Outcome State Fault Refusal :=
  finish (runDesc s (dOp · == 0x01) .taken (fun _ d => { manifest := false, target := noTarget d }) (fun s f _ => complete s f 0 0))

/-! ## Telemetry (R344) -/

/-- A sample: mean chip power since the last one in 100 mW, OWN, A_x, the highest value used, SD_STATE and the flags. -/
def telSample (s : State) : State :=
  let per := getF s Reg.HR_TEL_CFG.PERIOD_US
  if hostRuns s && per != 0 then
    let s := advanceTo s (s.hr.telAt + us per)
    let p := if s.hr.telN = 0 then chipPower s / 12800 else s.hr.telPf / (12800 * s.hr.telN)
    let e : Event := ⟨2, 0, hubUnit s, s.tb.time, leBytes 4 p ++ leBytes 4 (ofSigned 32 s.bg.own) ++ leBytes 4 s.sa.aX.toNat ++
      leBytes 2 (ofSigned 16 (maxUsed s)) ++ leBytes 1 (sdCode s.th.sd) ++
      leBytes 1 (b2n s.bg.ceil + 2 * b2n s.bg.stop + 4 * b2n s.pc.brake)⟩
    putTel { s with hr.telAt := s.now, hr.telPf := 0, hr.telN := 0 } e
  else s

def execTelemetrySample (s : State) : Host.Outcome State Fault Refusal := finish (telSample s)

end Sys2Proof.Machine
end

