-- ==== Sys2Proof/Machine/Views.lean ====
section
/-! DEFINITION. The register fields that are worked out when they are read, from the state they report (the RO fields of
spec/15_register_index.md that are not stored), and the snapshot of R436. -/

namespace Sys2Proof.Machine

/-! ## Encodings of states -/

def saCode : SaState → Nat
  | .off => 0
  | .acquiring => 1
  | .tracking => 2
  | .lost => 3

def railCode : RailSt → Nat
  | .off => 0
  | .delay => 1
  | .test => 2
  | .ramp => 3
  | .settle => 4
  | .up => 5
  | .stopping => 6
  | .hiccup => 7
  | .faulted => 8

def portCode : PortSt → Nat
  | .off => 0
  | .spare => 1
  | .test => 2
  | .standby => 3
  | .joining => 4
  | .active => 5
  | .draining => 6
  | .fire => 7
  | .retired => 8

def snsCode : SnsState → Nat
  | .unsized => 0
  | .trusted => 1
  | .suspect => 2
  | .failed => 3
  | .trimming => 4
  | .absent => 5

def linkCode : LinkSt → Nat
  | .down => 0
  | .waiting => 1
  | .answering => 2
  | .up => 3

/-- The low and the high 32 bits of a 64-bit value, by index. DEDUCED (log 66). -/
def half (v i : Nat) : Nat := v / 2 ^ (32 * i) % 2 ^ 32

/-- The number whose bits 0 to n - 1 are those of a property. -/
def bitsOf (n : Nat) (p : Nat → Bool) : Nat := ofBits ((List.range n).filter p)

/-! ## Block, time and angle -/

/-- FX_BUILD (R18). -/
def fxBuild (b : Build) : Nat := b.tiles + 2 ^ 8 * b.hubs + 2 ^ 16 * b.ports + 2 ^ 24 * b.rails


/-- RS_SUB.ACTIVE (R400). -/
def subActive (s : State) : Nat := (bitsOf 9 (fun c => decide (1 ≤ c) && subIn s c)) / 2

def saStatus (s : State) : Nat := saCode s.sa.state + 4 * b2n (s.sa.behind || s.sa.limited)

/-! ## Rings and mailboxes -/

def ringStatus (s : State) (n : Nat) : Nat :=
  let r := ring s n
  r.cons % 2 ^ 16 + 2 ^ 16 * (ringFlights s n).length + 2 ^ 26 * b2n r.idle + 2 ^ 27 * b2n r.error + 2 ^ 28 * r.lost

/-! ## Regulator -/

def pcStatus (s : State) : Nat :=
  bitsOf s.build.rails (fun r => (rail s r).st == .up) + 2 ^ 12 * bitsOf s.build.rails (fun r => (rail s r).st == .faulted) +
    2 ^ 24 * b2n s.pc.brake + 2 ^ 25 * b2n s.pc.brakeGstop + 2 ^ 26 * s.pins.vsel

def railStatus (s : State) (r : Nat) : Nat := railCode (rail s r).st + 2 ^ 4 * nActive s r + 2 ^ 12 * nAvail s r

/-- RAILr_MEAS. IRAIL is I_rail signed, as IPH is: the table says only that it saturates. DESIGN CHOICE (log 74). -/
def railMeas (s : State) (r : Nat) : Nat := (rail s r).vsns % 2 ^ 13 + 2 ^ 16 * ofSigned 16 (sat16 (roundEven (iRail s r) 8))

/-- PHPORTp (R134, R171). DEDUCED (log 66). -/
def phPort (s : State) (p : Nat) : Nat :=
  let x := port s p
  portCode x.st + 2 ^ 4 * x.rail.getD 0 + 2 ^ 8 * x.lphase.getD 0xFF + 2 ^ 16 * ofSigned 8 (clampInt (-128) 127 (roundEven x.iph 32)) +
    2 ^ 24 * b2n x.imb + 2 ^ 25 * x.cause + 2 ^ 28 * x.losses

/-! ## Tile agents (R188, R194, R198) -/

def tileCredit (x : Tile) : Nat := x.hP % 2 ^ 16 + 2 ^ 16 * (x.hH % 2 ^ 16)
def tileDet (x : Tile) : Nat := bitsOf 16 (fun d => (det x d).failed || (det x d).absent) + 2 ^ 16 * x.hTrip
def tileStatus (x : Tile) : Nat :=
  b2n x.stretch + 2 * b2n x.uvf + 4 * b2n x.orphan + 8 * b2n x.lost + 16 * b2n x.pwrOk + 32 * b2n x.portB +
    2 ^ 8 * x.spurious + 2 ^ 16 * runningEngs x + 2 ^ 24 * (waiting x).length
def tileWait (x : Tile) : Nat := x.hW % 2 ^ 16 + 2 ^ 16 * (x.stranded % 2 ^ 16)

/-- Word k of the tile agents' blocks, four each. -/
def tileWord (s : State) (k : Nat) : Nat :=
  let x := tile s (k / 4)
  match k % 4 with
  | 0 => tileCredit x
  | 1 => tileDet x
  | 2 => tileStatus x
  | _ => tileWait x

/-- The counts of R198 of a tile agent as they are visible: as they were last transferred to the hub (R198), or held by a freeze (R431), the waits in whole hub cycles. -/
def lwVisible (s : State) (t : Nat) : List Nat :=
  let l : List Nat := match s.obs.held with
    | some h => ((h.lw.find? (·.1 == t)).map (·.2)).getD []
    | none => (tile s t).lwHub
  [(l.getD 0 0) / 5, (l.getD 1 0) / 5, (l.getD 2 0) / 5, l.getD 3 0, l.getD 4 0, l.getD 5 0]

/-- The counts that CC_LW_SEL shows: of one tile agent, or the chip totals. For a TILE that names neither the spec says nothing: zeros.
DESIGN CHOICE (log 83). -/
def lwShown (s : State) : List Nat :=
  let k := getF s Reg.CC_LW_SEL.TILE
  if k < s.build.tiles then lwVisible s k
  else if k = 0xFF then
    (List.range s.build.tiles).foldl (fun (a : List Nat) t => a.zipWith (· + ·) (lwVisible s t)) [0, 0, 0, 0, 0, 0]
  else [0, 0, 0, 0, 0, 0]

/-- Word i of CC_WAIT_CREDIT_LO to CC_TRIPS. -/
def lwOf (l : List Nat) (i : Nat) : Nat :=
  if i < 8 then half (l.getD (i / 2) 0) (i % 2) else min 0xFFFF (l.getD 4 0) + 2 ^ 16 * min 0xFFFF (l.getD 5 0)

/-! ## Phase Book -/

def pbStatus (s : State) : Nat :=
  b2n s.pb.prog.isSome + 2 * b2n s.pb.pend.isSome + 4 * b2n (converged s) + 8 * settledBins s + 2 ^ 16 * s.pb.active.length

def pbInforce (s : State) : Nat :=
  min 8191 (pbPreopen s) + 2 ^ 16 * min 255 ((List.range s.build.rails).foldl (fun m r => max m (railBoost s r)) 0)

/-- PB_BIN_DATA i of a bin (R200). -/
def binWord (b : Bin) (i : Nat) : Nat := match i with
  | 0 => b.mean + 2 ^ 16 * b.peak
  | 1 => b.layer + 2 ^ 16 * b.oper
  | _ => b.hits + 2 ^ 8 * b2n b.seen + 2 ^ 9 * b2n b.settled + 2 ^ 10 * b2n b.origin

/-! ## Thermal -/

def thStatus (s : State) : Nat :=
  sdCode s.th.sd + 4 * s.th.ordStep + 2 ^ 8 * s.th.cause + 2 ^ 12 * b2n s.pins.flowOk + 2 ^ 13 * b2n s.pins.thermtrip +
    2 ^ 14 * b2n (s.cc.tiles.any (·.2.localTrip))

/-- TH_SNS_DATA i of a sensor (R227, R241). -/
def snsWord (s : State) (n i : Nat) : Nat :=
  if 1056 ≤ n then 0
  else
    let x := sns s n
    match i with
    | 0 => ofSigned 16 x.val + 2 ^ 16 * ofSigned 16 x.used
    | 1 => snsCode x.st + 2 ^ 4 * snsSet s n + 2 ^ 16 * (snsNode s n).getD 0xFFF
    | _ => ofSigned 16 x.rate + 2 ^ 16 * ofSigned 16 x.resid

/-- TH_NODE_DATA i of a node (R234, R238). -/
def nodeWord (s : State) (n i : Nat) : Nat :=
  let x := thNode s n
  if i = 0 then ofSigned 16 x.t + 2 ^ 16 * ofSigned 16 x.rate
  else
    let d := s.th.model.bind (fun m => m.nodes[n]?)
    x.tau + 2 ^ 16 * (d.map (·.set)).getD 0 + 2 ^ 18 * b2n ((d.map (·.hot)).getD false)

def thrTile (s : State) (i : Nat) : Nat :=
  bitsOf 32 (fun k => !(thCeil s (32 * i + k)).callers.isEmpty)

/-- The selected rainflow counter (R263). -/
def rfWord (s : State) : Nat :=
  if getF s Reg.TH_RF_SEL.REGION ≤ 128 then tget 0 s.th.rfCnt (64 * getF s Reg.TH_RF_SEL.REGION + getF s Reg.TH_RF_SEL.BIN) else 0

/-! ## Budget -/

def bgStatus (s : State) : Nat :=
  b2n s.bg.formed + 2 * b2n (s.bg.formed && isRoot s) + 4 * b2n s.bg.orphan + 8 * b2n s.bg.syncing + 16 * b2n (s.bg.ceil || s.bg.stop) +
    32 * b2n s.bg.stop + 64 * b2n (crownOn s) + 128 * b2n s.bg.critical + 256 * b2n s.bg.pacing + 512 * b2n s.bg.giving +
    1024 * s.bg.down

/-- L1 and L2 in 100 mW (R271). -/
def l1Mean (s : State) : Nat := (l1Sum s / 25600000).toNat
def l2Mean (s : State) : Nat := if s.bg.blks.isEmpty then 0 else (l2Sum s / ((s.bg.blks.length * 25600000 : Nat) : Int)).toNat

/-- BG_LINK_DATA i of the selected link. -/
def linkWord (s : State) (i : Nat) : Nat := match link s (getF s Reg.BG_LINK_SEL.LINK) with
  | none => 0
  | some l => match i with
    | 0 => l.peer + 2 ^ 16 * linkCode l.st
    | 1 => l.sent
    | 2 => l.recv
    | _ => l.acked

/-- A signed value of 32 bits. -/
def int32 (v : Int) : Nat := ofSigned 32 v

def bgWord (s : State) (off : Nat) : Nat := match off with
  | 0x6004 => bgStatus s
  | 0x6008 => int32 (bgHeld s)
  | 0x600C => int32 s.bg.own
  | 0x6010 => int32 s.bg.pool
  | 0x6014 => int32 s.bg.initial
  | 0x6018 => ofSigned 16 s.bg.floor + 2 ^ 16 * ofSigned 16 s.bg.ceilC
  | 0x601C => int32 s.bg.issued
  | 0x6020 => int32 s.bg.adjust
  | 0x6030 => s.bg.cap / 640 % 2 ^ 13 + 2 ^ 16 * ofSigned 13 (roundEven s.bg.i10 640)
  | 0x6038 => l1Mean s % 2 ^ 16 + 2 ^ 16 * (w1Mean s % 2 ^ 16)
  | 0x603C => l2Mean s % 2 ^ 16 + 2 ^ 16 * (w2Mean s % 2 ^ 16)
  | 0x6040 => s.bg.usedNj / 1000 % 2 ^ 32
  | 0x6044 => int32 (s.bg.allowNj.fdiv 1000)
  | 0x6048 => int32 ((bank s).fdiv 1000)
  | 0x6078 => half (s.bg.energyNj / 1000) 0
  | 0x607C => half (s.bg.energyNj / 1000) 1
  | 0x6080 => half (s.bg.unattrNj / 1000) 0
  | 0x6084 => half (s.bg.unattrNj / 1000) 1
  | 0x6088 => s.bg.rptProd
  | 0x6094 => leAt (keyId s) 0 4
  | 0x6098 => s.bg.accts.length + 2 ^ 16 * (s.bg.accts.filter (·.2.dirty)).length
  | 0x60C4 => linkWord s 0
  | 0x60C8 => linkWord s 1
  | 0x60CC => linkWord s 2
  | 0x60D0 => linkWord s 3
  | _ => 0

/-! ## Observation -/

/-- Visible op-code counts and idle energy (R422, R431). -/
def opsVisible (s : State) : List (Nat × (Nat × Nat)) := match s.obs.held with
  | some h => h.ops
  | none => s.obs.ops
def idleVisible (s : State) : Nat := match s.obs.held with
  | some h => h.idle
  | none => s.obs.idle

/-- Entry k of the attribution table as it is visible, where it is in use or is OTHER, whose key is fixed (R423, R431). -/
def loVisible (s : State) (k : Nat) : Option LoEnt :=
  let (l, o) := match s.obs.held with
    | some h => (h.lo.dropLast, h.lo.getLastD {})
    | none => (s.obs.lo, s.obs.other)
  if k = 1023 then some { o with layer := 0xFFFF, oper := 0xFFFF } else l[k]?

/-- Word i of OBS_LO_KEY to OBS_LO_FRAMES for an entry; a free entry reads 0. -/
def loWord (s : State) (k i : Nat) : Nat := match loVisible s k with
  | none => 0
  | some e => match i with
    | 0 => e.layer + 2 ^ 16 * e.oper
    | 1 => half e.nj 0
    | 2 => half e.nj 1
    | _ => min 0xFFFFFFFF e.frames

/-- OBS_LO_STATUS. DEDUCED (log 63). -/
def loStatus (s : State) : Nat :=
  let (n, full) := match s.obs.held with
    | some h => (h.lo.length - 1, h.loFull)
    | none => (s.obs.lo.length, s.obs.loFull)
  n + b2n full + 2 ^ 11 * b2n full

/-- Word i of OBS_OP_GRANTS_LO to OBS_OP_ENERGY_HI for a code (R422). -/
def opWord (s : State) (code i : Nat) : Nat :=
  let c := tget ((0, 0) : Nat × Nat) (opsVisible s) code
  half (if i < 2 then c.1 else c.2) (i % 2)

/-- Word i of OBS_W_STAT to OBS_W_TRIG_TS_HI of a watch: the results of the last closed window are held by a freeze, the state
and the triggers are not (R431). -/
def watchWord (s : State) (w i : Nat) : Nat :=
  let x := watch s w
  let v := match s.obs.held with
    | some h => tget ({} : Watch) h.watches w
    | none => x
  match i with
  | 0 => x.st + 4 * x.trigs + 2 ^ 8 * v.windows
  | 1 => ofSigned 16 v.vmn + 2 ^ 16 * ofSigned 16 v.vmx
  | 2 => v.vn
  | 3 => half (ofSigned 64 v.vsum) 0
  | 4 => half (ofSigned 64 v.vsum) 1
  | 5 => half v.vsq 0
  | 6 => half v.vsq 1
  | 7 => v.vcrc
  | 8 => ofSigned 16 x.trigVal
  | 9 => half x.trigTs 0
  | _ => half x.trigTs 1

def obsWord (s : State) (off : Nat) : Nat :=
  if 0x7044 ≤ off ∧ off < 0x7054 then opWord s (getF s Reg.OBS_OP_SEL.CODE) ((off - 0x7044) / 4)
  else if 0x7054 ≤ off ∧ off < 0x705C then half (idleVisible s) ((off - 0x7054) / 4)
  else if 0x7064 ≤ off ∧ off < 0x7074 then loWord s (getF s Reg.OBS_LO_SEL.ENTRY) ((off - 0x7064) / 4)
  else if off = 0x7074 then loStatus s
  else if 0x7084 ≤ off ∧ off < 0x70B0 then watchWord s (getF s Reg.OBS_W_SEL.WATCH) ((off - 0x7084) / 4)
  else 0

/-! ## Spares and duplex -/

/-- SP_FUSE_DATA: the device secret, words 65 to 79, reads 0 (R405). -/
def fuseData (s : State) : Nat :=
  let w := getF s Reg.SP_FUSE_SEL.WORD
  if 65 ≤ w ∧ w ≤ 79 then 0 else tget 0 s.rs.fuses w

def spPend (s : State) : Nat := min 255 s.sp.rows.length + 2 ^ 8 * min 15 s.sp.lanes.length + 2 ^ 12 * min 7 s.sp.reserve.length

/-- SP_PORT_JOINS, SP_PORT_ON and SP_PORT_FIRES of the selected port (R417). DEDUCED (log 65). -/
def portWear (s : State) (i : Nat) : Nat :=
  let p := getF s Reg.SP_PORT_SEL.PORT
  if s.build.ports ≤ p then 0
  else match i with
    | 0 => (port s p).joins
    | 1 => min 0xFFFFFFFF ((port s p).onNs / 1000000)
    | _ => (port s p).fires

/-- DU_STATUS (R365, R374). -/
def duStatus (s : State) : Nat :=
  (if s.build.hubs = 1 then 0 else s.du.mode) + 4 * s.du.active + 8 * b2n s.du.synced + 16 * b2n s.du.hold +
    32 * b2n (s.du.mode == 1 && s.du.synced && s.du.mirror == imagesInForce s) + 64 * lanesOut s

/-- FW_COVER (R358). -/
def fwCover (s : State) : Nat :=
  (List.range 4).foldl (fun n r => n + 16 ^ r * (if (core s (r + 4)).st = 3 then (core s (r + 4)).duty.getD 0xF else 0xF)) 0

/-- FW_TILE_DOWN (R456): the control cores that are not RUNNING, 0 until step 7 has started them. -/
def tileDown (s : State) (i : Nat) : Nat :=
  bitsOf 32 (fun k => decide (32 * i + k < s.build.tiles) && (tcore s (32 * i + k)).st != 1 && (decide (7 ≤ s.rs.done) || (tcore s (32 * i + k)).st != 0))

/-! ## A register's word -/

/-- Index of a register in its series, where the offset lies on it. -/
def inSeries (base stride n off : Nat) : Option Nat :=
  if base ≤ off ∧ (off - base) % stride = 0 ∧ (off - base) / stride < n then some ((off - base) / stride) else none

/-- Views of the block, the time base, the step angle and host access. -/
def viewLow (s : State) (off : Nat) : Nat := match off with
  | 0x0000 => fxVersion
  | 0x0004 => fxBuild s.build
  | 0x0008 => fxIdcode s
  | 0x010C => 2 ^ 17 * subActive s
  | 0x0404 => tbStatus s
  | 0x0408 => half s.tb.time 0
  | 0x040C => half s.tb.time 1
  | 0x0410 => tbOffset s % 2 ^ 28
  | 0x0444 => saStatus s
  | 0x0448 => s.sa.aR.toNat
  | 0x044C => s.sa.aX.toNat
  | 0x0450 => s.sa.rate
  | 0x0454 => half s.sa.tR 0
  | 0x0458 => half s.sa.tR 1
  | 0x080C => s.hr.flights.length + 2 ^ 10 * b2n s.hr.mfAccepted
  | 0x0F10 => s.hap.quar.length
  | _ =>
    match inSeries 0x0A0C 16 64 off with
    | some n => ringStatus s n
    | none => match inSeries 0x1004 64 4 off with
      | some c => (mbox s c).f2h.headD 0
      | none => match inSeries 0x1008 64 4 off with
        | some c => (mbox s c).f2h.length
        | none => 0

/-- Views of the Band Engine, the Phase Book and the phase controllers. -/
def viewMid (s : State) (off : Nat) : Nat := match off with
  | 0x2000 => s.be.stopped + 2 ^ 16 * b2n s.be.pcStopped + 2 ^ 17 * b2n (allStopped s)
  | 0x2040 => s.be.words.length
  | 0x2C18 => pbStatus s
  | 0x2C20 => pbInforce s
  | 0x2C34 => binWord (bin s (getF s Reg.PB_BIN_SEL.BIN % 2 ^ getF s Reg.PB_CFG.BIN_LOG2)) 0
  | 0x2C38 => binWord (bin s (getF s Reg.PB_BIN_SEL.BIN % 2 ^ getF s Reg.PB_CFG.BIN_LOG2)) 1
  | 0x2C3C => binWord (bin s (getF s Reg.PB_BIN_SEL.BIN % 2 ^ getF s Reg.PB_CFG.BIN_LOG2)) 2
  | 0x2C40 => s.pb.fcs.length
  | 0x3000 => pcStatus s
  | _ =>
    if 0x20C0 ≤ off ∧ off < 0x2100 then lpWord (loop s (getF s Reg.BE_LSEL.LOOP)) ((off - 0x20C0) / 4)
    else if 0x2400 ≤ off ∧ off < 0x2C00 then
      let g := pg s ((off - 0x2400) / 32)
      match off % 32 with
      | 16 => int32 g.x
      | 20 => int32 g.v
      | 24 => int32 g.a
      | 28 => int32 g.t
      | _ => 0
    else if 0x3100 ≤ off ∧ off < 0x3400 then
      let r := (off - 0x3100) / 64
      match off % 64 with
      | 0x28 => railStatus s r
      | 0x2C => railMeas s r
      | 0x30 => railTarget s r
      | _ => 0
    else if 0x3800 ≤ off ∧ off < 0x3800 + 4 * s.build.ports then phPort s ((off - 0x3800) / 4)
    else 0

/-- Views of the current credits and the thermal unit. -/
def viewCc (s : State) (off : Nat) : Nat := match off with
  | 0x4008 => s.cc.total
  | 0x400C => s.cc.reserve
  | 0x4010 => ccHeld s
  | 0x4014 => ccWaiting s
  | 0x5004 => thStatus s
  | 0x5060 => ofSigned 12 (coolT s) + 2 ^ 12 * b2n s.th.cool.isSome
  | 0x50B8 => rfWord s
  | _ =>
    if 0x4084 ≤ off ∧ off < 0x40A8 then lwOf (lwShown s) ((off - 0x4084) / 4)
    else if 0x4800 ≤ off ∧ off < 0x4800 + 16 * s.build.tiles then tileWord s ((off - 0x4800) / 4)
    else if 0x5084 ≤ off ∧ off < 0x5090 then snsWord s (getF s Reg.TH_SNS_SEL.SNS) ((off - 0x5084) / 4)
    else if 0x5094 ≤ off ∧ off < 0x509C then nodeWord s (getF s Reg.TH_NODE_SEL.NODE) ((off - 0x5094) / 4)
    else if 0x50A0 ≤ off ∧ off < 0x50B0 then thrTile s ((off - 0x50A0) / 4)
    else 0

/-- Views of the spares and the duplex. -/
def viewDu (s : State) (off : Nat) : Nat := match off with
  | 0x800C => spPend s
  | 0x8024 => fuseData s
  | 0x8064 => portWear s 0
  | 0x8068 => portWear s 1
  | 0x806C => portWear s 2
  | 0x9000 => duStatus s
  | 0x9100 => fwState s
  | 0x9108 => fwCover s
  | _ => if 0x9140 ≤ off ∧ off < 0x9150 then tileDown s ((off - 0x9140) / 4) else 0

/-- The bits of a register that are worked out when it is read. -/
def viewWord (s : State) (off : Nat) : Nat :=
  if off < 0x2000 then viewLow s off
  else if off < 0x4000 then viewMid s off
  else if off < 0x6000 then viewCc s off
  else if off < 0x7000 then bgWord s off
  else if off < 0x8000 then obsWord s off
  else viewDu s off

/-! ## Registers by offset -/

/-- The register that an offset names in this build, and its index in its series; none is a reserved offset (R10). -/
def regAt (b : Build) (off : Nat) : Option (RegDef × Nat) :=
  regTable.findSome? (fun d => (inSeries d.base d.stride (d.count b) off).map (fun i => (d, i)))

/-- The value of a register's stored fields. A field of a stopped PC reads the value written during the stop. -/
def storedWord (s : State) (d : RegDef) (i : Nat) : Nat :=
  d.fields.foldl (fun n f =>
    if f.stored then
      (List.range f.arr).foldl (fun n k =>
        n + 2 ^ (f.lo + f.w * k) * tget (f.rst i k) s.regs (32 * (d.base + d.stride * i) + f.lo + f.w * k)) n
    else n) 0

/-- The word that a register reads as, without the effects of a read (R8). A WO field reads 0. -/
def regWord (s : State) (off : Nat) : Nat := match regAt s.build off with
  | none => 0
  | some (d, i) => storedWord s d i + viewWord s off

/-- The word that a read returns: what a capturing read has captured, once one has (R457). -/
def readWord (s : State) (off : Nat) : Nat := match s.captured.find? (·.1 == off) with
  | some c => c.2
  | none => regWord s off

/-! ## The snapshot (R435, R436) -/

/-- Sixteen words of a tile agent. -/
def snapTile (s : State) (t i : Nat) : Nat :=
  if s.build.tiles ≤ t then 0
  else
    let x := tile s t
    let l := lwVisible s t
    match i with
    | 0 => tileCredit x
    | 1 => tileWait x
    | 2 => tileDet x
    | 3 => tileStatus x
    | 4 => (x.level - 1) + 16 * x.div + 2 ^ 8 * x.skip + 2 ^ 12 * b2n x.stretch + 2 ^ 13 * b2n x.pwrEn
    | 5 => x.rcvTot
    | 6 => x.retTot
    | n => lwOf l (n - 7)

/-- A register as the snapshot holds it: a read that removes a word, a secure mailbox and a reserved offset give 0. -/
def snapReg (s : State) (off : Nat) : Nat :=
  if (0x1080 ≤ off ∧ off < 0x1100) ∨ off = 0x1004 ∨ off = 0x1044 then 0 else readWord s off

/-- Word k of the snapshot at S, for k from 2 to 40,519. -/
def snapWord (s : State) (k : Nat) : Nat :=
  if k < 8 then match k with
    | 2 => half s.tb.time 0
    | 3 => half s.tb.time 1
    | 4 => getF s Reg.BE_FRAME.COUNT
    | 5 => getF s Reg.OBS_FRZ_STATUS.SOURCE + 16 * quality s + 2 ^ 8 * getF s Reg.OBS_FRZ_STATUS.COUNT
    | 6 => s.sa.aX.toNat
    | _ => 0
  else if k < 10248 then snapReg s (4 * (k - 8))
  else if k < 26632 then lpWord (loop s ((k - 10248) / 16)) ((k - 10248) % 16)
  else if k < 28680 then snapTile s ((k - 26632) / 16) ((k - 26632) % 16)
  else if k < 30792 then snsWord s ((k - 28680) / 2) ((k - 28680) % 2)
  else if k < 34888 then nodeWord s ((k - 30792) / 2) ((k - 30792) % 2)
  else if k < 35400 then (if (k - 34888) % 16 < 11 then watchWord s ((k - 34888) / 16) ((k - 34888) % 16) else 0)
  else if k < 36424 then opWord s ((k - 35400) / 4) ((k - 35400) % 4)
  else loWord s ((k - 36424) / 4) ((k - 36424) % 4)

/-- Words 0 to 40,519 of the chain, in order, with the CRC of the words so far and the words that are not 0. -/
def snapStep (s : State) (a : Nat × List (Nat × Nat)) (k : Nat) : Nat × List (Nat × Nat) :=
  let w := (if k = 0 then 0x4E414353 else if k = 1 then fxVersion else snapWord s k) % 2 ^ 32
  ((leBytes 4 w).foldl crc32Byte a.1, if w = 0 then a.2 else (k, w) :: a.2)

/-- The snapshot: its words that are not 0, the CRC-32 as word 40,520. -/
def snapshot (s : State) : List (Nat × Nat) :=
  let a := (List.range 40520).foldl (snapStep s) (0xFFFFFFFF, [])
  ((40520, a.1 ^^^ 0xFFFFFFFF) :: a.2).reverse

end Sys2Proof.Machine
end

