-- ==== Sys2Proof/Machine/Band.lean ====
section
/-! DEFINITION. The Band Engine's frames and ticks, and the commands that write, stop and start its loops and its watches
(R89 to R126, R213, R330, R425 to R428). -/

namespace Sys2Proof.Machine

/-! ## The automatic rule (R213) -/

/-- The largest PEAK over the settled bins from the bin of A_x to the bin a lead ahead. -/
def autoPeak (s : State) (d : Nat) : Nat :=
  let n := 2 ^ getF s Reg.PB_CFG.BIN_LOG2
  let size := 65536 / n
  let p := s.sa.aX.toNat % 65536
  let k := min n ((p + d) / size - p / size + 1)
  (List.range k).foldl (fun m i =>
    let b := bin s ((p / size + i) % n)
    if b.settled then max m b.peak else m) 0

/-- The automatic pre-open and boost of the frame. -/
def autoRule (s : State) : State :=
  if flagOn s Reg.PB_CFG.AUTO && s.sa.state == .tracking then
    let p := autoPeak s (s.sa.rate * (getF s Reg.PB_AUTO.LEAD_US * 250) / 2 ^ 28)
    let h := ccHeld s + ccWaiting s
    { s with
      pb.autoPre := p * getF s Reg.PB_AUTO.FRAC / 128
      pb.autoBoost := if h + 8 * getF s Reg.PB_AUTO.STEP_A < p then getF s Reg.PB_AUTO.BOOST_MV else 0 }
  else { s with pb.autoPre := 0, pb.autoBoost := 0 }

/-! ## The frame (R89, R94, R102) -/

/-- Every loop that is due in the frame that ends is evaluated, ascending; a word that was read with an uncorrectable error
discards the evaluation (R124). -/
def evalLoops (bad : List (Nat × Nat)) (s : State) : State :=
  ((s.be.loops.filter (fun p => lpRuns s p.2 && lpDue (getF s Reg.BE_FRAME.COUNT) p.1 p.2)).map (·.1)).foldl
    (fun s l => evalLoop ((bad.filter (·.1 == l)).map (·.2)) s l) s

/-- A word of a loop of a stopped domain that the checks of a restart have read with an uncorrectable error (R119, reason 5). -/
def checkBad (bad : List (Nat × Nat)) (s : State) : State :=
  bad.foldl (fun s p =>
    if bitAt s.be.stopped (lpDom (loop s p.1)) then modLoop s p.1 (fun x => { x with ue := x.ue ++ [p.2] }) else s) s

/-- The stops and starts of the boundary; a start waits while the hub is held (R363). DEDUCED (log 32). -/
def frameReqs (s : State) : State :=
  if s.du.hold then
    let starts := s.be.reqs.filter (·.start)
    let s := boundaryReqs { s with be.reqs := s.be.reqs.filter (fun r => !r.start) }
    { s with be.reqs := starts }
  else boundaryReqs s

/-- Value of a watch's signal (R426). -/
def signal (s : State) (x : Watch) : Int := match x.kind with
  | 0 => measure s x.index
  | 1 => sat16 ((if actHeld s x.index then actToU s x.index (actVal s x.index) else tget 0x7FFF s.be.arb x.index : Nat) : Int)
  | 2 => (loop s x.index).u
  | 3 => (rail s x.index).vsns
  | 4 => sat16 (tile s x.index).hH
  | 5 => sat16 (roundEven (pg s x.index).x (2 ^ getF s (Reg.PG_CFG.SHIFT x.index)))
  | _ => (tile s x.index).applied

/-- Every watch at the boundary, and the freezes that triggers of the frame before asked for (R428, R430). DEDUCED (log 40). -/
def frameWatches (s : State) : State :=
  let want := s.obs.watchFrz
  let s := (List.range 32).foldl (fun s w => if (watch s w).st = 2 then watchFrame s w (signal s (watch s w)) else s)
    { s with obs.watchFrz := [] }
  want.foldl (fun s w => freezeNow s 4 w 0) s

/-- The values that the snapshot at S holds: tile-sourced counts are those that the freeze marker took, also after a thaw (R432, R436). -/
def atSnap (s : State) : State := match s.obs.held, s.obs.marked with
  | none, some m => { s with obs.held := some { heldNow s with ops := m.ops, idle := m.idle, lw := m.lw } }
  | _, _ => s

/-- A snapshot that is due is captured at this boundary (R435). DEDUCED (log 62). -/
def frameSnapshot (s : State) : State :=
  if s.obs.snapDue then
    let w := snapshot (atSnap s)
    setF (setTs { s with obs.snap := w, obs.snapDue := false, obs.snapCap := true, obs.snapAt := s.now }
      Reg.OBS_SNAP_TS_LO.TS Reg.OBS_SNAP_TS_HI.TS s.tb.time) Reg.OBS_SNAP_FRAME.FRAME (getF s Reg.BE_FRAME.COUNT)
  else s

/-- The boundary after the arbitration: the first frame of a restarted domain is over, unless its results were discarded, when every
actuator keeps the value of the frame before (R125). DESIGN CHOICE (log 37). -/
def endFrame (discarded : Bool) (s : State) : State :=
  if discarded then s else { s with be.firstFrame := 0, be.carried := 0 }

/-- The ceilings of a brake that is over lift at a frame boundary (R170). -/
def liftBrake (s : State) : State := if s.pc.lifting then { s with pc.brake := false, pc.lifting := false } else s

/-- The units that work once a frame (R201, R209, R213, R269, R295); a reset of the Band Engine reaches the Phase Book and no other of
them (R397, R399). DESIGN CHOICE (log 37). -/
def frameUnits (s : State) : State :=
  let s := budgetFrame s
  planFrame (if beRuns s then pbFrame (autoRule s) else s)

/-- The Band Engine's end of a frame: what the loops and the arbitration make of it, or nothing where a lane's check failed in the frame,
at its end or with HUB_FAULT (R125). -/
def bandEnd (obs : FrameObs) (s : State) : State :=
  let s := if obs.laneFail then hubFault .lane s else s
  let bad := s.be.laneBad
  let s := { if bad then s else arbitrate (evalLoops obs.badWords s) with be.laneBad := false }
  endFrame bad (setF s Reg.BE_FRAME.COUNT (getF s Reg.BE_FRAME.COUNT + 1))

/-- The Band Engine's part of the boundary: words with errors, a takeover's actuators, and the requests. -/
def bandReqs (obs : FrameObs) (s : State) : State := frameReqs (carryDoms (checkBad obs.badWords s))

/-- BE_FRAME: 500 ns after the last boundary. The frame that ends is evaluated on what was latched at its start and is arbitrated;
then requests apply, and the next frame's inputs are latched. While sub-block 0x06 is in reset the frames go on for the units that its
reset does not reach (R397). DESIGN CHOICE (log 37). DEDUCED (log 39). -/
def beFrame (obs : FrameObs) (s : State) : State :=
  if released s 6 then
    let run := beRuns s
    let s := advanceTo s (s.be.frameAt + 125)
    let s := { s with be.frameAt := s.now }
    let s := liftBrake (if run then bandEnd obs s else s)
    let s := frameUnits (if run then bandReqs obs s else s)
    let s := frameSnapshot (frameWatches (if run then latchLoops s else s))
    lowerAll { s with hr.telPf := s.hr.telPf + chipPower s, hr.telN := s.hr.telN + 1 }
  else s

def execBeFrame (obs : FrameObs) (s : State) : Host.Outcome State Fault Refusal := finishGrants (beFrame obs s)

/-- Every profile generator steps, profile generator 0 first. -/
def pgTicks (s : State) : State := ((List.range 64).drop 1).foldl pgTick (pg0Tick s)

/-- PROFILE_TICK (R103, R188 to R192, R201): 100 ns after the last tick. While sub-block 0x06 is in reset profile generator 0 holds x,
and the dispenser goes on with it (R399). -/
def profileTick (s : State) : State :=
  if released s 6 then
    let run := beRuns s
    let s := advanceTo s (s.be.tickAt + 25)
    let s := { s with be.tickAt := s.now }
    let s := tickMessages (feedForward (dispense (if run then pgTicks s else s)))
    grantTiles (lwTransfer (if run then pbTick s else s))
  else s

def execProfileTick (s : State) : Host.Outcome State Fault Refusal := finish (profileTick s)

/-! ## LOOP_WRITE (R330, R110, R117) -/

/-- The words that a LOOP_WRITE names, as index and value, in their order. -/
def lwWords (d : List Byte) : List (Nat × Nat) :=
  (List.range (min 7 (byteAt d 8))).map (fun i => (byteAt d (9 + i), leAt d (16 + 4 * byteAt d (9 + i)) 4))

/-- The first operand outside its range: the byte offset of COUNT or of an index in ORDER, or the index of a word that fails.
DEDUCED (log 38). -/
def lwOperand (d : List Byte) : Option Nat :=
  let n := byteAt d 8
  if n = 0 ∨ 7 < n then some 8
  else
    let ord := (List.range n).map (fun i => byteAt d (9 + i))
    match (List.range n).find? (fun i => decide (6 < ord.getD i 0) || (ord.take i).contains (ord.getD i 0)) with
    | some i => some (9 + i)
    | none => ((lwWords d).find? (fun p => !wordOk p.1 p.2)).map (·.1)

/-- A loop identifier that is a TARGET. -/
def loopTarget (d : List Byte) : Bool := dTarget d / 2 ^ 24 == 6 && decide (dTarget d % 2 ^ 24 < 1024)

/-- COUNT, the first COUNT bytes of ORDER, and the words that ORDER names are what the layout names; the rest is reserved (R11, R329). -/
def lwSpec (d : List Byte) : OpSpec :=
  { named := (8, 1 + min 7 (byteAt d 8)) :: ((lwWords d).filter (fun p => decide (p.1 ≤ 6))).map (fun p => (16 + 4 * p.1, 4))
    target := loopTarget d, operand := lwOperand d }

/-- The domain for which a write of W0 or W1 is refused: the loop's own while it runs, or a running one that W0 would change to. -/
def lwRunning (s : State) (x : Loop) (ws : List (Nat × Nat)) : Option Nat :=
  let runs := fun (d : Nat) => !bitAt s.be.stopped d
  ws.findSome? (fun p =>
    if 2 ≤ p.1 ∨ p.2 = lpWord x p.1 then none
    else if runs (lpDom x) then some (lpDom x)
    else if p.1 = 0 ∧ runs (bitsAt p.2 4 4) then some (bitsAt p.2 4 4) else none)

/-- Keys the last of the pending words to a command. -/
def queueWords (l key : Nat) : List (Nat × Nat) → List LiveWord
  | [] => []
  | [w] => [⟨l, w.1, w.2, some key⟩]
  | w :: ws => ⟨l, w.1, w.2, none⟩ :: queueWords l key ws

/-- DEDUCED (log 38). -/
def lwBody (s : State) (f : Flight) (d : List Byte) : State :=
  let l := dTarget d % 2 ^ 24
  let ws := lwWords d
  match lwRunning s (loop s l) ws with
  | some k => complete s f 0x0009 k
  | none =>
    if loopLive s l then
      let live := ws.filter (fun p => decide (2 ≤ p.1))
      if live.isEmpty then complete s f 0 0
      else setJob { s with be.words := s.be.words ++ queueWords l f.key live } f .loopWrite
    else
      let stopped := bitAt s.be.stopped (lpDom (loop s l))
      complete (ws.foldl (fun s p => applyWord s l p.1 p.2 stopped) s) f 0 0

def execLoopWrite (s : State) : Host.Outcome State Fault Refusal :=
  finish (runDesc s (dOp · == 0x10) .loopWrite (fun _ d => lwSpec d) lwBody)

/-! ## LOOP_IMAGE_LOAD (R122, R123) -/

/-- Word i of an image's entry. -/
def imgWord (bs : List Byte) (k i : Nat) : Nat := leAt bs (72 + 64 * k + 4 * i) 4
def imgLoop (bs : List Byte) (k : Nat) : Nat := leAt bs (64 + 64 * k) 4
def imgCount (bs : List Byte) : Nat := leAt bs 6 2
def imgMask (bs : List Byte) : Nat := leAt bs 8 2

/-- An entry's loop identifier, its reserved fields, those of its words among them, and its domain. DEDUCED (log 38). -/
def imgEntryOk (bs : List Byte) (k : Nat) : Bool :=
  imgLoop bs k / 2 ^ 24 == 6 && decide (imgLoop bs k % 2 ^ 24 < 1024) && allZero bs (68 + 64 * k) 4 && allZero bs (100 + 64 * k) 28 &&
    bitsAt (imgWord bs k 0) 1 3 == 0 && bitsAt (imgWord bs k 1) 25 7 == 0 && bitsAt (imgWord bs k 6) 20 4 == 0 &&
    bitAt (imgMask bs) (bitsAt (imgWord bs k 0) 4 4)

/-- Whether every check of R123 but the running domain passes. DEDUCED (log 38). -/
def imgOk (bs : List Byte) : Bool :=
  let ks := List.range (imgCount bs)
  leAt bs 0 4 == 0x444E4142 && leAt bs 4 2 == 1 && decide (1 ≤ imgCount bs) && decide (imgCount bs ≤ 1024) &&
    crc32 (bs.drop 64) == leAt bs 16 4 && allZero bs 10 2 && allZero bs 20 44 && ks.all (imgEntryOk bs) &&
    ks.all (fun k => !((List.range k).any (fun j => imgLoop bs j == imgLoop bs k)))

/-- The loops of the image's domains become those that it names. Where the image names a loop that stands in a running domain outside
DOM_MASK, which R123 does not list and whose W0 and W1 R109 keeps from slave writes, the loop is overwritten like any other.
DESIGN CHOICE (log 81). -/
def loadImage (s : State) (bs : List Byte) : State :=
  let off : List (Nat × Loop) := s.be.loops.map (fun (p : Nat × Loop) =>
    if bitAt (imgMask bs) (lpDom p.2) then (p.1, { p.2 with w0 := clrBit p.2.w0 0 }) else p)
  let s := { s with be.loops := off.filter (fun p => p.2 != {}) }
  let s := (List.range (imgCount bs)).foldl (fun s k =>
    let w := imgWord bs k
    setLoop s (imgLoop bs k % 2 ^ 24) { w0 := w 0, w1 := w 1, w2 := w 2, w3 := w 3, w4 := w 4, w5 := w 5, w6 := w 6, dirty := true }) s
  setF s Reg.BE_IMAGE.ID (leAt bs 12 4)

/-- DEDUCED (log 38). -/
def imgBody (mem : MemRead) (s : State) (f : Flight) (d : List Byte) : State :=
  match mem with
  | .fail st => readFail s f (leAt d 8 8) (leAt d 16 4) 0 st.toNat
  | .data bs corr =>
    let s := readDone corr s f (leAt d 8 8) (leAt d 16 4) 0
    let bs := bs.take (leAt d 16 4)
    if 64 + 64 * imgCount bs ≠ leAt d 16 4 then complete s f 0x0012 0
    else match (bitList (imgMask bs) 16).find? (fun k => !bitAt s.be.stopped k) with
      | some k => complete s f 0x0009 k
      | none => if imgOk bs then complete (loadImage s bs) f 0 0 else complete s f 0x0012 0

def execLoopImageLoad (mem : MemRead) (s : State) : Host.Outcome State Fault Refusal :=
  finish (runRead s (dOp · == 0x11) .taken (fun _ d => loadSpec true d) (fun s _ => !readOpen s 0) (imgBody mem))

/-! ## DOMAIN_STOP and DOMAIN_START (R115, R119, R325) -/

def domSpec (d : List Byte) : OpSpec :=
  { named := [(8, 2)], bits := [(10, 1)], target := noTarget d
    operand := if leAt d 8 2 = 0 ∧ byteAt d 10 = 0 then some 8 else none }

/-- DEDUCED (log 38). -/
def domBody (start : Bool) (s : State) (f : Flight) (d : List Byte) : State :=
  setJob { s with be.reqs := s.be.reqs ++ [⟨start, leAt d 8 2, bitAt (byteAt d 10) 0, some f.key⟩] } f .domReq

def execDomainStop (s : State) : Host.Outcome State Fault Refusal :=
  finish (runDesc s (dOp · == 0x12) .domReq (fun _ d => domSpec d) (domBody false))

def execDomainStart (s : State) : Host.Outcome State Fault Refusal :=
  finish (runDesc s (dOp · == 0x13) .domReq (fun _ d => domSpec d) (domBody true))

/-! ## WATCH_SET (R425 to R428) -/

/-- INDEX names a unit of its KIND that the manifest describes (R425, R426). DEDUCED (log 40). -/
def watchIndexOk (s : State) (kind i : Nat) : Bool := match kind with
  | 0 => srcValid s i
  | 1 => actValid s i && i % 4096 != 0xFFF && (if i < 0x1000 then (mfTile s i).present else i < 0x2000 || (mfRail s (i - 0x2000)).isSome)
  | 2 => decide (i < 1024)
  | 3 => (mfRail s i).isSome
  | 4 | 6 => (mfTile s i).present
  | 5 => decide (i < 64)
  | _ => false

/-- The first operand of WATCH_SET outside its range; the definition counts where the watch is armed. DEDUCED (log 40). -/
def watchOperand (s : State) (d : List Byte) : Option Nat :=
  let x := watchOf d
  if 31 < byteAt d 8 then some 8
  else if 1 < byteAt d 9 then some 9
  else if byteAt d 9 = 0 then none
  else if 6 < x.kind then some 12
  else if !watchIndexOk s x.kind x.index then some 14
  else if x.hi < x.lo then some 22
  else if 16777216 < x.window then some 24
  else none

def watchSpec (s : State) (d : List Byte) : OpSpec :=
  { named := [(8, 2), (12, 1), (14, 5), (20, 8)], bits := [(13, 15)], target := noTarget d, operand := watchOperand s d }

/-- WATCH_SET arms a watch; ACT outside 0 and 1 ends at the operand check. -/
def execWatchArm (s : State) : Host.Outcome State Fault Refusal :=
  finish (runDesc s (fun d => dOp d == 0x60 && byteAt d 9 != 0) .taken watchSpec
    (fun s f d => complete (setWatch s (byteAt d 8) (armWatch (watchOf d))) f 0 0))

/-- WATCH_SET clears a watch. -/
def execWatchClear (s : State) : Host.Outcome State Fault Refusal :=
  finish (runDesc s (fun d => dOp d == 0x60 && byteAt d 9 == 0) .taken watchSpec
    (fun s f d => complete (setWatch s (byteAt d 8) {}) f 0 0))

end Sys2Proof.Machine
end

