-- ==== Sys2Proof/Machine/Reset.lean ====
section
/-! DEFINITION. Power-on, RESET_N, option load and the release order (R19, R375 to R387, R404 to R408). -/

namespace Sys2Proof.Machine

/-! ## What a whole-block reset leaves (R376, R377) -/

/-- The fields of RS_CAUSE, which RESET_N and scope 5 keep. -/
def causeRegs (s : State) : List (Nat × Nat) := s.regs.filter (fun p => p.1 / 32 == 0x0104)

/-- The block as a whole-block reset leaves it: the inputs stand, the TAP controller and RS_CAUSE are kept, and RESET_N does not
restart the RC oscillator's stability count (R380). DEDUCED (log 26). -/
def blank (s : State) : State :=
  { pending := s.pending, build := s.build, now := s.now, free := s.free, tap := s.tap, regs := causeRegs s,
    tb := { rcStable := s.tb.rcStable, rcStableAt := s.tb.rcStableAt, rcFrom := s.tb.rcFrom }, pins := { s.pins with gstop := true, mirrorGstop := false, thermtrip := false },
    du := { mode := if s.build.hubs = 1 then 0 else 1 }, rs := { held := s.pins.rstLow, endAt := s.now } }

/-- A whole-block reset during option load: the load starts again (R383). DEDUCED (log 26). -/
def optRestart (s : State) : State :=
  if s.rs.loading then setF (incSat s Reg.RS_CAUSE.RESTARTS) Reg.RS_CAUSE.OPT_RESTART 1 else s

/-- GOV_VDD_OFF: no state is kept (R19). DEDUCED (log 26). -/
def vddOff (s : State) : State :=
  let s := blank s
  { s with tap := {}, regs := [], tb := { rcFrom := none }, pins.vdd := false }

def execGovVddOff (s : State) : Host.Outcome State Fault Refusal := finish (vddOff s)

/-- POWER_ON_RESET: 10 µs after GOV_VDD rose, power-on reset ends (R375); the RC oscillator has run since it rose (R70).
DEDUCED (log 26). -/
def powerOn (s : State) : State :=
  let rose := s.now
  let s := vddOff (advanceTo s (rose + us 10))
  { s with pins.vdd := true, tb.rcFrom := some rose }

def execPowerOnReset (s : State) : Host.Outcome State Fault Refusal := finish (powerOn s)

/-- RESET_N is asserted (R377). The interconnect endpoint is reset with the block, so that no quarantine is carried over. -/
def resetAssert (s : State) : State :=
  let s := { s with pins.rstLow := true }
  if s.pins.vdd then setF (blank (optRestart s)) Reg.RS_CAUSE.PIN 1 else s

def execResetNAssert (s : State) : Host.Outcome State Fault Refusal := finish (resetAssert s)

/-- The release of RESET_N has been held (R380). -/
def resetRelease (s : State) : State :=
  let s := { s with pins.rstLow := false }
  if s.rs.held then { s with rs.held := false, rs.endAt := s.now } else s

def execResetNRelease (s : State) : Host.Outcome State Fault Refusal := finish (resetRelease s)

/-- A scope 5 reset takes effect (R379): tags outstanding, among them those whose response a wrapper still awaits (R52), or quarantined
stay quarantined. DEDUCED (log 25). -/
def wholeReset (s : State) : State :=
  let q := s.hap.quar.map (fun q => (⟨q.tag, .window⟩ : Quar)) ++ (s.hap.out.map (·.tag) ++ s.hap.iso).map (fun t => ⟨t, .window⟩)
  let s := setF (blank (optRestart s)) Reg.RS_CAUSE.BLOCK 1
  { s with hap.quar := q }

/-! ## Option load (R380 to R383, R404) -/

/-- Bring-up stops: the block runs on the RC oscillator and releases nothing more (R382). -/
def stopBoot (s : State) (f : Fld) : State :=
  setF (setF (changeSource { s with rs.stopped := true, rs.loading := false, rs.fzReq := false } .rc) f 1) Reg.RS_STATUS.PHASE 15

/-- What bring-up runs on: the RC oscillator until the clocks domain completes (R65, R380). -/
def bootClock (s : State) : Bool := s.tb.rcStable || decide (2 ≤ s.rs.done)

/-- Records the straps (R381). DEDUCED (log 26). -/
def putStraps (s : State) (x : Straps) : State :=
  setF (setF (setF { s with rs.straps := x } Reg.RS_STRAPS.BOOT_SRC x.bootSrc) Reg.RS_STRAPS.CLK_MODE x.clkMode)
    Reg.RS_STRAPS.DUPLEX_ROLE (b2n x.role)

/-- A read of the fuse map is requested. -/
def fuseReq (s : State) (a : Nat) : State := { s with rs.fzReq := true, rs.fzAddr := a, rs.fzAt := s.now }

/-- Option load begins 64 reference cycles after the reset has ended and the RC oscillator is stable (R380), and the straps are sampled
8 times, 1 µs apart (R381). DEDUCED (log 26). -/
def optionLoad (samples : List Straps) (s : State) : State :=
  if alive s && s.rs.step == 0 && !s.rs.stopped && s.tb.rcStable then
    match samples with
    | [] => s
    | x :: l =>
      let s := advanceTo s (max s.rs.endAt s.tb.rcStableAt + 64)
      let s := advanceTo { s with rs.step := 1, rs.loading := true, rs.stepAt := s.now } (s.now + us 7)
      if !l.all (· == x) then stopBoot (setF s Reg.RS_STRAPS.UNSTABLE 1) Reg.RS_STATUS.STRAP_FAULT
      else
        let s := putStraps s x
        if x.bootSrc = 0 ∨ x.clkMode = 0 then stopBoot s Reg.RS_STATUS.STRAP_FAULT else fuseReq s 0
  else s

def execOptionLoadStart (samples : List Straps) (s : State) : Host.Outcome State Fault Refusal := finish (optionLoad samples s)

/-- The Brim values take their fuse values (R116, R405). -/
def fuseBrim (s : State) : State :=
  let s := setF (setF s Reg.BRIM_FREQ.LEVEL (bitsAt (fuse s 2) 0 4)) Reg.BRIM_DISP.RATE (bitsAt (fuse s 2) 4 12)
  (List.range ((s.build.rails + 1) / 2)).foldl (fun s n =>
    setF (setF s (Reg.BRIM_VTGT.LO n) (bitsAt (fuse s (3 + n)) 0 10)) (Reg.BRIM_VTGT.HI n)
      (if 2 * n + 1 < s.build.rails then bitsAt (fuse s (3 + n)) 10 10 else 0)) s

/-- The stored values of every rail take their fuse values (R405). -/
def fuseStore (s : State) : State :=
  (List.range (4 * s.build.rails)).foldl (fun s j =>
    setF (setF s (Reg.RAIL_VSTORE.LO j) (bitsAt (fuse s (9 + j)) 0 10)) (Reg.RAIL_VSTORE.HI j) (bitsAt (fuse s (9 + j)) 10 10)) s

/-- The trim code and the trip limits take their fuse values (R405). -/
def fuseLimits (s : State) : State :=
  [0, 1].foldl (fun s m =>
    setF (setF s (Reg.TH_LS_C.T_TRIP (2 * m)) (bitsAt (fuse s (57 + m)) 0 12)) (Reg.TH_LS_C.T_TRIP (2 * m + 1)) (bitsAt (fuse s (57 + m)) 12 12))
    (setF s Reg.TB_TRIM.CODE (bitsAt (fuse s 1) 0 10))

/-- The hub that starts as primary (R25, R387). -/
def primary (s : State) : Nat := if s.build.hubs = 1 ∨ s.rs.straps.role then 0 else 1

/-- The fuse values and the straps are committed (R382, R408), which completes step 1. -/
def commitOptions (s : State) : State :=
  let s := { s with
    rs.fuses := s.rs.shadow, rs.shadow := [], rs.committed := true, rs.loading := false, rs.fzReq := false, rs.done := 1 }
  let s := { s with du.active := primary s }
  fuseRowsLanes (fuseStatus (fuseLimits (fuseStore (fuseBrim s))))

/-- A word goes into the shadow copy, and the next is read. -/
def fuseNext (s : State) (w : Nat) : State :=
  let s := { s with rs.shadow := tset 0 s.rs.shadow s.rs.fzAddr w }
  if s.rs.fzAddr = 4095 then commitOptions s else fuseReq s (s.rs.fzAddr + 1)

/-- FUSE_READ_DONE (R403, R404). -/
def fuseRead (v : Nat) (s : State) : State :=
  if alive s && bootClock s && s.rs.loading && s.rs.fzReq then
    let list := decide (repairBase ≤ s.rs.fzAddr)
    if list && v == 0xFFFFFFFF then fuseNext s v
    else match fuseCheck v with
      | .good => fuseNext s v
      | .corrected w => fuseNext (incSat s Reg.SP_STATUS.CORRECTED) w
      | .bad => if list then fuseNext s v else stopBoot s Reg.RS_STATUS.OPT_FAULT
  else s

def execFuseReadDone (word : Word32) (s : State) : Host.Outcome State Fault Refusal := finish (fuseRead word.toNat s)

/-- FUSE_ACK_TIMEOUT (R404): 10 µs after FZ_REQ. -/
def fuseTimeout (s : State) : State :=
  if alive s && bootClock s && s.rs.loading && s.rs.fzReq then stopBoot (advanceTo s (s.rs.fzAt + us 10)) Reg.RS_STATUS.OPT_FAULT
  else s

def execFuseAckTimeout (s : State) : Host.Outcome State Fault Refusal := finish (fuseTimeout s)

/-! ## The release order (R384 to R387) -/

/-- The gap before a step's release, in reference cycles. -/
def gapBefore (k : Nat) : Nat := [0, 64, 16, 64, 256, 256, 64, 64, 16].getD k 0

/-- Ports that the fuse map lists as bad are RETIRED from the release of their domain (R135, R408). DESIGN CHOICE (log 27). -/
def fusedPorts (s : State) : State :=
  (List.range s.build.ports).foldl (fun s p =>
    if portBad s p then setPort s p { port s p with st := .retired, cause := 7 } else s) s

/-- A detector as DET_BAD records leave it (R408). DESIGN CHOICE (log 27). -/
def fusedDet (s : State) (d : Nat) : State :=
  let v := det (tile s (d / 16)) (d % 16)
  let put := fun (v : Det) => modTile s (d / 16) (fun x => setDet x (d % 16) v)
  match detBad s d with
  | 1 => spareEvent (put { v with chan := 1, spareOk := false }) 3 (detUnit d) 0x02
  | 2 => put { v with spareOk := false }
  | 3 => spareEvent (put { v with failed := true, absent := true, spareOk := false }) 4 (detUnit d) 0x02
  | _ => s

/-- A sensor as SNS_BAD records leave it (R408). DESIGN CHOICE (log 27). -/
def fusedSns (s : State) (n : Nat) : State :=
  let x := sns s n
  match snsBad s n with
  | 1 => spareEvent (setSns s n { x with chan := 1, spareOk := false }) 3 (snsUnit n) 0x03
  | 2 => setSns s n { x with spareOk := false }
  | 3 => spareEvent (setSns s n { x with st := .absent, spareOk := false }) 4 (snsUnit n) 0x03
  | _ => s

/-- Units that records of a KIND name, each once. -/
def fusedUnits (s : State) (kind : Nat) : List Nat := ((repairsOf s kind).map (fun x => bitsAt x 0 11)).eraseDups

/-- Step 6 is released (R89, R126, R261): the phase controllers act on the reset values, and inputs that call for something do. -/
def release6 (s : State) : State :=
  let s := fusedPorts { s with
    be.pcSnap := s.regs, be.frameAt := s.now, be.tickAt := s.now, pc.compAt := 2 * s.now, sa.exAt := s.now
    th.sampleAt := s.now, th.solveAt := s.now, th.pollAt := s.now, th.rfAt := s.now }
  let s := if s.pins.brake then brakeOn s else s
  if s.pins.flowOk then s else callShutdown s 5

/-- Step 7 is released (R387, R408): every tile agent takes the primary hub's port, and the boot image is broadcast (R392).
DESIGN CHOICE (log 27). -/
def release7 (s : State) : State :=
  let s := (List.range s.build.tiles).foldl (fun s t => modTile s t (fun x => { activePort s x with
    msgAt := s.now, reportAt := s.now, testAt := s.now })) s
  let s := (fusedUnits s 3).foldl fusedSns ((fusedUnits s 2).foldl fusedDet s)
  startBcast s true Config.bootImage ((List.range s.build.tiles).filter (fun t => !tileCoreBad s t))

/-- The domain of step k is released. DESIGN CHOICE (log 27). -/
def releaseStep (s : State) (k : Nat) : State :=
  let s := advanceTo s (s.now + gapBefore k)
  let s := setF { s with rs.step := k, rs.stepAt := s.now } Reg.RS_STATUS.PHASE (k - 1)
  match k with
  | 2 => { s with
    tb.running := true, tb.tlOn := clkMode s == 3, tb.xtalOn := clkMode s == 3 || clkMode s == 2
    tb.xtalFrom := if clkMode s = 3 ∨ clkMode s = 2 then some s.now else none
    tb.pllFrom := if clkMode s = 3 then none else some s.now }
  | 6 => release6 s
  | 7 => release7 s
  | _ => s

/-- Lanes that failed training are out of service (R372, R412). -/
def trainLanes (s : State) (hub mask : Nat) : State :=
  ((bitList mask 18).filter (fun l => !bitAt (getF s (laneFld hub)) l)).foldl (fun s l => laneOut s hub l) s

/-- Step 7 completes (R386): both hubs' census is recorded, and the control cores of the tile agents found run, but for those that
the boot image failed at or that are fused bad. DESIGN CHOICE (log 27). -/
def complete7 (s : State) (o : ReleaseObs) : State :=
  let s := censusRegs { s with rs.census0 := o.census0, rs.census1 := o.census1, rs.lat0 := o.lat0, rs.lat1 := o.lat1 }
  let s := setF s Reg.RS_STATUS.RING_FAULT (b2n (!(ringMiss s).isEmpty))
  ((List.range s.build.tiles).filter (ringFound s).contains).foldl (fun s t =>
    if (tcore s t).st = 6 then s
    else if tileCoreBad s t then absentEvent (setTcore s t { st := 6 }) (tileUnit t) 0x01
    else setTcore s t { st := 1 }) s

/-- Step 8 completes (R384, R388): the slave window opens. -/
def complete8 (s : State) : State :=
  let s := setCore { s with rs.openAt := s.now, hr.pollAt := s.now, hr.telAt := s.now } 2 { st := 1 }
  setF (setF s Reg.RS_BOOT_CYC.CYCLES (min 0xFFFFFFFF (s.now - s.rs.endAt))) Reg.RS_STATUS.PHASE 8

/-- What the completion of step k brings. DESIGN CHOICE (log 27). -/
def completeStep (s : State) (k : Nat) (o : ReleaseObs) : State :=
  let s := { s with rs.done := k }
  match k with
  | 3 => if s.build.hubs = 2 then trainLanes (trainLanes s 0 o.lanes0) 1 o.lanes1 else s
  | 4 => setCore s 0 { st := 1 }
  | 5 => [0, 1, 2, 3].foldl (fun s r =>
      if reserveBad s r then absentEvent (setCore s (4 + r) { st := 6 }) (hubUnit s) 0x08 else setCore s (4 + r) { st := 2 })
    (setCore s 1 { st := 1 })
  | 7 => complete7 s o
  | 8 => complete8 s
  | _ => s

/-- The step that was released may complete: step 1 by its commit, step 2 once the hub PLL is stable, step 7 once the broadcast of the
boot image has ended. DESIGN CHOICE (log 27). -/
def stepMayEnd (s : State) : Bool := match s.rs.step with
  | 0 => false
  | 1 => s.rs.done != 0
  | 2 => s.tb.pllStable
  | 7 => s.rs.bcast.isNone
  | _ => true

/-- DOMAIN_RELEASE: the step that was released completes, and the next is released after its gap. A loss of the RC oscillator before
the clocks domain is complete stalls it (R65). DESIGN CHOICE (log 27). -/
def domainRelease (o : ReleaseObs) (s : State) : State :=
  let k := s.rs.step
  if !alive s || s.rs.stopped || s.rs.done == 8 || !bootClock s || !stepMayEnd s then s
  else
    let s := if s.rs.done < k then completeStep s k o else s
    if k < 8 then releaseStep s (k + 1) else s

def execDomainRelease (obs : ReleaseObs) (s : State) : Host.Outcome State Fault Refusal := finish (domainRelease obs s)

/-- The completion bound of a step, in reference cycles from its release (R384). Step 7 has none that stops bring-up (R385). -/
def stepBound (k : Nat) : Nat := [0, 252000, 2575000, 20000, 750000, 250000, 250, 0, 125000].getD k 0

/-- BRINGUP_STUCK (R385). -/
def bringupStuck (s : State) : State :=
  let k := s.rs.step
  if alive s && bootClock s && !s.rs.stopped && k != 0 && k != 7 && decide (s.rs.done < k) then
    let s := advanceTo s (s.rs.stepAt + stepBound k)
    stopBoot (setF s Reg.RS_STATUS.STUCK_STEP k) Reg.RS_STATUS.STUCK
  else s

def execBringupStuck (s : State) : Host.Outcome State Fault Refusal := finish (bringupStuck s)

end Sys2Proof.Machine
end

