-- ==== Sys2Proof/Machine/HapRows.lean ====
section
/-! DEFINITION. Responses to master requests as the whole block takes them: the results that need no row of their own go to the
features that asked, and the drain of a scope 5 reset ends with the last tag (R43, R46, R331, R379, R458). -/

namespace Sys2Proof.Machine

/-- A completed request that no row of its own takes: a report, a descriptor's result, or account zeroing. -/
def isInner : Purpose → Bool
  | .report _ | .rptIdx _ | .result _ | .zeroAcct _ => true
  | _ => false

/-- Hands such a request to the feature that asked for it. DEDUCED (log 11, 18). -/
def innerDone (s : State) (d : Done) : State := match d.purpose with
  | .report i => reportDone s i d.status
  | .rptIdx _ => if d.status = 0 then s else hrErr s Reg.HR_ERR.CPL_WRITE none
  | .result k => resultDone s k d.status
  | .zeroAcct k => zeroDone s k d.status
  | _ => s

/-- Hands over every completed request of that kind, oldest first. DEDUCED (log 11). -/
def innerAll (s : State) : State := s.hap.done.foldl (fun s _ => match takeDone s isInner with
  | some (d, s) => innerDone s d
  | none => s) s

/-- The drain of a scope 5 reset is over once no tag is outstanding: the reset takes effect (R379). DEDUCED (log 25). -/
def drainCheck (s : State) : State := if s.rs.draining.isSome && s.hap.out.isEmpty then wholeReset s else s

/-- HAP_MASTER_RESPONSE (R43, R46, R458). -/
def execHapMasterResponse (resp : MasterResp) (s : State) : Host.Outcome State Fault Refusal :=
  finish (drainCheck (innerAll (hapResponse s resp)))

/-- HAP_TIMEOUT (R46). -/
def execHapTimeout (tag : BitVec 8) (s : State) : Host.Outcome State Fault Refusal :=
  finish (drainCheck (innerAll (hapTimeout s tag.toNat)))

/-- MISFIT_LAST_TIMEOUT (R458). -/
def execMisfitLastTimeout (tag : BitVec 8) (s : State) : Host.Outcome State Fault Refusal :=
  finish (drainCheck (misfitTimeout s tag.toNat))

/-- After GOOD for the completion record of a scope 5 reset FX-4 stops issuing requests and drains the tags; a record that failed
brings no reset (R331, R379). DEDUCED (log 25). -/
def wholeGo (s : State) (n i status : Nat) : State :=
  if s.rs.whole = some (n, i) then
    if status = 0 then drainCheck { s with hap.stopped := true, rs.whole := none, rs.draining := some s.now }
    else { s with rs.whole := none }
  else s

/-- COMPLETION_WRITE_DONE (R321, R323). -/
def execCompletionWriteDone (s : State) : Host.Outcome State Fault Refusal :=
  finish (match takeDone s isCpl with
    | some (⟨.cpl n i, st, _⟩, s) => wholeGo (cplDone s n i st) n i st
    | _ => s)

/-- BLOCK_RESET_DRAIN_TIMEOUT (R379): 10 ms after the drain began, with tags still outstanding. DEDUCED (log 25). -/
def resetDrainOver (s : State) : State := match s.rs.draining with
  | some t => wholeReset (advanceTo s (t + ms 10))
  | none => s

def execBlockResetDrainTimeout (s : State) : Host.Outcome State Fault Refusal := finish (resetDrainOver s)

end Sys2Proof.Machine
end

