-- ==== Sys2Proof/Machine/Partial.lean ====
section
/-! DEFINITION. Cluster power in waves and the partial resets (R332, R394 to R401). -/

namespace Sys2Proof.Machine

/-! ## Ports as the manifest and the fuse map place them (R135, R408) -/

/-- The PHASE_SPARE records of a rail, as logical phase and port. -/
def spareRecords (s : State) (r : Nat) : List (Nat × Nat) :=
  ((repairsOf s 5).filter (fun x => bitsAt x 16 4 == r)).map (fun x => (bitsAt x 8 8, bitsAt x 0 8))

/-- A PHASE_SPARE record that is not ignored. -/
def spareOk (s : State) (m : MfRail) (p : Nat × Nat) : Bool :=
  decide (p.1 < m.ports.length) && m.spares.contains p.2 && !portBad s p.2

/-- The spare ports that carry logical phases of a rail, by phase: the later of two records for a phase decides.
DEDUCED (log 28). -/
def sparePlaces (s : State) (r : Nat) (m : MfRail) : List (Nat × Nat) :=
  ((spareRecords s r).filter (spareOk s m)).foldl (fun t p => if (tdel t p.1).any (·.2 == p.2) then t else tput t p.1 p.2) []

/-- One port of a rail, with the logical phase it is to carry. A port fused bad stays RETIRED, and its phase waits for a spare. -/
def placePort (r : Nat) (s : State) (p : Nat) (ph : Option Nat) : State :=
  if portBad s p then
    let s := modPort s p (fun x => { x with st := .retired, cause := 7, rail := some r, was := ph })
    match ph with
    | some l => modRail s r (fun y => { y with need := y.need ++ [l] })
    | none => s
  else modPort s p (fun x => { x with st := if ph.isSome then .off else .spare, rail := some r, lphase := ph })

/-- The ports of a rail. A spare port that a PHASE_SPARE record puts in a phase's place is a spare brought in (R408, R413). -/
def placeRail (s : State) (r : Nat) (m : MfRail) : State :=
  let at_ := sparePlaces s r m
  let carriers := (List.range m.ports.length).map (fun l => (tget (m.ports.getD l 0) at_ l, some l))
  let rest := ((m.ports ++ m.spares).filter (fun p => !carriers.any (·.1 == p))).map (fun p => (p, (none : Option Nat)))
  let s := (carriers ++ rest).foldl (fun s q => placePort r s q.1 q.2) s
  at_.foldl (fun s q => spareEvent s 3 (phaseUnit r q.1) 0x05) s

/-- Every port that the manifest names takes its place. -/
def placePorts (s : State) : State := match s.mf with
  | none => s
  | some m => m.rails.foldl (fun s q => placeRail s q.1 q.2) s

/-! ## Cluster power (R332, R394 to R396) -/

/-- The tile agents that TILES names. -/
def namedTiles (d : List Byte) : List Nat := bitList (leAt d 16 16) 128

/-- Every tile agent that TILES names is one of the manifest. -/
def tilesOk (s : State) (d : List Byte) : Bool := (namedTiles d).all (fun t => (mfTile s t).present)

/-- DEDUCED (log 21). -/
def powerSpec (s : State) (d : List Byte) : OpSpec :=
  { named := [(8, 1), (16, 16)], target := noTarget d
    operand := if 1 < byteAt d 8 then some 8 else if leAt d 16 16 = 0 || !tilesOk s d then some 16 else none }

/-- A CLUSTER_POWER in flight names a tile agent. -/
def powerNames (s : State) (t : Nat) : Bool :=
  s.rs.waves.any (fun j => j.left.contains t || j.now.contains t) ||
    s.hr.flights.any (fun f => match f.job with
      | .clusterDown l => l.contains t
      | _ => false)

/-- A CLUSTER_POWER that R332 or R395 refuses with STATE, with its DETAIL: the lowest tile agent that R395 names, and 0 where only a
rail is not UP (R332, R336). DEDUCED (log 21). -/
def powerRefused (s : State) (ts : List Nat) : Option Nat :=
  match ts.find? (fun t => (tile s t).lost || (tget none s.rs.tileRst t).isSome || powerNames s t) with
  | some t => some t
  | none => if ts.any (fun t => (rail s (mfTile s t).rail).st != .up) then some 0 else none

/-- Replaces a wave command. -/
def setWave (s : State) (old new : WaveJob) : State := { s with rs.waves := s.rs.waves.map (fun j => if j = old then new else j) }

/-- A tile agent of a wave drives CL_PWR_EN high at level 1. DEDUCED (log 21). -/
def waveTile (s : State) (x : Tile) : Tile :=
  { applyLevel s x 1 with pwrEn := true, offOrder := false, levelOne := true, cmd := 1, applied := 1, order := none, raise := none }

/-- Begins the next wave of a command. -/
def beginWave (s : State) (j : WaveJob) : State :=
  let n := getF s Reg.RS_WAVE.SIZE
  let k := { j with now := j.left.take n, left := j.left.drop n, enAt := s.now, okAt := s.now }
  (k.now).foldl (fun s t => setTile s t (waveTile s (tile s t))) (setWave s j k)

/-- A command whose last wave is over completes (R394, R395). -/
def waveDone (s : State) (j : WaveJob) : State :=
  if j.left.isEmpty && j.now.isEmpty then
    let s := { s with rs.waves := s.rs.waves.filter (· != j) }
    match j.failed with
    | some t => completeKey s j.key 0x0008 t
    | none => completeKey s j.key 0 0
  else s

/-- DEDUCED (log 21). -/
def powerUpBody (s : State) (f : Flight) (d : List Byte) : State :=
  let ts := namedTiles d
  if !isReady s then complete s f 0x0008 (getF s Reg.RS_STATUS.PHASE)
  else if s.th.sd != .run then complete s f 0x000C (sdCode s.th.sd)
  else match powerRefused s ts with
    | some t => complete s f 0x0008 t
    | none =>
      let off := ts.filter (fun t => !(tile s t).pwrOk)
      if off.isEmpty then complete s f 0 0
      else
        let j : WaveJob := { key := f.key, left := off, now := [], enAt := s.now, okAt := s.now }
        beginWave (setJob { s with rs.waves := s.rs.waves ++ [j] } f .clusterUp) j

/-- CLUSTER_POWER_UP; ON outside 0 and 1 ends at the operand check. -/
def execClusterPowerUp (s : State) : Host.Outcome State Fault Refusal :=
  finish (runDesc s (fun d => dOp d == 0x05 && byteAt d 8 != 0) .clusterUp powerSpec powerUpBody)

/-- Off orders whose clusters are all off complete. -/
def powerDowns (s : State) : State :=
  s.hr.flights.foldl (fun s f => match f.job with
    | .clusterDown l => if l.all (fun t => !(tile s t).pwrOk) then complete s f 0 0 else s
    | _ => s) s

/-- DEDUCED (log 21). -/
def powerDownBody (s : State) (f : Flight) (d : List Byte) : State :=
  let ts := namedTiles d
  if !isReady s then complete s f 0x0008 (getF s Reg.RS_STATUS.PHASE)
  else match powerRefused s ts with
    | some t => complete s f 0x0008 t
    | none => powerDowns (setJob (ts.foldl (fun s t => modTile s t clusterOff) s) f (.clusterDown ts))

def execClusterPowerDown (s : State) : Host.Outcome State Fault Refusal :=
  finish (runDesc s (fun d => dOp d == 0x05 && byteAt d 8 == 0) .taken powerSpec powerDownBody)

/-- WAVE_START: GAP_US after the last CL_PWR_OK of a wave, the next begins. -/
def waveStart (s : State) : State :=
  match s.rs.waves.find? (fun j => j.now.isEmpty && !j.left.isEmpty) with
  | some j => beginWave (advanceTo s (j.okAt + us (getF s Reg.RS_WAVE.GAP_US))) j
  | none => s

def execWaveStart (s : State) : Host.Outcome State Fault Refusal := finish (waveStart s)

/-- CLUSTER_POWER_OK (R177, R394, R410): CL_PWR_OK has risen; the detectors are sized in the 10 µs hold. -/
def clusterOk (t : Nat) (trips : List DetTrip) (s : State) : State :=
  if tileRuns s t && (mfTile s t).present && !(tile s t).pwrOk then
    let s := modTile s t (fun x => { x with pwrOk := true, hold10 := true, okAt := s.now })
    let s := (List.range 16).foldl (sizeDet t trips) s
    match s.rs.waves.find? (fun j => j.now.contains t) with
    | some j =>
      let k := { j with now := j.now.filter (· != t), okAt := s.now }
      waveDone (setWave s j k) k
    | none => s
  else s

def execClusterPowerOk (tile : Nat) (trips : List DetTrip) (s : State) : Host.Outcome State Fault Refusal :=
  finish (clusterOk tile trips s)

/-- CL_PWR_HOLD_EXPIRY (R177): 10 µs after CL_PWR_OK rose. -/
def holdExpiry (t : Nat) (s : State) : State :=
  let x := tile s t
  if x.pwrOk && x.hold10 && tileRuns s t then
    let s := advanceTo s (x.okAt + us 10)
    let s := modTile s t (fun x => { x with hold10 := false, levelOne := if s.th.sd == .run then false else x.levelOne })
    grantRun (detOutputs s t) t
  else s

def execClPwrHoldExpiry (tile : Nat) (s : State) : Host.Outcome State Fault Refusal := finish (holdExpiry tile s)

/-- CLUSTER_POWER_OK_TIMEOUT (R395): OK_US after CL_PWR_EN rose. DEDUCED (log 21). -/
def okTimeout (t : Nat) (s : State) : State :=
  match s.rs.waves.find? (fun j => j.now.contains t) with
  | some j =>
    let s := advanceTo s (j.enAt + us (getF s Reg.RS_WAVE.OK_US))
    let k := { j with now := j.now.filter (· != t), failed := some (min t (j.failed.getD t)) }
    waveDone (setWave (modTile s t (fun x => { x with pwrEn := false })) j k) k
  | none => s

def execClusterPowerOkTimeout (tile : Nat) (s : State) : Host.Outcome State Fault Refusal := finish (okTimeout tile s)

/-- CL_PWR_OK_FALL (R177, R188, R332). -/
def okFall (t : Nat) (s : State) : State :=
  if (tile s t).pwrOk then powerDowns (detOutputs (modTile s t (fun x => { x with pwrOk := false, hold10 := false, grants := [] })) t)
  else s

def execClPwrOkFall (tile : Nat) (s : State) : Host.Outcome State Fault Refusal := finish (okFall tile s)

/-! ## BLOCK_RESET of scopes 1 to 3 (R331, R397, R398) -/

/-- A unit of a tile agent that is in reset. -/
def inRst (s : State) (t : Nat) : Bool := (tget none s.rs.tileRst t).isSome
def setRst (s : State) (t : Nat) (x : Option TileRst) : State := { s with rs.tileRst := tset none s.rs.tileRst t x }

/-- BLOCK_RESET of scope 1; a SCOPE outside 1 to 5 ends at the operand check. DEDUCED (log 22). -/
def engSpec (s : State) (d : List Byte) : OpSpec :=
  { manifest := byteAt d 8 == 1, named := [(8, 1)], target := byteAt d 8 != 1 || (dTarget d / 2 ^ 24 == 7 && validUnit s (dTarget d))
    operand := if byteAt d 8 = 1 then none else some 8 }

/-- DEDUCED (log 22). -/
def engBody (s : State) (f : Flight) (d : List Byte) : State :=
  let i := dTarget d % 2 ^ 24
  let t := i / 64
  if inRst s t then complete s f 0x0008 0
  else complete (grantRun (modTile s t (fun x => resetEngine x (i % 64))) t) f 0 0

def execBlockResetEngine (s : State) : Host.Outcome State Fault Refusal :=
  finish (runDesc s (fun d => dOp d == 0x04 && !([2, 3, 4, 5].contains (byteAt d 8))) .engReset engSpec engBody)

/-- Steps 1 and 2 of a tile agent's reset: its demand no longer counts, its recall is cancelled, its engines are reset and its
pool goes to the hub. DEDUCED (log 23). -/
def tileRstStart (scope key : Nat) (s : State) (t : Nat) : State :=
  let s := setRst (opTransfer s t) t (some { key := key, startedAt := s.now, scope := scope })
  modTile s t (fun x => { clusterOff { x with mark := x.retTot } with hMark := x.hRet, lwHub := lwCounts x, lwAt := s.now })

/-- DEDUCED (log 22). -/
def tileRstBody (scope : Nat) (ts : List Nat) (s : State) (f : Flight) : State :=
  if ts.any (inRst s) then complete s f 0x0008 0
  else if ts.isEmpty then complete s f 0 0
  else ts.foldl (tileRstStart scope f.key) (setJob s f (.tileReset ts))

/-- DEDUCED (log 22). -/
def clusterSpec (s : State) (d : List Byte) : OpSpec :=
  { named := [(8, 1)], target := dTarget d / 2 ^ 24 == 1 && validUnit s (dTarget d) }

def execBlockResetCluster (s : State) : Host.Outcome State Fault Refusal :=
  finish (runDesc s (fun d => dOp d == 0x04 && byteAt d 8 == 2) .taken clusterSpec
    (fun s f d => tileRstBody 2 [dTarget d % 2 ^ 24] s f))

/-- TARGET is the active hub (R331). -/
def hubTarget (s : State) (d : List Byte) : Bool := dTarget d == hubUnit s

/-- DEDUCED (log 22). -/
def partSpec (s : State) (d : List Byte) : OpSpec :=
  { named := [(8, 1), (16, 16)], target := hubTarget s d, operand := if tilesOk s d then none else some 16 }

def execBlockResetPartition (s : State) : Host.Outcome State Fault Refusal :=
  finish (runDesc s (fun d => dOp d == 0x04 && byteAt d 8 == 3) .taken partSpec (fun s f d => tileRstBody 3 (namedTiles d) s f))

/-- A tile agent as its own reset leaves it: what R397 keeps, the hub's record of it, and what it has on the way to the hub stay.
DEDUCED (log 23). -/
def resetTile (x : Tile) : Tile :=
  { x with
    pool := 0, held := 0, mark := 0, rcvTot := 0, retTot := 0, engs := [], last := 63, grants := []
    dets := x.dets.map (fun (p : Nat × Det) => (p.1, { p.2 with st := false, fi := false, fails := 0, pulse := false }))
    stretch := false, uvf := false, pwrEn := false, hold10 := false, level := 1, div := 15, skip := 0, order := none
    cmd := 1, applied := 1, raise := none, localCeil := 16, localTrip := false, lims := [], liftDue := false, brimRx := 16, orphan := false
    orphanSeen := false, spurious := 0, vref := 0, refHeld := 0, tgtA := 0, tgtB := 0, offOrder := false, levelOne := false, down := []
    ops := [] }

/-- Step 3: the credits sent to the tile agent less those it returned are stranded; step 4: it resets, its control core restarts, and
its sensors' values used are the cover. DEDUCED (log 23). -/
def strandRst (s : State) (t : Nat) (r : TileRst) : State :=
  let s := modTile (opTransfer (strandTile s t) t) t resetTile
  let s := setRst s t (some { r with stranded := true })
  formUsed (trimsAgain (if (tcore s t).st = 6 then s else setTcore s t { tcore s t with st := 5, byFault := false }) t)

/-- TILE_RESET_STRAND: when the pool's return is received, or 2 µs after step 1. -/
def tileStrand (t : Nat) (s : State) : State :=
  match tget none s.rs.tileRst t with
  | some r => if r.stranded then s else strandRst (if (tile s t).up.isEmpty then s else advanceTo s (r.startedAt + us 2)) t r
  | none => s

def execTileResetStrand (tile : Nat) (s : State) : Host.Outcome State Fault Refusal := finish (tileStrand tile s)

/-- A tile agent of a BLOCK_RESET is done; the command completes with the last. -/
def tileRstLeft (s : State) (key t : Nat) : State :=
  match s.hr.flights.find? (·.key == key) with
  | some f => match f.job with
    | .tileReset l =>
      let rest := l.filter (· != t)
      if rest.isEmpty then complete s f 0 0 else setJob s f (.tileReset rest)
    | _ => s
  | none => s

/-- TILE_RESET_DONE: step 5 (R398). DEDUCED (log 23). -/
def tileRstDone (t : Nat) (s : State) : State :=
  match tget none s.rs.tileRst t with
  | some r =>
    if r.stranded then
      let n := (tile s t).stranded
      let s := modTile (setRst s t none) t (fun x => { activePort s x with
        stranded := 0, hSent := 0, hRcv := 0, hRet := 0, hMark := 0, hP := 0, hH := 0, hW := 0, hTrip := 0, lost := false
        orphan := false, orphanSeen := false, up := [], down := [], reportAt := s.now, msgAt := s.now, testAt := s.now
        lims := limsNow s })
      let s := formUsed { s with cc.reserve := s.cc.reserve + n }
      let s := raiseEvent s 0x0E 1 (tileUnit t) (leBytes 1 r.scope)
      tileRstLeft s r.key t
    else s
  | none => s

def execTileResetDone (tile : Nat) (s : State) : Host.Outcome State Fault Refusal := finish (tileRstDone tile s)

/-- TILE_RESET_TIMEOUT (R398): 1 ms after step 1 the command completes, and the tile agent stays LOST, with its credits stranded: the
model lets them rejoin only by a later reset that reaches step 5, and not by a report of nothing held that comes after this one timed
out (R194 asks for a report after a reset). DESIGN CHOICE (log 75). -/
def tileRstTimeout (t : Nat) (s : State) : State :=
  match tget none s.rs.tileRst t with
  | some r =>
    let s := advanceTo s (r.startedAt + ms 1)
    let s := if r.stranded then s else strandRst s t r
    completeKey (setRst s t none) r.key 0x0008 t
  | none => s

def execTileResetTimeout (tile : Nat) (s : State) : Host.Outcome State Fault Refusal := finish (tileRstTimeout tile s)

/-! ## Sub-blocks of the hub (R399 to R401) -/

/-- Descriptors whose executing sub-block is reset complete (R331). DEDUCED (log 22). -/
def abandon (s : State) (c : Nat) : State :=
  (s.hr.flights.filter (fun f => subOf f.op == c)).foldl (fun s f => complete s f 0x001C 0) s

/-- Stored fields of the offsets from lo to below hi take their reset values. -/
def resetRegs (s : State) (lo hi : Nat) : State := { s with regs := s.regs.filter (fun p => decide (p.1 / 32 < lo) || decide (hi ≤ p.1 / 32)) }

/-- A hub fault's hold ends with the reset of R401. -/
def endHold (s : State) (fs : List HubFault) : State :=
  let l := s.du.holdFor.filter (fun f => !fs.contains f)
  { s with du.holdFor := l, du.hold := s.du.hold && !l.isEmpty }

/-- A core goes into a reset of its own: its duties are covered, and no fault is counted. -/
def coreEnter (s : State) (k : Nat) : State :=
  if (core s k).st = 6 then s
  else
    let carried := dutyRuns s k && (core s k).st != 1
    let s := dutyGap (setCore s k { core s k with st := 0, byFault := false }) k
    if carried then s else coverCore s k

/-- The reserve complex goes into reset. -/
def reserveEnter (s : State) : State :=
  [4, 5, 6, 7].foldl (fun s k => if (core s k).st = 6 then s else setCore s k { core s k with st := 0, duty := none, byFault := false }) s

/-- The board bus controllers go into reset: transactions in progress end as failed, and a poll that is out is missed. -/
def busEnter (s : State) : State :=
  let s := { busGap s with bus.retry := [] }
  if s.th.polling then flowMissed { s with th.polling := false } else s

/-- The Band Engine goes into reset: actuators are held, the Phase Book's timers are disarmed, its effects end. -/
def bandEnter (s : State) : State :=
  let s := abandon (stopAll s) 6
  { s with
    be.words := [], be.reqs := [], pb.pend := none, pb.unload := false, pb.inst := [], pb.active := [], th.pend := none
    sa.timers := s.sa.timers.filter (fun p => match p.2 with
      | some t => (match t.owner with
        | .action _ | .forecast _ => false
        | _ => true)
      | none => false) }

/-- The phase controllers go into reset: every port OFF. -/
def pcEnter (s : State) : State :=
  let s := { abandon s 7 with pc.jobs := [] }
  let s := (mfRails s).foldl (fun s r => if railDown s r then s else disableRail s r .off .off) s
  orderlyDown (hardDown s)

/-- A request that host access makes for its rings. -/
def hostPurpose : Purpose → Bool
  | .dbProd | .dbCplCons | .dbEvCons | .evIdx _ | .telIdx _ | .event _ | .tel _ => true
  | .fetch _ _ _ | .cpl _ _ | .cplIdx _ _ => true
  | _ => false

/-- The isolation wrapper completes a request of host access (R50, R52, R54). DEDUCED (log 24). -/
def isolate (s : State) (r : MReq) : State := hapErr { s with hap.iso := s.hap.iso ++ [r.tag] } Reg.HAP_ERR.ISOL 6 false r.addr r.tag 4

/-- Host access goes into reset (R52): its requests end inside the hub as failed and their responses will be discarded, mailbox queues
are emptied, and completion records not yet answered are discarded. DEDUCED (log 24). -/
def hostEnter (s : State) : State :=
  let n := s.hr.rings.foldl (fun n p => n + p.2.held.length + p.2.cplOut.length) s.hr.cplWait.length
  let mine := s.hap.out.filter (fun r => hostPurpose r.purpose)
  let s := mine.foldl isolate s
  { s with
    mb := [], hr.cplLost := s.hr.cplLost + n
    hap.out := s.hap.out.filter (fun r => !hostPurpose r.purpose)
    hap.wait := s.hap.wait.filter (fun r => !hostPurpose r.purpose)
    hap.done := s.hap.done.filter (fun d => !hostPurpose d.purpose)
    hr.evOut := [], hr.telOut := [], hr.cplWait := []
    hr.rings := s.hr.rings.map (fun (p : Nat × Ring) => (p.1, { p.2 with
      held := [], cplOut := [], ready := [], fetching := false, error := false })) }

/-- A sub-block goes into reset. DEDUCED (log 24). -/
def subEnter (s : State) (c : Nat) : State := match c with
  | 1 | 2 | 3 => coreEnter s (c - 1)
  | 4 => reserveEnter s
  | 5 => busEnter s
  | 6 => bandEnter s
  | 7 => pcEnter s
  | 8 => hostEnter s
  | _ => s

/-- A core restarts from the image in force. -/
def coreLeave (s : State) (k : Nat) : State := if (core s k).st = 0 then setCore s k { core s k with st := 5, byFault := false } else s

/-- The Band Engine leaves its reset. DEDUCED (log 24). -/
def bandLeave (s : State) : State :=
  let before := s
  let s := s.pb.fcs.foldl (fun s f => closeForecast s f 3) s
  let s := fuseBrim (resetRegs s 0x2000 0x3000)
  let s := { s with
    be := { pcSnap := s.be.pcSnap, frameAt := s.be.frameAt, tickAt := s.be.tickAt }, pb := {}, obs.watches := [], obs.watchFrz := []
    th.model := none, th.nodes := [], th.settling := false, th.solves := 0 }
  let s := setF (setF (setF s Reg.TH_OBS_STATUS.SETTLING 0) Reg.TH_OBS_STATUS.NODES 0) Reg.TH_OBS_STATUS.LOADED 0
  let s := setF s Reg.TH_MODEL_ID.ID 0
  endHold (convEvent before s) [.lane, .frameWd]

/-- The phase controllers leave their reset. Wear counts are kept (R417). DEDUCED (log 24). -/
def pcLeave (s : State) : State :=
  let s := fuseStore (resetRegs s 0x3000 0x4000)
  let s := { s with
    pc.rails := [], pc.compAt := 2 * s.now, be.pcSnap := if s.be.pcStopped then s.regs else s.be.pcSnap
    pc.ports := s.pc.ports.map (fun (p : Nat × Port) => (p.1, { onNs := p.2.onNs, joins := p.2.joins, fires := p.2.fires })) }
  endHold (placePorts (fusedPorts s)) [.pcResidue]

/-- Host access leaves its reset: rings disabled, no doorbell page, and one event with the records discarded.
DEDUCED (log 24). -/
def hostLeave (s : State) : State :=
  let s := pumpReports { s with hap.iso := [] }
  let s := setF (setF (setF s Reg.HR_DB_BASE_LO.EN 0) Reg.HR_DB_BASE_LO.ADDR 0) Reg.HR_DB_BASE_HI.ADDR 0
  let s := setF (setF s Reg.HR_EV_CFG.EN 0) Reg.HR_TEL_CFG.EN 0
  let s := (List.range 64).foldl (fun s n =>
    setRing (setF s (Reg.RING_CFG.EN n) 0) n { idle := (ringFlights s n).isEmpty, lost := (ring s n).lost }) s
  let n := s.hr.cplLost
  raiseEvent { s with hr.cplLost := 0, hr.evProd := 0, hr.evCons := 0, hr.telProd := 0, hr.telCons := 0, hr.telRun := false }
    0x0F 2 (hubUnit s) (zeros 4 ++ leBytes 4 n)

/-- The board bus controllers leave their reset: target marks cleared, SETDASA repeated (R399). DEDUCED (log 24). -/
def busLeave (s : State) : State :=
  setupAgain { s with bus.faulted := [], bus.absent := [], bus.setupDue := true }

/-- A sub-block leaves its reset. DEDUCED (log 24). -/
def subLeave (s : State) (c : Nat) : State := match c with
  | 1 | 2 | 3 => coreLeave s (c - 1)
  | 4 => [4, 5, 6, 7].foldl coreLeave s
  | 5 => busLeave s
  | 6 => bandLeave s
  | 7 => pcLeave s
  | 8 => hostLeave s
  | _ => s

/-- The condition of R399. -/
def subMay (s : State) (c : Nat) : Bool := match c with
  | 1 | 2 | 3 => (standby s).isSome
  | 4 => [4, 5, 6, 7].all (fun k => (core s k).st != 3)
  | 7 => (mfRails s).all (railDown s)
  | _ => true

/-- DEDUCED (log 22). -/
def subSpec (s : State) (d : List Byte) : OpSpec :=
  { manifest := false, named := [(8, 2)], target := hubTarget s d
    operand := if byteAt d 9 = 0 ∨ 8 ≤ byteAt d 9 then some 9 else none }

/-- A sub-block of cores stays in reset until its cores run again; the others leave it at once. DEDUCED (log 22). -/
def subBody (s : State) (f : Flight) (d : List Byte) : State :=
  let c := byteAt d 9
  if subIn s c || !subMay s c then complete s f 0x0008 0
  else
    let s := subLeave (subEnter s c) c
    if c ≤ 4 then coreLeft (setJob { s with rs.subBlk := orBit s.rs.subBlk c } f (.subReset c)) (if c = 4 then 4 else c - 1)
    else complete s f 0 0

def execBlockResetSubBlock (s : State) : Host.Outcome State Fault Refusal :=
  finish (runDesc s (fun d => dOp d == 0x04 && byteAt d 8 == 4) .taken subSpec subBody)

/-- What follows a write of RS_SUB.HOLD (R400): a hold whose condition of R399 does not stand is refused, and its bit stays 0.
DEDUCED (log 24). -/
def holdWritten (old s : State) : State :=
  [1, 2, 3, 4, 5, 6, 7, 8].foldl (fun s c =>
    let was := bitAt (getF old Reg.RS_SUB.HOLD) (c - 1)
    let is := bitAt (getF s Reg.RS_SUB.HOLD) (c - 1)
    if is && !was then
      if subMay s c then subEnter s c else setF s Reg.RS_SUB.HOLD (clrBit (getF s Reg.RS_SUB.HOLD) (c - 1))
    else if was && !is then subLeave s c else s) s

/-! ## BLOCK_RESET of scope 5 (R331, R379) -/

def wholeSpec (s : State) (d : List Byte) : OpSpec := { manifest := false, named := [(8, 1)], target := hubTarget s d }

/-- The completion is written, and the reset waits for its GOOD. -/
def wholeBody (s : State) (f : Flight) (_d : List Byte) : State :=
  let i := ((ring s f.ring).cplProd + ringWaits s f.ring) % 2 ^ 32
  let s := complete s f 0 0
  if (ring s f.ring).error then s else { s with rs.whole := some (f.ring, i) }

def execBlockResetWhole (s : State) : Host.Outcome State Fault Refusal :=
  finish (runDesc s (fun d => dOp d == 0x04 && byteAt d 8 == 5) .whole wholeSpec wholeBody)

end Sys2Proof.Machine
end

