-- ==== Sys2Proof/Machine/Manifest.lean ====
section
/-! DEFINITION. MANIFEST_LOAD: the checks of R337 to R339, the agreement check of R389, the coming into force, and READY (R390). -/

namespace Sys2Proof.Machine

/-! ## The directory (R337, R338) -/

/-- A directory entry: type, count, offset. -/
structure Section where
  type : Nat
  count : Nat
  off : Nat
deriving DecidableEq, Repr

def mfSecs (bs : List Byte) : List Section :=
  (List.range (leAt bs 6 2)).map (fun i => ⟨leAt bs (64 + 8 * i) 2, leAt bs (66 + 8 * i) 2, leAt bs (68 + 8 * i) 4⟩)

/-- A section by its type; an empty one where it is not there. -/
def secOf (bs : List Byte) (t : Nat) : Section := ((mfSecs bs).find? (·.type == t)).getD ⟨t, 0, 0⟩

/-- Bytes of a record of fixed length. -/
def recLen (t : Nat) : Nat := [0, 24, 8, 16, 0, 8, 16, 16, 88, 24, 24].getD t 0

/-- Bytes of a RAIL record before and with its padding. -/
def railBytes (bs : List Byte) (o : Nat) : Nat := 40 + byteAt bs (o + 1) + byteAt bs (o + 2)
def railLen (bs : List Byte) (o : Nat) : Nat := ceilDiv (railBytes bs o) 8 * 8

/-- Offsets of n RAIL records from o. -/
def railOffs (bs : List Byte) : Nat → Nat → List Nat
  | 0, _ => []
  | n + 1, o => o :: railOffs bs n (o + railLen bs o)

/-- Offsets of a section's records. -/
def recOffs (bs : List Byte) (x : Section) : List Nat :=
  if x.type = 4 then railOffs bs x.count x.off else (List.range x.count).map (fun k => x.off + recLen x.type * k)

/-- Bytes of a section. -/
def secLen (bs : List Byte) (x : Section) : Nat :=
  if x.type = 4 then (railOffs bs x.count x.off).foldl (fun n o => n + railLen bs o) 0 else recLen x.type * x.count

/-! ## Reserved fields (reason 4) -/

/-- Byte ranges of a record that are reserved, and bits of a byte that are. -/
def recReserved (bs : List Byte) (t o : Nat) : Bool := match t with
  | 1 => 2 ≤ byteAt bs (o + 3) || !allZero bs (o + 6) 2 || !allZero bs (o + 19) 5
  | 2 => !allZero bs (o + 6) 2
  | 3 => 4 ≤ byteAt bs (o + 6) || !allZero bs (o + 7) 1
  | 4 => !allZero bs (o + 3) 1 || !allZero bs (o + railBytes bs o) (railLen bs o - railBytes bs o)
  | 5 => 128 ≤ byteAt bs o || !allZero bs (o + 2) 6
  | 6 => 4 ≤ byteAt bs (o + 1) || !allZero bs (o + 10) 6
  | 7 => !allZero bs (o + 8) 8
  | 8 => !allZero bs (o + 7) 1
  | 9 => !allZero bs (o + 16) 8
  | 10 => !allZero bs (o + 12) 4
  | _ => false

/-- The bytes that a section may hold. That of a TYPE of 0 or above 10, whose records have no length, holds those up to the next
section, which are then not for reason 4 to judge but for reason 5. DEDUCED (log 28). -/
def secSpan (bs : List Byte) (x : Section) : Nat × Nat :=
  if x.type = 0 ∨ 10 < x.type then
    (x.off, ((mfSecs bs).filter (fun y => decide (x.off < y.off))).foldl (fun n y => min n y.off) (max x.off bs.length))
  else (x.off, x.off + secLen bs x)

/-- A byte that lies in no section and neither in the header nor in the directory is reserved. DEDUCED (log 28). -/
def gapBad (bs : List Byte) : Bool :=
  let top := 64 + 8 * leAt bs 6 2
  let spans := (mfSecs bs).map (secSpan bs)
  (List.range bs.length).any (fun k =>
    decide (top ≤ k) && byteAt bs k != 0 && !spans.any (fun p => decide (p.1 ≤ k) && decide (k < p.2)))

/-- DEDUCED (log 28). -/
def reservedBad (bs : List Byte) : Bool :=
  byteAt bs 27 != 0 || 2 ≤ byteAt bs 28 || 3 ≤ byteAt bs 30 || !allZero bs 31 33 ||
    (mfSecs bs).any (fun x => (recOffs bs x).any (recReserved bs x.type)) || gapBad bs

/-! ## The directory's checks (reason 5) -/

/-- No two sections overlap, and none reaches into the directory. -/
def overlaps (bs : List Byte) : Bool :=
  let spans := (mfSecs bs).map (fun x => (x.off, x.off + secLen bs x))
  spans.any (fun p => decide (p.1 < 64 + 8 * leAt bs 6 2) || decide (leAt bs 16 4 < p.2)) ||
    (List.range spans.length).any (fun i => (List.range i).any (fun j =>
      let a := spans.getD i (0, 0)
      let b := spans.getD j (0, 0)
      decide (a.1 < b.2) && decide (b.1 < a.2)))

/-- DEDUCED (log 28). -/
def directoryBad (s : State) (bs : List Byte) : Bool :=
  let l := mfSecs bs
  let ts := l.map (·.type)
  ts.any (fun t => t == 0 || 10 < t) || !([1, 2, 3, 4].all ts.contains) || ts.eraseDups.length != ts.length ||
    l.any (fun x => (7 ≤ x.type && x.count != 1) || x.off % 8 != 0) || (secOf bs 1).count != s.build.tiles || overlaps bs

/-! ## Records (R338) -/

def parseTile (bs : List Byte) (o : Nat) : Nat × MfTile :=
  (byteAt bs o, { rail := byteAt bs (o + 1), stages := byteAt bs (o + 2), present := bitAt (byteAt bs (o + 3)) 0,
                  rgrid := leAt bs (o + 4) 2, engines := leAt bs (o + 8) 8, dets := leAt bs (o + 16) 2, snss := byteAt bs (o + 18) })

def parseRail (bs : List Byte) (o : Nat) : Nat × MfRail :=
  let n := byteAt bs (o + 1)
  let ports := (List.range (n + byteAt bs (o + 2))).map (fun k => byteAt bs (o + 40 + k))
  (byteAt bs o, { ports := ports.take n, spares := ports.drop n, vin := leAt bs (o + 4) 2, design := leAt bs (o + 6) 2,
                  vf := (List.range 16).map (fun k => leAt bs (o + 8 + 2 * k) 2) })

def parseSns (bs : List Byte) (o : Nat) : Nat × MfSns :=
  (leAt bs o 2, { x := leAt bs (o + 2) 2, y := leAt bs (o + 4) 2, set := byteAt bs (o + 6) % 4,
                  nbs := ((List.range 4).map (fun k => leAt bs (o + 8 + 2 * k) 2)).filter (· != 0xFFFF) })

/-- A number for which 0xFF.. stands for none. -/
def orNone (none_ v : Nat) : Option Nat := if v = none_ then none else some v

def parseGroup (bs : List Byte) (o : Nat) : MfGroup :=
  { group := leAt bs o 2, own := leAt bs (o + 2) 2, parent := orNone 0xFFFF (leAt bs (o + 4) 2), initial := leAt bs (o + 8) 4
    floor := leAt bs (o + 12) 4, ceil := leAt bs (o + 16) 4, issued := leAt bs (o + 20) 4
    children := (List.range (byteAt bs (o + 6))).map (fun k => leAt bs (o + 24 + 2 * k) 2) }

/-- The records of a section, each read by f. -/
def recs (bs : List Byte) (t : Nat) (f : List Byte → Nat → α) : List α := (recOffs bs (secOf bs t)).map (f bs)

/-- The record of a section that has one. -/
def oneRec (bs : List Byte) (t : Nat) (f : List Byte → Nat → α) : Option α := (recs bs t f).head?

/-- A table from records. -/
def table (l : List (Nat × α)) : List (Nat × α) := l.foldl (fun t p => tput t p.1 p.2) []

def parseManifest (bs : List Byte) : Manifest :=
  { id := leAt bs 8 4, tlDelayPs := leAt bs 24 4, zeroAccounts := bitAt (byteAt bs 28) 0, lastHop := byteAt bs 29, pmbSpeed := byteAt bs 30
    ringOrder := recs bs 1 byteAt, tiles := table (recs bs 1 parseTile)
    dets := table (recs bs 2 (fun bs o => (leAt bs o 2, (leAt bs (o + 2) 2, leAt bs (o + 4) 2)))), snss := table (recs bs 3 parseSns)
    rails := table (recs bs 4 parseRail), pmbus := recs bs 5 (fun bs o => (byteAt bs o, byteAt bs (o + 1)))
    i3c := recs bs 6 (fun bs o => [byteAt bs o, byteAt bs (o + 1), leAt bs (o + 2) 6, byteAt bs (o + 8), byteAt bs (o + 9)])
    tray := oneRec bs 7 (fun bs o => {
      flow := byteAt bs o, flowReg := byteAt bs (o + 1), inlet := byteAt bs (o + 2), inletReg := byteAt bs (o + 3)
      refOfs := toSigned 16 (leAt bs (o + 4) 2), waitMs := leAt bs (o + 6) 2 })
    group := oneRec bs 8 parseGroup, accounts := oneRec bs 9 (fun bs o => (leAt bs o 8, leAt bs (o + 8) 8))
    reports := oneRec bs 10 (fun bs o => { base := leAt bs o 8, slots := leAt bs (o + 8) 4, prod := leAt bs (o + 16) 8 }) }

/-! ## Units, the group, and the memory regions (reasons 6 to 8) -/

def noRepeat (l : List Nat) : Bool := l.eraseDups.length == l.length

/-- Reason 6: tile agents, rails and ports. DEDUCED (log 28). -/
def gridBad (b : Build) (m : Manifest) (bs : List Byte) : Bool :=
  let rails := recs bs 4 parseRail
  let ports := rails.foldl (fun l r => l ++ r.2.ports ++ r.2.spares) []
  m.lastHop = 0 || 4 < m.lastHop || !noRepeat m.ringOrder || !noRepeat (rails.map (·.1)) || !noRepeat ports ||
    ports.any (fun p => decide (b.ports ≤ p)) ||
    rails.any (fun r => decide (b.rails ≤ r.1) || r.2.ports.isEmpty || decide (192 < r.2.ports.length)) ||
    m.tiles.any (fun t => decide (b.tiles ≤ t.1) || decide (b.rails ≤ t.2.rail) || t.2.stages = 0 || 4 < t.2.stages ||
      !m.rails.any (·.1 == t.2.rail))

/-- A detector or sensor of a tile agent that is present and lists it. -/
def listed (m : Manifest) (t bit : Nat) (f : MfTile → Nat) : Bool :=
  let x := tget ({} : MfTile) m.tiles t
  x.present && bitAt (f x) bit

/-- Reason 6: detectors, sensors and bus records. DEDUCED (log 28). -/
def pointBad (b : Build) (m : Manifest) (bs : List Byte) : Bool :=
  let ds := recs bs 2 (fun bs o => leAt bs o 2)
  let ns := recs bs 3 (fun bs o => leAt bs o 2)
  !noRepeat ds || !noRepeat ns || ds.any (fun d => !listed m (d / 16) (d % 16) (·.dets)) ||
    ns.any (fun n => if n < 1024 then !listed m (n / 8) (n % 8) (·.snss) else decide (1056 ≤ n)) ||
    m.snss.any (fun p => p.2.nbs.any (fun q => decide (1056 ≤ q) || (decide (q < 1024) && decide (b.tiles ≤ q / 8)))) ||
    m.pmbus.any (fun p => p.2 != 0xFF && decide (b.rails ≤ p.2)) ||
    (match m.tray with
      | some t => (t.flow != 0xFF && decide (m.i3c.length ≤ t.flow)) || (t.inlet != 0xFF && decide (m.i3c.length ≤ t.inlet))
      | none => false)

/-- Reason 7: GROUP within what one member can see (R266). DEDUCED (log 28). -/
def groupBad (m : Manifest) (bs : List Byte) : Bool := match m.group with
  | none => false
  | some g =>
    let o := (secOf bs 8).off
    let n := byteAt bs (o + 6)
    4095 < g.group || 16383 < g.own || (match g.parent with
      | some p => decide (16383 < p) || p == g.own || g.children.contains p || g.issued != 0
      | none => decide (g.issued < g.initial)) ||
    32 < n || g.children.any (fun c => decide (16383 < c) || c == g.own) || !rising g.children ||
    !((List.range 32).drop n).all (fun k => leAt bs (o + 24 + 2 * k) 2 == 0xFFFF) ||
    40960 < g.ceil || g.ceil < g.floor || g.initial < g.floor || g.ceil < g.initial

/-- Reason 8: ACCOUNTS and REPORTS (R299, R307, R338). DEDUCED (log 28). -/
def regionBad (m : Manifest) : Bool :=
  (match m.accounts with
    | some a => a.2 % 4096 != 0
    | none => false) ||
  (match m.reports with
    | some r => r.base % 4096 != 0 || r.prod % 8 != 0 || !(((List.range 13).drop 4).any (fun k => r.slots == 2 ^ k))
    | none => false)

/-- The first failing check of R339; 0 where every one passes. DEDUCED (log 28). -/
def manifestReason (s : State) (bs : List Byte) (len : Nat) : Nat :=
  let m := parseManifest bs
  if leAt bs 0 4 ≠ 0x464E414D ∨ leAt bs 4 2 ≠ 1 ∨ leAt bs 6 2 < 4 ∨ 16 < leAt bs 6 2 ∨ leAt bs 16 4 ≠ len then 1
  else if crc32 (bs.drop 64) ≠ leAt bs 12 4 then 2
  else if leAt bs 20 4 ≠ fxBuild s.build then 3
  else if reservedBad bs then 4
  else if directoryBad s bs then 5
  else if gridBad s.build m bs || pointBad s.build m bs then 6
  else if groupBad m bs then 7
  else if regionBad m then 8
  else 0

/-! ## The agreement check (R389) -/

/-- What a failed step of the check gives: the step, the unit and the index. -/
structure Disagree where
  step : Nat
  unit : Nat
  index : Nat
deriving DecidableEq, Repr

/-- Step 1 on one hub's ring: the tile agents that are present, in the manifest's order, and the latency. DEDUCED (log 29). -/
def ringAgree (m : Manifest) (hub : Nat) (found : List Nat) (lat : Nat) : Option Disagree :=
  let there := fun (t : Nat) => (tget ({} : MfTile) m.tiles t).present
  let want := m.ringOrder.filter there
  let got := found.filter there
  match (List.range want.length).find? (fun i => got[i]? != want[i]?) with
  | some i =>
    let t := want.getD i 0
    some ⟨1, tileUnit t, (m.ringOrder.findIdx? (· == t)).getD 0⟩
  | none =>
    let sum := m.tiles.foldl (fun n t => n + t.2.stages) m.lastHop
    if ((lat : Int) - sum).natAbs ≤ 2 then none else some ⟨1, unitId 8 hub, 0⟩

/-- The port of step 4 that fails first, in the order of the records. DEDUCED (log 29). -/
def portAgree (s : State) (m : Manifest) (bad : List Nat) : Option Disagree :=
  m.rails.findSome? (fun r => ((r.2.ports ++ r.2.spares).zipIdx).findSome? (fun p =>
    if bad.contains p.1 && !portBad s p.1 then
      some ⟨4, if p.2 < r.2.ports.length then phaseUnit r.1 p.2 else railUnit r.1, p.1⟩
    else none))

/-- The read of MFR_ID with which step 5 asks a PMBus target (R389). -/
def mfrIdRead : PmbTxn := ⟨.blockRead, .mfrId, []⟩

/-- PMBus records whose target does not answer MFR_ID with a good PEC, at its retry either (R56, R389); one beyond the 32 that the
controller addresses (R55) is never asked. DEDUCED (log 29). -/
def pmbBad (m : Manifest) (o : AgreeObs) : List Nat :=
  (List.range m.pmbus.length).filter (fun k => decide (32 ≤ k) || o.pmbus.any (fun p => p.1 == k && !pmbGood ((m.pmbus.getD k (0, 0)).1) mfrIdRead p.2))

/-- A record beyond the 16 I3C targets and the 4 legacy I2C targets that the controller takes (R57). DEDUCED (log 29). -/
def i3cBeyond (m : Manifest) (k : Nat) : Bool :=
  let old := legacyI2c (m.i3c.getD k [])
  decide ((if old then 4 else 16) ≤ ((m.i3c.take k).filter (fun r => legacyI2c r == old)).length)

/-- I3C records whose target fails the check of R58. DEDUCED (log 29). -/
def i3cBad (m : Manifest) (o : AgreeObs) : List Nat :=
  (List.range m.i3c.length).filter (fun k => i3cBeyond m k || o.i3c.any (fun p => p.1 == k && i3cFails (m.i3c.getD k []) p.2))

/-- The first step of R389 that fails. DEDUCED (log 29). -/
def agree (s : State) (m : Manifest) (o : AgreeObs) : Option Disagree :=
  let two := s.build.hubs == 2 && s.du.mode == 1
  let ring := (ringAgree m 0 s.rs.census0 s.rs.lat0).or (if two then ringAgree m 1 s.rs.census1 s.rs.lat1 else none)
  let ring := if s.du.active = 0 ∨ two then ring else ringAgree m 1 s.rs.census1 s.rs.lat1
  let det := (m.dets.find? (fun d => o.dets.contains d.1 && detBad s d.1 != 3)).map (fun d => (⟨2, detUnit d.1, 0⟩ : Disagree))
  let sns := (m.snss.find? (fun n => o.snss.contains n.1 && snsBad s n.1 != 3)).map (fun n => (⟨3, snsUnit n.1, 0⟩ : Disagree))
  let pmb := (pmbBad m o).head?.map (fun k => (⟨5, hubUnit s, k⟩ : Disagree))
  let i3c := (i3cBad m o).head?.map (fun k => (⟨6, hubUnit s, k⟩ : Disagree))
  let lanes := if two && decide (2 < lanesOut s) then some (⟨7, unitId 8 (1 - s.du.active), 18 - lanesOut s⟩ : Disagree) else none
  ring.or (det.or (sns.or ((portAgree s m o.ports).or (pmb.or (i3c.or lanes)))))

/-- The PMBus targets that fail step 5 are marked faulted (R56), and the I3C targets that fail step 6 absent (R58).
DEDUCED (log 29). -/
def markBad (s : State) (m : Manifest) (o : AgreeObs) (step : Nat) : State :=
  if step = 5 then (pmbBad m o).foldl (fun s k => pmbFaulted s k ((m.pmbus.getD k (0, 0)).1)) s
  else if step = 6 then (i3cBad m o).foldl (fun s k => i3cAbsent s k (i3cAddr m k)) s
  else s

/-- The check ends at a failure: no part of the manifest is in force. DEDUCED (log 29). -/
def disagree (s : State) (f : Flight) (m : Manifest) (o : AgreeObs) (x : Disagree) : State :=
  let s := setF (setF (setF s Reg.RS_AGREE.STEP x.step) Reg.RS_AGREE.FAILED 1) Reg.RS_AGREE.INDEX x.index
  let s := setF s Reg.HR_MF_UNIT.UNIT x.unit
  complete (setF (markBad s m o x.step) Reg.RS_STATUS.PHASE 8) f 0x0019 0

/-! ## In force (R388, R390, R408) -/

/-- A PHASE_SPARE record that the manifest makes to be ignored. -/
def spareIgnored (s : State) : Bool :=
  (repairsOf s 5).any (fun x => match mfRail s (bitsAt x 16 4) with
    | some m => !spareOk s m (bitsAt x 8 8, bitsAt x 0 8)
    | none => true)

/-- The manifest comes into force: ports take their places, credits are issued, the group forms, and Sizing begins. -/
def inForce (s : State) (m : Manifest) : State :=
  let s := setF { s with mf := some m, hr.mfAccepted := true } Reg.HR_MF_ID.ID m.id
  let s := setF (setF s Reg.RS_AGREE.STEP (if s.build.hubs = 2 then 7 else 6)) Reg.RS_AGREE.FAILED 0
  let s := setF (setF s Reg.RS_AGREE.INDEX 0) Reg.RS_STATUS.PHASE 10
  let s := if spareIgnored s then setF s Reg.SP_STATUS.IGNORED 1 else s
  let s := periodsStart (formGroup (sendLims (issueCredits (placePorts (setupTargets s m)))))
  let s := if m.zeroAccounts && m.accounts.isSome then zeroPart { s with rs.zeroing := true } 0 else s
  sizingStart s

/-- MANIFEST_LOAD in its three stages (R388): PHASE reads 9 while the checks of R339 run. The agreement check judges every target of this
manifest anew (R58). -/
def manifestBody (mem : MemRead) (o : AgreeObs) (s : State) (f : Flight) (d : List Byte) : State :=
  if s.hr.mfAccepted then complete s f 0x0008 0
  else match mem with
    | .fail st => readFail s f (leAt d 8 8) (leAt d 16 4) 0 st.toNat
    | .data bs corr =>
      let s := setF (readDone corr s f (leAt d 8 8) (leAt d 16 4) 0) Reg.RS_STATUS.PHASE 9
      let bs := bs.take (leAt d 16 4)
      let k := manifestReason s bs (leAt d 16 4)
      if k ≠ 0 then complete (setF s Reg.RS_STATUS.PHASE 8) f 0x0012 k
      else
        let m := parseManifest bs
        let s := { s with bus.absent := [], bus.faulted := [] }
        match agree s m o with
        | some x => disagree s f m o x
        | none => complete (inForce s m) f 0 0

/-- A manifest waits for its read, and one that passes R339 for the board buses, which the agreement check uses while a core carries the
power core's duties (R350, R389). DESIGN CHOICE (log 8). -/
def manifestHeld (mem : MemRead) (s : State) (d : List Byte) : Bool :=
  !s.hr.mfAccepted && (!readOpen s 0 || match mem with
    | .fail _ => false
    | .data bs _ => !busWorks s && manifestReason s (bs.take (leAt d 16 4)) (leAt d 16 4) == 0)

def execManifestLoad (mem : MemRead) (agree : AgreeObs) (s : State) : Host.Outcome State Fault Refusal :=
  finish (runRead s (dOp · == 0x02) .taken (fun _ d => loadSpec false d) (manifestHeld mem) (manifestBody mem agree))

/-- READY (R390): everything that the manifest started has finished. -/
def declareReady (s : State) : State :=
  if hostOpen s && getF s Reg.RS_STATUS.PHASE == 10 && (s.du.mode != 1 || s.du.synced) && !s.rs.zeroing && flagOn s Reg.TH_SIZE.DONE then
    let s := setTs (setF s Reg.RS_STATUS.PHASE 11) Reg.RS_READY_TS_LO.TS Reg.RS_READY_TS_HI.TS s.tb.time
    raiseEvent s 0x0E 2 (hubUnit s) (zeros 1)
  else s

def execReady (s : State) : Host.Outcome State Fault Refusal := finish (declareReady s)

end Sys2Proof.Machine
end

