-- ==== Sys2Proof/Machine/Spares.lean ====
section
/-! DEFINITION. Row repair, the recording of repairs in the fuse map, and the wear index (R411, R414 to R416). -/

namespace Sys2Proof.Machine

/-! ## Row repair (R411) -/

/-- Maps a row to a free spare row of its hub, one that has been mapped before among them. With none free the row stays in use and
OVERFLOW is set (R409). DEDUCED (log 64). -/
def mapRow (s : State) (hub : Nat) (fw : Bool) (row : Nat) : State :=
  let k := rowKey hub fw row
  if rowsFree s hub fw = 0 then overflow s
  else
    let s := putRows { s with sp.mapped := s.sp.mapped ++ [k], sp.rows := s.sp.rows ++ [k], sp.ce := tdel s.sp.ce k }
    spareEvent s 3 (unitId 8 hub) 0x06

/-- One more corrected error in a row; at SP_CFG.ROW_CE_LIMIT it is mapped, and nothing is lost. -/
def rowCorrected (s : State) (hub : Nat) (fw : Bool) (row : Nat) : State :=
  let k := rowKey hub fw row
  let n := tget 0 s.sp.ce k + 1
  let s := { s with sp.ce := tset 0 s.sp.ce k n }
  if getF s Reg.SP_CFG.ROW_CE_LIMIT ≤ n then mapRow s hub fw row else s

/-- An uncorrectable word of a resident power account: as a fetched record that fails its CRC (R302). DEDUCED (log 55). -/
def acctLost (s : State) (a : Nat) : State :=
  if s.bg.accts.any (·.1 == a) then
    bgErrAlways (putAcct s a { corrupt := true, dirty := true, changed := true, used := (acct s a).used, seq := (acct s a).seq }) Reg.BG_ERR.ACCT_CORRUPT
      (acctUnit a) 0 0
  else s

/-- The cores of a KIND restart from their boot ROM image, each hub core with its cover (R354, R358, R411). DEDUCED (log 64). -/
def bootRestart (s : State) (kind : Nat) : State :=
  if kind = 5 then startReserve { s with du.left := [4, 5, 6, 7].filter (fun r => (core s r).st != 6) }
  else if kind = 4 then startBcast s false Config.bootImage ((List.range s.build.tiles).filter (tileRuns s))
  else
    let k := kind - 1
    if (core s k).st = 1 then coverCore (dutyGap (setCore s k { core s k with st := 5, stoppedAt := s.now }) k) k else s

/-- A firmware row that held part of the image of a KIND is refilled from the mirror, or from the boot ROM whose image is in force;
else the core restarts from the boot ROM (R411). DEDUCED (log 64). -/
def imageRow (s : State) (kind : Nat) : State :=
  if kind = 0 ∨ 5 < kind ∨ s.du.mode = 1 ∨ getF s (Reg.FW_IMAGE.ID (kind - 1)) = 0 then s
  else bootRestart (setF s (Reg.FW_IMAGE.ID (kind - 1)) 0) kind

/-- SRAM_ROW_REPAIR: a corrected error of a row, or an uncorrectable one. A hub that is revoked or lost repairs nothing, and a row
of the mirror holds neither the image nor the account that the active hub uses. DEDUCED (log 64). -/
def rowRepair (hub : Nat) (fw : Bool) (row : Nat) (uncorrected : Bool) (kind : Nat) (acct : Option Nat) (s : State) : State :=
  if released s 3 && decide (hub < s.build.hubs) && (hub == s.du.active || s.du.mode == 1) then
    if uncorrected then
      let s := match acct with
        | some a => if hub = s.du.active then acctLost s a else s
        | none => s
      mapRow (if fw then imageRow s kind else s) hub fw row
    else rowCorrected s hub fw row
  else s

def execSramRowRepair (hub : Nat) (firmware : Bool) (row : Nat) (uncorrected : Bool) (kind : Nat) (acct : Option Nat) (s : State) :
    Host.Outcome State Fault Refusal := finish (rowRepair hub firmware row uncorrected kind acct s)

/-! ## Recording repairs (R414, R415) -/

/-- A word of the repair list as it stands in the macro: programmed since the reset, or read at load. -/
def listWord (s : State) (w : Nat) : Nat := tget (tget 0 s.rs.fuses w) s.sp.recorded w

/-- The lowest empty word of the repair list. -/
def emptyWord (s : State) : Option Nat := ((List.range 1024).map (· + repairBase)).find? (fun w => listWord s w == 0)

/-- A record, as KIND × 2^20 + payload, stands in the repair list. -/
def recordKnown (s : State) (r : Nat) : Bool :=
  (s.rs.fuses ++ s.sp.recorded).any (fun p => decide (repairBase ≤ p.1) && !fuseVoid p.2 && bitsAt p.2 0 26 == r)

/-- Puts a programmed word into the list and brings SP_STATUS up. DEDUCED (log 64). -/
def putRecord (s : State) (w v : Nat) : State :=
  let s := { s with sp.recorded := tput s.sp.recorded w v }
  let s := incSat s Reg.SP_STATUS.RECORDS
  setF s Reg.SP_STATUS.FULL (b2n (emptyWord s).isNone)

/-- A hub repair that has been recorded no longer counts in SP_PEND. -/
def pendFalls (s : State) (r : Nat) : State :=
  let p := r % 2 ^ 20
  match r / 2 ^ 20 with
  | 6 => { s with sp.rows := s.sp.rows.filter (· != rowKey (bitsAt p 19 1) (bitAt p 18) (bitsAt p 0 14)) }
  | 7 => { s with sp.lanes := s.sp.lanes.filter (· != p) }
  | 8 => { s with sp.reserve := s.sp.reserve.filter (· != p) }
  | _ => s

/-- The seven values of FZ_ADDR that program word w of the map with v (R415). -/
def fuseBeats (w v : Nat) : List Nat := [0x5A5, 0xA5A, w, bitsAt v 0 12, bitsAt v 12 12, bitsAt v 24 8, w]

/-- One programming of a word: its seven handshakes, and the list with the word in it (R415). -/
def programWord (s : State) (w v : Nat) : State :=
  putRecord { s with sp.beats := s.sp.beats ++ fuseBeats w v, rs.fzReq := false, rs.fzAddr := w } w v

/-- A word that did not read back as intended: it was programmed with v, and is programmed to be void (R415). -/
def voidWord (s : State) (w v : Nat) : State :=
  programWord { s with sp.beats := s.sp.beats ++ fuseBeats w v } w 0xFFFFFFFF

/-- Programs one record: `rb` are the words that the seventh beats read back, in order, and a word not given reads back as
intended. It answers the words left, and the DETAIL of a failure. DEDUCED (log 64). -/
def programOne (s : State) (rb : List Word32) (r : Nat) : State × List Word32 × Option Nat :=
  match emptyWord s with
  | none => (s, rb, some 1)
  | some w =>
    let v := fuseWord r
    if (rb.headD (BitVec.ofNat 32 v)).toNat = v then (pendFalls (programWord s w v) r, rb.tail, none)
    else
      let s := voidWord s w v
      match emptyWord s with
      | none => (s, rb.tail, some 1)
      | some w =>
        if (rb.tail.headD (BitVec.ofNat 32 v)).toNat = v then (pendFalls (programWord s w v) r, rb.tail.tail, none)
        else (voidWord s w v, rb.tail.tail, some 3)

/-- Programs records in order until one fails. -/
def programAll (s : State) (rb : List Word32) (rs : List Nat) : State × List Word32 × Option Nat :=
  rs.foldl (fun a r => match a.2.2 with
    | none => programOne a.1 a.2.1 r
    | some _ => a) (s, rb, none)

/-- A record of a KIND of R407. -/
def record (kind payload : Nat) : Nat := 2 ^ 20 * kind + payload

/-- The records of each channel failed since the reset. -/
def chanRecords (kind i failed : Nat) : List Nat := (bitList failed 2).map (fun c => record kind (i + 2 ^ 11 * c))

/-- Ports of a rail retired while they carried a logical phase since the reset, by PHASE_RETIRE or otherwise. -/
def retiredPorts (s : State) (r ph : Nat) (byCommand : Bool) : List Nat :=
  (List.range s.build.ports).filter (fun p =>
    let x := port s p
    x.st == .retired && x.rail == some r && x.was == some ph && x.cause != 7 && (x.cause == 6) == byCommand)

/-- The spare port that carries a logical phase now. -/
def spareCarrier (s : State) (r ph : Nat) : List Nat := match mfRail s r with
  | some m => (m.spares.filter (fun p => (port s p).rail == some r && (port s p).lphase == some ph))
  | none => []

/-- Repairs of a hub in SP_PEND. The reserve cores are those of the active hub. -/
def hubRecords (s : State) (hub : Nat) : List Nat :=
  ((s.sp.rows.eraseDups.filter (fun k => k / 2 ^ 15 == hub)).map (fun k => record 6 (2 ^ 19 * hub + 2 ^ 18 * (k / 2 ^ 14 % 2) + k % 2 ^ 14))) ++
    ((s.sp.lanes.filter (fun k => k / 32 == hub)).map (record 7)) ++
    (if hub = s.du.active then s.sp.reserve.map (record 8) else [])

/-- What FUSE_RECORD programs for a KIND and a TARGET (R414), records already present apart. DEDUCED (log 64). -/
def toRecord (s : State) (kind target : Nat) : List Nat :=
  let i := target % 2 ^ 24
  let l := match kind, target / 2 ^ 24 with
    | 1, 1 => if (tcore s i).st = 6 then [record 1 i] else []
    | 1, 2 => chanRecords 2 i (det (tile s (i / 16)) (i % 16)).failedCh
    | 1, 3 => chanRecords 3 i (sns s i).failedCh
    | 1, 5 => (retiredPorts s (i / 256) (i % 256) false).map (record 4)
    | 1, 8 => hubRecords s i
    | 2, 5 => (spareCarrier s (i / 256) (i % 256)).map (fun p => record 5 (2 ^ 16 * (i / 256) + 2 ^ 8 * (i % 256) + p))
    | 3, 5 => (retiredPorts s (i / 256) (i % 256) true).map (record 4)
    | _, _ => []
  l.filter (fun r => !recordKnown s r)

/-- KIND from 1 to 3, and for KINDs 1 and 2 a TARGET of a class that R414 lists. DEDUCED (log 64). -/
def fuseSpec (s : State) (d : List Byte) : OpSpec :=
  { secure := true, named := [(8, 1)]
    target := validUnit s (dTarget d) &&
      !((byteAt d 8 == 1 || byteAt d 8 == 2) && !([1, 2, 3, 5, 8].contains (dTarget d / 2 ^ 24)))
    operand := if byteAt d 8 = 0 ∨ 3 < byteAt d 8 then some 8 else none }

/-- DEDUCED (log 64). -/
def fuseBody (rb : List Word32) (s : State) (f : Flight) (d : List Byte) : State :=
  let rs := toRecord s (byteAt d 8) (dTarget d)
  if rs.isEmpty then complete s f 0x0008 2
  else
    let (s, _, r) := programAll { s with sp.beats := [] } rb rs
    match r with
    | some det => complete s f 0x0008 det
    | none => complete s f 0 0

/-- FUSE_RECORD_BAD: KIND 1; a KIND outside 1 to 3 ends at the operand check. -/
def execFuseRecordBad (readback : List Word32) (s : State) : Host.Outcome State Fault Refusal :=
  finish (runDesc s (fun d => dOp d == 0x70 && byteAt d 8 != 2 && byteAt d 8 != 3) .fuse fuseSpec (fuseBody readback))

/-- FUSE_RECORD_SPARE: KIND 2. -/
def execFuseRecordSpare (readback : List Word32) (s : State) : Host.Outcome State Fault Refusal :=
  finish (runDesc s (fun d => dOp d == 0x70 && byteAt d 8 == 2) .fuse fuseSpec (fuseBody readback))

/-- FUSE_RECORD_RETIRED: KIND 3. -/
def execFuseRecordRetired (readback : List Word32) (s : State) : Host.Outcome State Fault Refusal :=
  finish (runDesc s (fun d => dOp d == 0x70 && byteAt d 8 == 3) .fuse fuseSpec (fuseBody readback))

/-! ## Wear (R416) -/

/-- The wear index of a region, in 1/16, saturating at 64 bits: counter 16m + b has range bin b and mean bin m (R263).
DEDUCED (log 65). -/
def wearIndex (s : State) (region : Nat) : Nat :=
  (List.range 64).foldl (fun n k => satAdd (2 ^ 64 - 1) n
    (tget 0 s.th.rfCnt (64 * region + k) * getF s (Reg.SP_WEAR_RW.RW (k % 16)) * getF s (Reg.SP_WEAR_MW.MW (k / 16)))) 0

/-- Forms the index of the selected region; a REGION above 128 reads 0. DEDUCED (log 65). -/
def wearForm (s : State) : State :=
  let g := getF s Reg.SP_WEAR_SEL.REGION
  let v := if g ≤ 128 then wearIndex s g else 0
  setF (setF s Reg.SP_WEAR_LO.WEAR (v % 2 ^ 32)) Reg.SP_WEAR_HI.WEAR (v / 2 ^ 32)

/-- WEAR_UPDATE: the indices of the second. Only the selected one can be read. -/
def execWearUpdate (s : State) : Host.Outcome State Fault Refusal := finish (if released s 6 then wearForm s else s)

end Sys2Proof.Machine
end

