-- ==== Sys2Proof/Machine/HostAccess.lean ====
section
/-! DEFINITION. The slave side of the Host Access Port (R7 to R11, R43 to R54, R457): one request is taken and answered whole, with
every effect that its register gives a read or a write. -/

namespace Sys2Proof.Machine

/-! ## Writes by field type (R8, R9, R10) -/

/-- What a write outside a field's range sets. -/
def fixVal (f : FDef) (v : Nat) : Nat := match f.fix with
  | .none => v
  | .clamp lo hi => clampNat lo hi v
  | .zeroOrMin m => if v = 0 then 0 else max m v
  | .maxOut => if v = 0 ∨ 256 < v then 256 else v

/-- What a write of v makes of a field that holds `old`, by the field's type. -/
def fieldNew (f : FDef) (old v : Nat) : Nat := match f.ty with
  | .rw | .su => fixVal f v
  | .w1c => clrBits old v
  | .ro | .wo => old

/-- The k-th field of a repeated field of register i of a series, at offset `off`. -/
def fieldAt (off i : Nat) (f : FDef) (k : Nat) : Fld := ⟨off, f.lo + f.w * k, f.w, f.rst i k⟩

/-- Every stored field of a register. -/
def fieldsOf (d : RegDef) (off i : Nat) : List (FDef × Fld) :=
  (d.fields.filter (·.stored)).flatMap (fun f => (List.range f.arr).map (fun k => (f, fieldAt off i f k)))

/-- The new value of one field. -/
def fieldWrite (s : State) (v : Nat) (p : FDef × Fld) : Nat := fieldNew p.1 (getF s p.2) (bitsAt v p.2.lo p.2.w)

/-- The write would change an SU field. -/
def suChanges (s : State) (fs : List (FDef × Fld)) (v : Nat) : Bool :=
  fs.any (fun p => p.1.ty == .su && fieldWrite s v p != getF s p.2)

/-- A discarded write: one Register event, with the offset and the value written (R9, R459). -/
def regEventRaise (s : State) (code off v : Nat) : State :=
  raiseEvent s 0x0A code (hubUnit s) (leBytes 2 off ++ zeros 2 ++ leBytes 4 v)

/-- Writes the stored fields of a register. SU fields keep their values while their owning domain runs (R9). -/
def writeFields (s : State) (d : RegDef) (off i v : Nat) : State :=
  let fs := fieldsOf d off i
  let bad := suChanges s fs v && !allStopped s
  let t := fs.foldl (fun t p => if p.1.ty == .su && bad then t else setF t p.2 (fieldWrite s v p)) s
  if bad then regEventRaise t 1 off v else t

/-! ## Registers with a behaviour of their own -/

/-- A written word with one field as it stands. -/
def keepField (s : State) (f : Fld) (v : Nat) : Nat := v - bitsAt v f.lo f.w * 2 ^ f.lo + getF s f % 2 ^ f.w * 2 ^ f.lo

/-- A ring write that R316 ignores. DEDUCED (log 17). -/
def ringBusy (s : State) (n : Nat) : State := hrErr s Reg.HR_ERR.CFG_BUSY (some n)

/-- What of a write to a ring's registers is taken: SEC needs a secure write (R324), the base and the size an idle ring (R316).
DEDUCED (log 17). -/
def gateRing (s : State) (off v : Nat) (sec : Bool) : State × Option Nat :=
  let n := (off - 0x0A00) / 16
  match off % 16 with
  | 0 | 4 => if (ring s n).idle then (s, some v) else (ringBusy s n, none)
  | 8 =>
    let v := if sec then v else keepField s (Reg.RING_CFG.SEC n) v
    if !(ring s n).idle && clampNat 4 12 (bitsAt v 8 4) != getF s (Reg.RING_CFG.SIZE_LOG2 n) then
      (ringBusy s n, some (keepField s (Reg.RING_CFG.SIZE_LOG2 n) v))
    else (s, some v)
  | _ => (s, some v)

/-- What of a write reaches the fields. SIZE_LOG2 of the event and telemetry rings is ignored while EN = 1. -/
def gate (s : State) (off v : Nat) (sec : Bool) : State × Option Nat :=
  if 0x0A00 ≤ off ∧ off < 0x0E00 then gateRing s off v sec
  else if off = 0x0818 ∧ flagOn s Reg.HR_EV_CFG.EN then (s, some (keepField s Reg.HR_EV_CFG.SIZE_LOG2 v))
  else if off = 0x0828 ∧ flagOn s Reg.HR_TEL_CFG.EN then (s, some (keepField s Reg.HR_TEL_CFG.SIZE_LOG2 v))
  else (s, some v)

/-- A field has gone from 0 to 1. -/
def rose (old s : State) (f : Fld) : Bool := !flagOn old f && flagOn s f

/-- HR_EV_CFG: EN from 0 to 1 takes the producer index as 0, and the held events go out (R343). DEDUCED (log 17). -/
def evCfgWritten (old s : State) : State :=
  if rose old s Reg.HR_EV_CFG.EN then flushEvents { s with hr.evProd := 0, hr.evCons := 0, hr.evOut := [] } else s

/-- HR_TEL_CFG: EN from 0 to 1 takes the producer index as 0; a period from 0 begins now (R344). DEDUCED (log 17). -/
def telCfgWritten (old s : State) : State :=
  let s := if rose old s Reg.HR_TEL_CFG.EN then { s with hr.telProd := 0, hr.telCons := 0, hr.telOut := [], hr.telRun := false } else s
  if getF old Reg.HR_TEL_CFG.PERIOD_US = 0 ∧ getF s Reg.HR_TEL_CFG.PERIOD_US ≠ 0 then
    { s with hr.telAt := s.now, hr.telPf := 0, hr.telN := 0 }
  else s

/-- RINGn_CFG: EN from 0 to 1, or from 1 to 0 (R316). DEDUCED (log 17). -/
def ringCfgWritten (old s : State) (n : Nat) : State :=
  if rose old s (Reg.RING_CFG.EN n) then ringEnabled s n
  else if ringEn old n && !ringEn s n then ringDisabled s n else s

/-- BE_STOP and BE_START: a request for the next frame boundary (R115, R119). -/
def domAsked (s : State) (start : Bool) (v : Nat) : State :=
  if bitsAt v 0 17 = 0 then s else { s with be.reqs := s.be.reqs ++ [⟨start, bitsAt v 0 16, bitAt v 16, none⟩] }

/-- A Brim value is limited to its fuse value (R116). -/
def brimCap (s : State) (f : Fld) (m : Nat) : State := setF s f (min m (getF s f))

/-- A Brim register has been written: it takes effect at once (R116). -/
def brimWritten (s : State) (off : Nat) : State :=
  let s := match off with
    | 0x2020 => brimCap s Reg.BRIM_FREQ.LEVEL (bitsAt (fuse s 2) 0 4)
    | 0x2024 => brimCap s Reg.BRIM_DISP.RATE (bitsAt (fuse s 2) 4 12)
    | _ =>
      let n := (off - 0x2028) / 4
      brimCap (brimCap s (Reg.BRIM_VTGT.LO n) (bitsAt (fuse s (3 + n)) 0 10)) (Reg.BRIM_VTGT.HI n)
        (if 2 * n + 1 < s.build.rails then bitsAt (fuse s (3 + n)) 10 10 else 0)
  lowerAll s

/-- W0 and W1 through BE_LDATA: SU, owned by the loop's domain and, where DOM changes, by the new one too (R107, R109). Reserved
bits are ignored (R10). A write of the value that the word has mends an uncorrectable error in it (R119). -/
def structWrite (s : State) (l w v off : Nat) : State :=
  let x := loop s l
  let v' := clrBits v (if w = 0 then 0xE else 0xFE000000)
  if bitAt s.be.stopped (lpDom x) && (w == 1 || bitAt s.be.stopped (bitsAt v' 4 4)) then applyWord s l w v' true
  else if v' = lpWord x w then s
  else regEventRaise s 1 off v

/-- W2 to W6 through BE_LDATA (R108, R110, R117, R459). -/
def liveWrite (s : State) (l w v off : Nat) : State :=
  let x := loop s l
  if !wordOk w v then s
  else if 256 ≤ s.be.words.length then regEventRaise s 2 off v
  else if !lpRuns s x then applyWord s l w v (bitAt s.be.stopped (lpDom x))
  else { s with be.words := s.be.words ++ [⟨l, w, v, none⟩] }

/-- A write of BE_LDATAw; one to W7 to W15 has no effect. -/
def ldataWritten (s : State) (off v : Nat) : State :=
  let w := (off - 0x20C0) / 4
  let l := getF s Reg.BE_LSEL.LOOP
  if w < 2 then structWrite s l w v off else if w < 7 then liveWrite s l w v off else s

/-- BG_QBINDt: the binding changes at the next frame boundary (R299). -/
def qbindWritten (s : State) (t : Nat) : State :=
  setBind s t { bind s t with want := some (if flagOn s (Reg.BG_QBIND.VALID t) then some (getF s (Reg.BG_QBIND.QUEUE t)) else none) }

/-- DU_CTL.TAKEOVER in MODE 01: a takeover request goes to the mirror (R367, R373). -/
def takeoverForced (s : State) (v : Nat) : State :=
  if bitAt v 0 && s.du.mode == 1 then { setF s Reg.DU_FAULT.FORCED 1 with du.asked := true } else s

/-- MBc_H2F_DB: bit 0 is set; the others have no meaning (R345). -/
def mbRung (s : State) (c v : Nat) : State := if bitAt v 0 then setMbox s c { mbox s c with db := true } else s

/-- What follows a write to a register of a series. -/
def afterSeries (old s : State) (off v : Nat) : State :=
  if 0x0A00 ≤ off ∧ off < 0x0E00 then (if off % 16 = 8 then ringCfgWritten old s ((off - 0x0A00) / 16) else s)
  else if 0x1000 ≤ off ∧ off < 0x1100 then
    (match off % 64 with
      | 0 => mbWord s ((off - 0x1000) / 64) v
      | 12 => mbRung s ((off - 0x1000) / 64) v
      | _ => s)
  else if 0x2020 ≤ off ∧ off < 0x2040 then brimWritten s off
  else if 0x20C0 ≤ off ∧ off < 0x2100 then ldataWritten s off v
  else if 0x3100 ≤ off ∧ off < 0x3400 then
    (match off % 64 with
      | 0 => srcWritten old s ((off - 0x3100) / 64)
      | 0x34 => fltWritten s ((off - 0x3100) / 64)
      | _ => s)
  else if 0x4400 ≤ off ∧ off < 0x4500 then grantTiles s
  else if 0x5010 ≤ off ∧ off < 0x5050 then limitWritten old ((off - 0x5010) / 16) s
  else if 0x6400 ≤ off ∧ off < 0x6600 then qbindWritten s ((off - 0x6400) / 4)
  else s

/-- What follows a write to a register, from the state before it. DEDUCED (log 12). -/
def afterWrite (old s : State) (off v : Nat) : State := match off with
  | 0x010C => holdWritten old s
  | 0x0440 => trackerEn (flagOn old Reg.SA_CFG.EN) s
  | 0x0800 => if rose old s Reg.HR_DB_BASE_LO.EN then { s with hr.pollAt := s.now } else s
  | 0x0818 => evCfgWritten old s
  | 0x0828 => telCfgWritten old s
  | 0x0F00 => hapPump s
  | 0x2004 => domAsked s false v
  | 0x2008 => domAsked s true v
  | 0x2C00 => pbCfgWritten old s
  | 0x2C04 => convEvent old s
  | 0x2C14 => pbCtlWritten v s
  | 0x4000 => grantTiles s
  | 0x4018 => if bitAt v 16 then auditStart s false else s
  | 0x4040 => grantTiles (dtCfgWritten s)
  | 0x5000 => thCfgWritten old s
  | 0x608C => rptConsWritten s
  | 0x7000 => grantTiles (settle s)
  | 0x7024 => if bitAt v 0 then grantTiles (settle (thawNow s)) else s
  | 0x7078 => if bitAt v 0 then { s with obs.loClr := true } else s
  | 0x8054 => wearForm s
  | 0x9004 => takeoverForced s v
  | _ => afterSeries old s off v

/-- A write of a register takes effect (R8). One to a reserved offset has none (R10). -/
def regWrite (s : State) (off v : Nat) (sec : Bool) : State := match regAt s.build off with
  | none => s
  | some (d, i) => match gate s off v sec with
    | (s, none) => s
    | (s, some w) => afterWrite s (writeFields s d off i w) off w

/-! ## Reads (R457) -/

/-- The registers that a read of a register captures. DEDUCED (log 16). -/
def capturedBy (off : Nat) : List Nat := match off with
  | 0x0118 => [0x011C]
  | 0x0408 => [0x040C]
  | 0x0454 => [0x0448, 0x0458]
  | 0x2C34 => [0x2C38, 0x2C3C]
  | 0x4084 => [0x4088]
  | 0x408C => [0x4090]
  | 0x4094 => [0x4098]
  | 0x409C => [0x40A0]
  | 0x5084 => [0x5088, 0x508C]
  | 0x5094 => [0x5098]
  | 0x6078 => [0x607C]
  | 0x6080 => [0x6084]
  | 0x60C4 => [0x60C8, 0x60CC, 0x60D0]
  | 0x7010 => [0x7014]
  | 0x7018 => [0x701C]
  | 0x7044 => [0x7048, 0x704C, 0x7050]
  | 0x7054 => [0x7058]
  | 0x7064 => [0x7068, 0x706C, 0x7070]
  | 0x7084 => (List.range 10).map (fun k => 0x7088 + 4 * k)
  | 0x8058 => [0x805C]
  | 0x8064 => [0x8068, 0x806C]
  | 0x9014 => [0x9018]
  | _ => []

/-- The registers that the read captures take the values they have at this instant. DEDUCED (log 16). -/
def capture (s : State) (off : Nat) : State :=
  { s with captured := (capturedBy off).foldl (fun (t : List (Nat × Nat)) o => tput t o (regWord s o)) s.captured }

/-- A read: the word it returns, and what it does. A read of MBc_F2H_DATA removes the oldest word (R348). DEDUCED (log 16). -/
def regRead (s : State) (off : Nat) : Nat × State :=
  (readWord s off, if 0x1000 ≤ off ∧ off < 0x1100 ∧ off % 64 = 4 then mbPop s ((off - 0x1000) / 64) else capture s off)

/-! ## Requests (R43, R47 to R52, R378, R382) -/

/-- The word that BE selects, where it selects exactly the four bytes of one. DEDUCED (log 13). -/
def reqLane (q : SlaveReq) : Option Nat := (List.range 8).find? (fun w => q.be.toNat == 15 * 2 ^ (4 * w))

/-- A well-formed request (R48): a read or a write of one register. DEDUCED (log 13). -/
def reqFits (q : SlaveReq) : Bool := decide (q.type.toNat < 2) && q.len == 0 && (reqLane q).isSome

/-- The register offset (R48). DEDUCED (log 13). -/
def reqOff (q : SlaveReq) : Nat := q.addr.toNat / 32 * 32 + 4 * (reqLane q).getD 0

/-- The value that a write carries for its register. DEDUCED (log 13). -/
def reqVal (q : SlaveReq) : Nat := bitsAt q.data.toNat (32 * (reqLane q).getD 0) 32

/-- A register of mailbox channels 2 and 3 (R49). DEDUCED (log 14). -/
def secureReg (off : Nat) : Bool := decide (0x1080 ≤ off) && decide (off < 0x1100)

/-- The registers of a sub-block in a reset of its own (R52, R399). DEDUCED (log 14). -/
def isolated (s : State) (off : Nat) : Bool :=
  (subIn s 6 && decide (0x2000 ≤ off) && decide (off < 0x3000)) || (subIn s 7 && decide (0x3000 ≤ off) && decide (off < 0x4000)) ||
    (subIn s 8 && decide (0x0800 ≤ off) && decide (off < 0x2000))

/-- The slave side answers requests to this offset: the window is open, or bring-up has stopped and the offset is below 0x0200.
DEDUCED (log 14). -/
def answers (s : State) (off : Nat) : Bool := hostOpen s || (alive s && s.rs.stopped && decide (off < 0x0200))

/-- Beats of a response after its first: LEN for a read, none for a write (R43, R51). -/
def moreBeats (q : SlaveReq) : Nat := if q.type == 0 then q.len.toNat else 0

/-- The response to a request (R43): its status, and the register's word for a read. It stands behind those not yet taken; with 16
outstanding HAP_SQ_READY is low, so that a further request passes only once the first response has been taken (R47).
DEDUCED (log 14). -/
def respond (s : State) (q : SlaveReq) (status data : Nat) : State :=
  { s with hap.ss := s.hap.ss.drop (s.hap.ss.length - 15) ++ [⟨q.tag.toNat, status, data, moreBeats q⟩] }

/-- A request that names one register and may reach it takes its effect and is answered GOOD. DEDUCED (log 12, 14). -/
def slaveDo (s : State) (q : SlaveReq) : State :=
  if q.type == 0 then
    let (v, s) := regRead s (reqOff q)
    respond s q 0 v
  else respond (regWrite s (reqOff q) (reqVal q) q.sec) q 0 0

/-- A slave request is taken and answered (R47). DEDUCED (log 12). -/
def slaveAccess (q : SlaveReq) (s : State) : State :=
  if !s.pins.vdd then s
  else if !answers s (reqOff q) then respond s q 4 0
  else
    let s := if q.chk == .corrected then chkCorr s else s
    if q.chk == .bad then respond (hapErr s Reg.HAP_ERR.POISON 3 true (reqOff q) q.tag.toNat 3) q 3 0
    else if !reqFits q then respond s q 1 0
    else if isolated s (reqOff q) then respond (hapErr s Reg.HAP_ERR.ISOL 6 true (reqOff q) q.tag.toNat 4) q 4 0
    else if secureReg (reqOff q) && !q.sec then respond s q 1 0
    else slaveDo s q

/-! ## The rows. Each names one kind of request; what a request carries decides what it does. -/

/-- REGISTER_WRITE (R8). -/
def execRegisterWrite (req : SlaveReq) (s : State) : Host.Outcome State Fault Refusal := finish (slaveAccess req s)

/-- CAPTURE_READ (R457). -/
def execCaptureRead (req : SlaveReq) (s : State) : Host.Outcome State Fault Refusal := finish (slaveAccess req s)

/-- TRACKER_ENABLE: SA_CFG (R84). -/
def execTrackerEnable (req : SlaveReq) (s : State) : Host.Outcome State Fault Refusal := finish (slaveAccess req s)

/-- BE_STOP_WRITE (R115). -/
def execBeStopWrite (req : SlaveReq) (s : State) : Host.Outcome State Fault Refusal := finish (slaveAccess req s)

/-- BE_START_WRITE (R119). -/
def execBeStartWrite (req : SlaveReq) (s : State) : Host.Outcome State Fault Refusal := finish (slaveAccess req s)

/-- BRIM_WRITE (R116). -/
def execBrimWrite (req : SlaveReq) (s : State) : Host.Outcome State Fault Refusal := finish (slaveAccess req s)

/-- PG_LIMIT_WRITE (R106): the next tick takes the limits as they then stand. -/
def execPgLimitWrite (req : SlaveReq) (s : State) : Host.Outcome State Fault Refusal := finish (slaveAccess req s)

/-- LOOP_DATA_WRITE (R110, R459). -/
def execLoopDataWrite (req : SlaveReq) (s : State) : Host.Outcome State Fault Refusal := finish (slaveAccess req s)

/-- RAIL_FLT_CLEAR (R154). -/
def execRailFltClear (req : SlaveReq) (s : State) : Host.Outcome State Fault Refusal := finish (slaveAccess req s)

/-- RAIL_SRC_WRITE (R142). -/
def execRailSrcWrite (req : SlaveReq) (s : State) : Host.Outcome State Fault Refusal := finish (slaveAccess req s)

/-- AUDIT_NOW_WRITE (R193). -/
def execAuditNowWrite (req : SlaveReq) (s : State) : Host.Outcome State Fault Refusal := finish (slaveAccess req s)

/-- PB_CLEAR_BINS (R200). -/
def execPbClearBins (req : SlaveReq) (s : State) : Host.Outcome State Fault Refusal := finish (slaveAccess req s)

/-- PB_BIN_LOG2_WRITE (R200). -/
def execPbBinLog2Write (req : SlaveReq) (s : State) : Host.Outcome State Fault Refusal := finish (slaveAccess req s)

/-- PB_UNLOAD (R217). -/
def execPbUnload (req : SlaveReq) (s : State) : Host.Outcome State Fault Refusal := finish (slaveAccess req s)

/-- PB_ACTIONS_DISABLE (R209). -/
def execPbActionsDisable (req : SlaveReq) (s : State) : Host.Outcome State Fault Refusal := finish (slaveAccess req s)

/-- OBSERVER_ENABLE (R233). -/
def execObserverEnable (req : SlaveReq) (s : State) : Host.Outcome State Fault Refusal := finish (slaveAccess req s)

/-- LIMIT_SET_WRITE (R243). -/
def execLimitSetWrite (req : SlaveReq) (s : State) : Host.Outcome State Fault Refusal := finish (slaveAccess req s)

/-- RPT_CONS_WRITE (R307). -/
def execRptConsWrite (req : SlaveReq) (s : State) : Host.Outcome State Fault Refusal := finish (slaveAccess req s)

/-- QBIND_WRITE (R299). -/
def execQbindWrite (req : SlaveReq) (s : State) : Host.Outcome State Fault Refusal := finish (slaveAccess req s)

/-- RING_ENABLE (R316). -/
def execRingEnable (req : SlaveReq) (s : State) : Host.Outcome State Fault Refusal := finish (slaveAccess req s)

/-- RING_DISABLE (R316, R323). -/
def execRingDisable (req : SlaveReq) (s : State) : Host.Outcome State Fault Refusal := finish (slaveAccess req s)

/-- SUB_BLOCK_HOLD (R400). -/
def execSubBlockHold (req : SlaveReq) (s : State) : Host.Outcome State Fault Refusal := finish (slaveAccess req s)

/-- SUB_BLOCK_RELEASE (R400). -/
def execSubBlockRelease (req : SlaveReq) (s : State) : Host.Outcome State Fault Refusal := finish (slaveAccess req s)

/-- THAW_WRITE (R434). -/
def execThawWrite (req : SlaveReq) (s : State) : Host.Outcome State Fault Refusal := finish (slaveAccess req s)

/-- OBS_CLEAR_WRITE (R424). -/
def execObsClearWrite (req : SlaveReq) (s : State) : Host.Outcome State Fault Refusal := finish (slaveAccess req s)

/-- WEAR_SEL_WRITE (R416). -/
def execWearSelWrite (req : SlaveReq) (s : State) : Host.Outcome State Fault Refusal := finish (slaveAccess req s)

/-- FORCED_TAKEOVER (R373). -/
def execForcedTakeover (req : SlaveReq) (s : State) : Host.Outcome State Fault Refusal := finish (slaveAccess req s)

/-- MB_H2F_DATA_WRITE (R345). -/
def execMbH2fDataWrite (req : SlaveReq) (s : State) : Host.Outcome State Fault Refusal := finish (slaveAccess req s)

/-- MB_F2H_DATA_READ (R348). -/
def execMbF2hDataRead (req : SlaveReq) (s : State) : Host.Outcome State Fault Refusal := finish (slaveAccess req s)

end Sys2Proof.Machine
end

