-- ==== Sys2Proof/Machine/Dispatch.lean ====
section
/-! DEFINITION. The dispatch of commands to their meanings: one arm for each constructor of Instr. -/

namespace Sys2Proof.Machine

def exec (i : Instr) (s : State) : Host.Outcome State Fault Refusal :=
  match i with
  | .registerWrite req => Sys2Proof.Machine.execRegisterWrite req s
  | .captureRead req => Sys2Proof.Machine.execCaptureRead req s
  | .hapMasterResponse resp => Sys2Proof.Machine.execHapMasterResponse resp s
  | .hapTimeout tag => Sys2Proof.Machine.execHapTimeout tag s
  | .misfitLastTimeout tag => Sys2Proof.Machine.execMisfitLastTimeout tag s
  | .govVddOff => Sys2Proof.Machine.execGovVddOff s
  | .powerOnReset => Sys2Proof.Machine.execPowerOnReset s
  | .resetNAssert => Sys2Proof.Machine.execResetNAssert s
  | .resetNRelease => Sys2Proof.Machine.execResetNRelease s
  | .trstNAssert => Sys2Proof.Machine.execTrstNAssert s
  | .optionLoadStart samples => Sys2Proof.Machine.execOptionLoadStart samples s
  | .fuseReadDone word => Sys2Proof.Machine.execFuseReadDone word s
  | .fuseAckTimeout => Sys2Proof.Machine.execFuseAckTimeout s
  | .domainRelease obs => Sys2Proof.Machine.execDomainRelease obs s
  | .bringupStuck => Sys2Proof.Machine.execBringupStuck s
  | .tlWaitTimeout => Sys2Proof.Machine.execTlWaitTimeout s
  | .oscStable osc => Sys2Proof.Machine.execOscStable osc s
  | .tlLoss => Sys2Proof.Machine.execTlLoss s
  | .xtalLoss => Sys2Proof.Machine.execXtalLoss s
  | .sourceSwitch => Sys2Proof.Machine.execSourceSwitch s
  | .revertToSource src => Sys2Proof.Machine.execRevertToSource src s
  | .cdrLock ps => Sys2Proof.Machine.execCdrLock ps s
  | .tlFrame frame => Sys2Proof.Machine.execTlFrame frame s
  | .tlMarkMissed => Sys2Proof.Machine.execTlMarkMissed s
  | .slewCycle => Sys2Proof.Machine.execSlewCycle s
  | .trimWindow count => Sys2Proof.Machine.execTrimWindow count s
  | .vfsLevelChange tile => Sys2Proof.Machine.execVfsLevelChange tile s
  | .vfsSettled rail => Sys2Proof.Machine.execVfsSettled rail s
  | .tileLevelReport tile => Sys2Proof.Machine.execTileLevelReport tile s
  | .vfsSettleTimeout rail => Sys2Proof.Machine.execVfsSettleTimeout rail s
  | .stepAngleUpdate angle wait => Sys2Proof.Machine.execStepAngleUpdate angle wait s
  | .angleExtrapolate => Sys2Proof.Machine.execAngleExtrapolate s
  | .angleTimer timer => Sys2Proof.Machine.execAngleTimer timer s
  | .angleLoss => Sys2Proof.Machine.execAngleLoss s
  | .trackerEnable req => Sys2Proof.Machine.execTrackerEnable req s
  | .beFrame obs => Sys2Proof.Machine.execBeFrame obs s
  | .profileTick => Sys2Proof.Machine.execProfileTick s
  | .beStopWrite req => Sys2Proof.Machine.execBeStopWrite req s
  | .beStartWrite req => Sys2Proof.Machine.execBeStartWrite req s
  | .brimWrite req => Sys2Proof.Machine.execBrimWrite req s
  | .pgLimitWrite req => Sys2Proof.Machine.execPgLimitWrite req s
  | .loopDataWrite req => Sys2Proof.Machine.execLoopDataWrite req s
  | .loopWrite => Sys2Proof.Machine.execLoopWrite s
  | .loopImageLoad mem => Sys2Proof.Machine.execLoopImageLoad mem s
  | .domainStop => Sys2Proof.Machine.execDomainStop s
  | .domainStart => Sys2Proof.Machine.execDomainStart s
  | .hubFault fault => Sys2Proof.Machine.execHubFault fault s
  | .compensatorUpdate vsns => Sys2Proof.Machine.execCompensatorUpdate vsns s
  | .phaseReportFrame port frame inTime => Sys2Proof.Machine.execPhaseReportFrame port frame inTime s
  | .railPeriodBoundary rail => Sys2Proof.Machine.execRailPeriodBoundary rail s
  | .shedHoldExpiry rail => Sys2Proof.Machine.execShedHoldExpiry rail s
  | .fireHoldExpiry rail => Sys2Proof.Machine.execFireHoldExpiry rail s
  | .uvfRise rail => Sys2Proof.Machine.execUvfRise rail s
  | .fireEnd rail => Sys2Proof.Machine.execFireEnd rail s
  | .fireMaxExpiry rail => Sys2Proof.Machine.execFireMaxExpiry rail s
  | .railStart => Sys2Proof.Machine.execRailStart s
  | .railStop => Sys2Proof.Machine.execRailStop s
  | .railDelayExpiry rail => Sys2Proof.Machine.execRailDelayExpiry rail s
  | .railRampDone rail => Sys2Proof.Machine.execRailRampDone rail s
  | .railSettled rail => Sys2Proof.Machine.execRailSettled rail s
  | .railStartTimeout rail => Sys2Proof.Machine.execRailStartTimeout rail s
  | .hiccupExpiry rail => Sys2Proof.Machine.execHiccupExpiry rail s
  | .railStopDone rail => Sys2Proof.Machine.execRailStopDone rail s
  | .fastOffDone rail => Sys2Proof.Machine.execFastOffDone rail s
  | .phaseRetire => Sys2Proof.Machine.execPhaseRetire s
  | .railFltClear req => Sys2Proof.Machine.execRailFltClear req s
  | .railSrcWrite req => Sys2Proof.Machine.execRailSrcWrite req s
  | .vselChange vsel => Sys2Proof.Machine.execVselChange vsel s
  | .pwrgdFall => Sys2Proof.Machine.execPwrgdFall s
  | .pwrgdRise => Sys2Proof.Machine.execPwrgdRise s
  | .shelfBrakeAssert => Sys2Proof.Machine.execShelfBrakeAssert s
  | .brakeEscalation => Sys2Proof.Machine.execBrakeEscalation s
  | .brakeMissCheck => Sys2Proof.Machine.execBrakeMissCheck s
  | .shelfBrakeDeassert => Sys2Proof.Machine.execShelfBrakeDeassert s
  | .detectorTrip det uv => Sys2Proof.Machine.execDetectorTrip det uv s
  | .detectorClear det uv => Sys2Proof.Machine.execDetectorClear det uv s
  | .stretchHoldExpiry tile => Sys2Proof.Machine.execStretchHoldExpiry tile s
  | .detectorSelfTest tile fails => Sys2Proof.Machine.execDetectorSelfTest tile fails s
  | .detectorStuck det => Sys2Proof.Machine.execDetectorStuck det s
  | .engineStartRequest tile starts => Sys2Proof.Machine.execEngineStartRequest tile starts s
  | .engineEnd tile ends => Sys2Proof.Machine.execEngineEnd tile ends s
  | .opMaxExpiry tile engine => Sys2Proof.Machine.execOpMaxExpiry tile engine s
  | .creditRelease tile lost => Sys2Proof.Machine.execCreditRelease tile lost s
  | .tileReport tile lost => Sys2Proof.Machine.execTileReport tile lost s
  | .creditReturn tile lost => Sys2Proof.Machine.execCreditReturn tile lost s
  | .creditAuditStart reserveBad => Sys2Proof.Machine.execCreditAuditStart reserveBad s
  | .auditNowWrite req => Sys2Proof.Machine.execAuditNowWrite req s
  | .creditAuditReturn => Sys2Proof.Machine.execCreditAuditReturn s
  | .tileLost tile => Sys2Proof.Machine.execTileLost tile s
  | .tileOrphan tile => Sys2Proof.Machine.execTileOrphan tile s
  | .censusRequest tile => Sys2Proof.Machine.execCensusRequest tile s
  | .clusterPowerOk tile trips => Sys2Proof.Machine.execClusterPowerOk tile trips s
  | .clPwrHoldExpiry tile => Sys2Proof.Machine.execClPwrHoldExpiry tile s
  | .stepBoundary => Sys2Proof.Machine.execStepBoundary s
  | .programSwitch => Sys2Proof.Machine.execProgramSwitch s
  | .planSwitch => Sys2Proof.Machine.execPlanSwitch s
  | .actionMaxExpiry effect => Sys2Proof.Machine.execActionMaxExpiry effect s
  | .phasebookLoad mem => Sys2Proof.Machine.execPhasebookLoad mem s
  | .forecast entry => Sys2Proof.Machine.execForecast entry s
  | .forecastCancel => Sys2Proof.Machine.execForecastCancel s
  | .pbClearBins req => Sys2Proof.Machine.execPbClearBins req s
  | .pbBinLog2Write req => Sys2Proof.Machine.execPbBinLog2Write req s
  | .pbUnload req => Sys2Proof.Machine.execPbUnload req s
  | .pbActionsDisable req => Sys2Proof.Machine.execPbActionsDisable req s
  | .sensorSampleWindow counts => Sys2Proof.Machine.execSensorSampleWindow counts s
  | .thermalCeilingLift tile => Sys2Proof.Machine.execThermalCeilingLift tile s
  | .orderlyDrainDone => Sys2Proof.Machine.execOrderlyDrainDone s
  | .orderlyDrainTimeout => Sys2Proof.Machine.execOrderlyDrainTimeout s
  | .orderlyClustersOff => Sys2Proof.Machine.execOrderlyClustersOff s
  | .thermalRearm => Sys2Proof.Machine.execThermalRearm s
  | .flowOkLow => Sys2Proof.Machine.execFlowOkLow s
  | .flowOkHigh => Sys2Proof.Machine.execFlowOkHigh s
  | .flowPoll => Sys2Proof.Machine.execFlowPoll s
  | .flowReading reading => Sys2Proof.Machine.execFlowReading reading s
  | .sizingRoundDone inlet => Sys2Proof.Machine.execSizingRoundDone inlet s
  | .sizingTimeout => Sys2Proof.Machine.execSizingTimeout s
  | .observerLoad mem => Sys2Proof.Machine.execObserverLoad mem s
  | .observerSwitch => Sys2Proof.Machine.execObserverSwitch s
  | .observerEnable req => Sys2Proof.Machine.execObserverEnable req s
  | .observerSolve => Sys2Proof.Machine.execObserverSolve s
  | .observerSettled => Sys2Proof.Machine.execObserverSettled s
  | .limitSetWrite req => Sys2Proof.Machine.execLimitSetWrite req s
  | .rainflowSample => Sys2Proof.Machine.execRainflowSample s
  | .budgetCeilingLift => Sys2Proof.Machine.execBudgetCeilingLift s
  | .secondBoundary => Sys2Proof.Machine.execSecondBoundary s
  | .minuteBoundary => Sys2Proof.Machine.execMinuteBoundary s
  | .rptConsWrite req => Sys2Proof.Machine.execRptConsWrite req s
  | .exchangePeriod => Sys2Proof.Machine.execExchangePeriod s
  | .feltCredit msg => Sys2Proof.Machine.execFeltCredit msg s
  | .feltAck msg => Sys2Proof.Machine.execFeltAck msg s
  | .feltDemand msg => Sys2Proof.Machine.execFeltDemand msg s
  | .feltPace msg => Sys2Proof.Machine.execFeltPace msg s
  | .feltView msg => Sys2Proof.Machine.execFeltView msg s
  | .feltAudit msg => Sys2Proof.Machine.execFeltAudit msg s
  | .feltAuditReply msg => Sys2Proof.Machine.execFeltAuditReply msg s
  | .feltStep msg => Sys2Proof.Machine.execFeltStep msg s
  | .feltSyncReq msg => Sys2Proof.Machine.execFeltSyncReq msg s
  | .feltSyncAns msg => Sys2Proof.Machine.execFeltSyncAns msg s
  | .syncWaitDone link => Sys2Proof.Machine.execSyncWaitDone link s
  | .feltBadMessage msg => Sys2Proof.Machine.execFeltBadMessage msg s
  | .feltUndelivered msg => Sys2Proof.Machine.execFeltUndelivered msg s
  | .feltRetry link => Sys2Proof.Machine.execFeltRetry link s
  | .feltGapTimeout link => Sys2Proof.Machine.execFeltGapTimeout link s
  | .peerTimeout link => Sys2Proof.Machine.execPeerTimeout link s
  | .rootAuditStart => Sys2Proof.Machine.execRootAuditStart s
  | .auditAbandon => Sys2Proof.Machine.execAuditAbandon s
  | .planLoad mem => Sys2Proof.Machine.execPlanLoad mem s
  | .envelopeSet => Sys2Proof.Machine.execEnvelopeSet s
  | .feltSync => Sys2Proof.Machine.execFeltSync s
  | .accountRead back => Sys2Proof.Machine.execAccountRead back s
  | .accountFlush => Sys2Proof.Machine.execAccountFlush s
  | .qbindWrite req => Sys2Proof.Machine.execQbindWrite req s
  | .accountFetchDone => Sys2Proof.Machine.execAccountFetchDone s
  | .accountWriteback => Sys2Proof.Machine.execAccountWriteback s
  | .accountWritebackDone => Sys2Proof.Machine.execAccountWritebackDone s
  | .reportKeyRead => Sys2Proof.Machine.execReportKeyRead s
  | .doorbellPoll => Sys2Proof.Machine.execDoorbellPoll s
  | .doorbellReadDone => Sys2Proof.Machine.execDoorbellReadDone s
  | .descriptorFetchDone => Sys2Proof.Machine.execDescriptorFetchDone s
  | .descriptorBadOpcode => Sys2Proof.Machine.execDescriptorBadOpcode s
  | .completionWriteDone => Sys2Proof.Machine.execCompletionWriteDone s
  | .ringEnable req => Sys2Proof.Machine.execRingEnable req s
  | .ringDisable req => Sys2Proof.Machine.execRingDisable req s
  | .nop => Sys2Proof.Machine.execNop s
  | .manifestLoad mem agree => Sys2Proof.Machine.execManifestLoad mem agree s
  | .ready => Sys2Proof.Machine.execReady s
  | .firmwareLoad mem failed => Sys2Proof.Machine.execFirmwareLoad mem failed s
  | .firmwareImageStart => Sys2Proof.Machine.execFirmwareImageStart s
  | .tileBroadcastDone taken => Sys2Proof.Machine.execTileBroadcastDone taken s
  | .blockResetEngine => Sys2Proof.Machine.execBlockResetEngine s
  | .blockResetCluster => Sys2Proof.Machine.execBlockResetCluster s
  | .blockResetPartition => Sys2Proof.Machine.execBlockResetPartition s
  | .blockResetSubBlock => Sys2Proof.Machine.execBlockResetSubBlock s
  | .blockResetWhole => Sys2Proof.Machine.execBlockResetWhole s
  | .tileResetStrand tile => Sys2Proof.Machine.execTileResetStrand tile s
  | .tileResetDone tile => Sys2Proof.Machine.execTileResetDone tile s
  | .tileResetTimeout tile => Sys2Proof.Machine.execTileResetTimeout tile s
  | .subBlockHold req => Sys2Proof.Machine.execSubBlockHold req s
  | .subBlockRelease req => Sys2Proof.Machine.execSubBlockRelease req s
  | .clusterPowerUp => Sys2Proof.Machine.execClusterPowerUp s
  | .clusterPowerDown => Sys2Proof.Machine.execClusterPowerDown s
  | .waveStart => Sys2Proof.Machine.execWaveStart s
  | .clusterPowerOkTimeout tile => Sys2Proof.Machine.execClusterPowerOkTimeout tile s
  | .watchArm => Sys2Proof.Machine.execWatchArm s
  | .watchClear => Sys2Proof.Machine.execWatchClear s
  | .freeze => Sys2Proof.Machine.execFreeze s
  | .thaw => Sys2Proof.Machine.execThaw s
  | .freezeTimedInstant => Sys2Proof.Machine.execFreezeTimedInstant s
  | .freezeSettled => Sys2Proof.Machine.execFreezeSettled s
  | .thawWrite req => Sys2Proof.Machine.execThawWrite req s
  | .obsClearWrite req => Sys2Proof.Machine.execObsClearWrite req s
  | .opCountTransfer tile => Sys2Proof.Machine.execOpCountTransfer tile s
  | .tapFreeze bits => Sys2Proof.Machine.execTapFreeze bits s
  | .tapThaw bits => Sys2Proof.Machine.execTapThaw bits s
  | .scanCapture => Sys2Proof.Machine.execScanCapture s
  | .scanExit => Sys2Proof.Machine.execScanExit s
  | .tapFirmwareLoad bytes => Sys2Proof.Machine.execTapFirmwareLoad bytes s
  | .fuseRecordBad readback => Sys2Proof.Machine.execFuseRecordBad readback s
  | .fuseRecordSpare readback => Sys2Proof.Machine.execFuseRecordSpare readback s
  | .fuseRecordRetired readback => Sys2Proof.Machine.execFuseRecordRetired readback s
  | .sramRowRepair hub firmware row uncorrected kind acct => Sys2Proof.Machine.execSramRowRepair hub firmware row uncorrected kind acct s
  | .mirrorLaneFail hub lane => Sys2Proof.Machine.execMirrorLaneFail hub lane s
  | .wearUpdate => Sys2Proof.Machine.execWearUpdate s
  | .wearSelWrite req => Sys2Proof.Machine.execWearSelWrite req s
  | .coreTrap core => Sys2Proof.Machine.execCoreTrap core s
  | .coreDeadlineExpiry core => Sys2Proof.Machine.execCoreDeadlineExpiry core s
  | .coreRestarted core => Sys2Proof.Machine.execCoreRestarted core s
  | .journalFrame obs => Sys2Proof.Machine.execJournalFrame obs s
  | .journalAck => Sys2Proof.Machine.execJournalAck s
  | .mirrorSynced => Sys2Proof.Machine.execMirrorSynced s
  | .takeoverRequest => Sys2Proof.Machine.execTakeoverRequest s
  | .heartbeatAbsent => Sys2Proof.Machine.execHeartbeatAbsent s
  | .heartbeatLoss journal => Sys2Proof.Machine.execHeartbeatLoss journal s
  | .mirrorLost cause => Sys2Proof.Machine.execMirrorLost cause s
  | .forcedTakeover req => Sys2Proof.Machine.execForcedTakeover req s
  | .mbH2fDataWrite req => Sys2Proof.Machine.execMbH2fDataWrite req s
  | .mbDoorbell chan => Sys2Proof.Machine.execMbDoorbell chan s
  | .mbF2hDataRead req => Sys2Proof.Machine.execMbF2hDataRead req s
  | .mbEcho chan => Sys2Proof.Machine.execMbEcho chan s
  | .mbFwInfo chan => Sys2Proof.Machine.execMbFwInfo chan s
  | .mbCoreState chan => Sys2Proof.Machine.execMbCoreState chan s
  | .mbLockFirmware chan => Sys2Proof.Machine.execMbLockFirmware chan s
  | .mbLockEnvelope chan => Sys2Proof.Machine.execMbLockEnvelope chan s
  | .mbUnknownType chan => Sys2Proof.Machine.execMbUnknownType chan s
  | .mbReplyTimeout chan => Sys2Proof.Machine.execMbReplyTimeout chan s
  | .telemetrySample => Sys2Proof.Machine.execTelemetrySample s
  | .pmbAlert answer => Sys2Proof.Machine.execPmbAlert answer s
  | .pmbusTransactionFail record failed => Sys2Proof.Machine.execPmbusTransactionFail record failed s
  | .pmbusRetry record res => Sys2Proof.Machine.execPmbusRetry record res s
  | .i3cIbi record payload => Sys2Proof.Machine.execI3cIbi record payload s
  | .heartbeatReturn => Sys2Proof.Machine.execHeartbeatReturn s
  | .clPwrOkFall tile => Sys2Proof.Machine.execClPwrOkFall tile s
  | .levelOrder tile => Sys2Proof.Machine.execLevelOrder tile s
  | .quarantineRelease tag => Sys2Proof.Machine.execQuarantineRelease tag s
  | .blockResetDrainTimeout => Sys2Proof.Machine.execBlockResetDrainTimeout s
  | .snapshotValid => Sys2Proof.Machine.execSnapshotValid s
  | .mailboxFramingTimeout chan => Sys2Proof.Machine.execMailboxFramingTimeout chan s

end Sys2Proof.Machine
end

