-- ==== Sys2Proof/Machine/Step.lean ====
section
/-! DEFINITION. One step of the block: the command at the front of the queue, or, with nothing waiting, one reference cycle. -/

namespace Sys2Proof.Machine

/-- Takes the command at the front of the queue and carries it out on the rest; on an empty queue the block idles.
DESIGN CHOICE (log 1, 68). -/
def step (s : State) : Host.Outcome State Fault Refusal :=
  match s.pending with
  | c :: rest => exec c { s with pending := rest }
  | [] => .next (idle s)

/-- The table gives its rows no bits, so that no word spells a command: the state is unchanged. DEDUCED (log 7). -/
def State.withFetchWord (s : State) (nbits w : Nat) : State :=
  match Sys2Proof.decodeTableWord nbits w with
  | some c => { s with pending := c :: s.pending }
  | none => s

end Sys2Proof.Machine
end

