-- ==== Sys2Proof/Machine/Pins.lean ====
section
/-! DEFINITION. The levels of the Phase Link outputs and of THERMTRIP_N as the state gives them, and where the edges of PH_PWM lie
(R26, R27, R131, R134, R140, R164, R444). The levels of the board buses, of TDO, of the Mirror Link and of the valid and
ready signals follow from the release order and what the state has to present (R26, R27, R29, R41). Held in State itself: GSTOP and
THERMTRIP_N in pins, CL_* and ENG_GRANT in Tile, FZ_REQ and FZ_ADDR in rs. -/

namespace Sys2Proof.Machine

/-- The level of a board output. -/
inductive Level where
  /-- High impedance with the weak pull-up, before its domain is released (R26). -/
  | pulled
  | low
  | high
  /-- High impedance, not asserted (R27). -/
  | released
  /-- High impedance with FX-4's high-keeper enabled (R27). -/
  | kept
  /-- Driven by function: what the unit that owns it sends. -/
  | driven
deriving DecidableEq, Repr

/-- What a PH_PWM pin does in a switching period. -/
inductive Pwm where
  | low
  | high
  /-- A high pulse of 10 ns once per period (R131). -/
  | strobe
  /-- A rising edge once per period and this on-time, in steps of the grid of 1/9.6 GHz. -/
  | pulse (steps : Nat)
deriving DecidableEq, Repr

/-- Quarters of D that a draining port takes: 3, 2, 1 and then 0 over its periods, and all of D before the first (R164). -/
def drainQuarters (s : State) (r p : Nat) : Nat := match (rail s r).drain with
  | some d => if d.port = p && d.begun then 3 - d.k else 4
  | none => 4

/-- On-time for a number of quarters of D, to the nearest grid step; a tie goes to even (R131). DEDUCED (log 66). -/
def onSteps (s : State) (r q : Nat) : Nat := (roundEven (q * (rail s r).duty * periodSteps s r) (4 * 65536)).toNat

/-- PH_EN_N of a port (R134, R444). -/
def phEnN (s : State) (p : Nat) : Level :=
  if !released s 6 then .pulled else if portOn (port s p) then .low else .high

/-- PH_PWM of a port, in the order of R444 (R134, R140). A port of no rail keeps its idle level (R128). From a whole-block reset to the
release of the domain R444 gives Low, where R26 gives the pull-up: R441 has the outcome taken from R444. DEDUCED (log 70). -/
def phPwm (s : State) (p : Nat) : Pwm :=
  if !released s 6 then .low
  else match (port s p).rail with
    | none => .low
    | some r => if (rail s r).st == .hiccup || (rail s r).st == .faulted then .low else match (port s p).st with
      | .off | .spare | .retired => .low
      | .test | .standby => .strobe
      | .fire => .high
      | .joining | .active => .pulse (onSteps s r 4)
      | .draining => .pulse (onSteps s r (drainQuarters s r p))

/-- THERMTRIP_N (R27, R255). -/
def thermtripN (s : State) : Level := if !released s 6 then .pulled else if s.pins.thermtrip then .low else .released

/-- PMB_SCL and PMB_SDA, open-drain, between transactions (R26, R27). -/
def pmbPin (s : State) : Level := if !released s 5 then .pulled else .released

/-- I3C_SCL and I3C_SDA between transfers (R26, R27). -/
def i3cScl (s : State) : Level := if !released s 5 then .pulled else .high
def i3cSda (s : State) : Level := if !released s 5 then .pulled else .kept

/-- TDO, whose test access port is always live: it drives in Shift-DR and Shift-IR alone (R27, R59). -/
def tdo (s : State) : Level := if tapDrives s.tap.st then (if tapOut s then .high else .low) else .released

/-- MIR_TX_D and MIR_HB_O: 0 until step 3, and then the journal and the heartbeat, in a duplex (R29, R40, R384). -/
def mirrorOut (s : State) : Level := if released s 3 && s.build.hubs == 2 then .driven else .low

/-- HAP_MQ_VALID, with the first beat that has not passed behind it, and HAP_SS_VALID, with the first response (R29, R41, R47). -/
def hapMqValid (s : State) : Bool := released s 8 && !s.hap.mq.isEmpty
/-- DEDUCED (log 70). -/
def hapSsValid (s : State) : Bool := (released s 8 || (alive s && s.rs.stopped)) && !s.hap.ss.isEmpty

/-- The beat that stands on HAP_SS: the TAG, the status, which every beat of a response carries, the word of a read, and LAST
(R43, R50, R51). -/
def hapSsBeat (s : State) : Option (Nat × Nat × Nat × Bool) := s.hap.ss.head?.map (fun r => (r.tag, r.status, r.data, r.more == 0))

/-- HAP_MS_READY is high while a request is outstanding (R44), and for every further response, which is discarded (R46): from the
release of its domain (R29). DEDUCED (log 70). -/
def hapMsReady (s : State) : Bool := released s 8

/-- HAP_SQ_READY is low while 16 requests are outstanding (R47), and before the release of its domain (R29), but where bring-up has
stopped (R382). DEDUCED (log 14). -/
def hapSqReady (s : State) : Bool := (released s 8 || (alive s && s.rs.stopped)) && decide (s.hap.ss.length < 16)

/-- FMP_TX_VALID, with the first message that has not passed behind it (R29, R41, R384). -/
def fmpTxValid (s : State) : Bool := released s 6 && !s.bg.tx.isEmpty

/-- FMP_RX_READY: every message is taken whole as its row, so that the 64-entry queue never fills (R29, R39). DEDUCED (log 70). -/
def fmpRxReady (s : State) : Bool := released s 6

end Sys2Proof.Machine
end

