-- ==== Sys2Proof/Safety.lean ====
section
/-! DEFINITION. What counts as a safe state of the block, in the terms the claims use. -/

namespace Sys2Proof.Machine

/-- GSTOP is the OR of the holds of R442: it is asserted exactly while one of them is in force. -/
def GstopInv (s : State) : Prop := s.pins.gstop = gstopHold s

/-- Tags in use at the Host Access Port: no two requests outstanding share one, none is quarantined (R44, R46), and no more
than 256 are outstanding. -/
abbrev TagsInv (s : State) : Prop :=
  (s.hap.out.map (·.tag)).Nodup ∧ (∀ r ∈ s.hap.out, r.tag < 256 ∧ ∀ q ∈ s.hap.quar, q.tag ≠ r.tag) ∧ s.hap.out.length ≤ 256

/-- A table is in its canonical form: its numbers rise strictly, and no entry equals the default. -/
def TableOk {α : Type} (d : α) (t : List (Nat × α)) : Prop := (t.map (·.1)).Pairwise (· < ·) ∧ ∀ p ∈ t, p.2 ≠ d

/-- The purposes whose results a row of their own takes. -/
def ownRow : Purpose → Bool
  | .dbProd | .dbCplCons | .dbEvCons | .fetch .. | .cpl .. | .acctFetch _ | .acctWb _ | .qmap .. => true
  | _ => false

/-- No completed request waits to be handed over inside the block. -/
abbrev innerDoneNone (s : State) : Prop := s.hap.done.all (fun d => !isInner d.purpose) = true

/-- The descriptor whose turn it is (R317, R318): ring n holds it at its head. -/
abbrev Turn (s : State) (n : Nat) (d : List Byte) : Prop := takeTurn s = some n ∧ (ring s n).ready.head? = some d

/-- A descriptor of ring n passes every check of R319 when it is taken. -/
abbrev Passes (s : State) (n : Nat) (d : List Byte) (job : Job) (sp : OpSpec) : Prop := checkDesc s (takeHead s n d job).2 d sp = none

/-- A build that R18 allows. -/
abbrev BuildOk (b : Build) : Prop :=
  1 ≤ b.tiles ∧ b.tiles ≤ 128 ∧ (b.hubs = 1 ∨ b.hubs = 2) ∧ 1 ≤ b.ports ∧ b.ports ≤ 192 ∧ 1 ≤ b.rails ∧ b.rails ≤ 12

/-- A slave request that reaches the register at an offset (R47 to R52): well formed and intact, while the slave side answers; the
register is not in a sub-block in reset, and one of mailbox channels 2 and 3 is reached by a secure request only. TYPE 0 reads, 1
writes. -/
abbrev Accepted (s : State) (q : SlaveReq) (ty : BitVec 2) (off : Nat) : Prop :=
  s.pins.vdd = true ∧ answers s off = true ∧ q.chk = .good ∧ reqFits q = true ∧ q.type = ty ∧ reqOff q = off ∧
    isolated s off = false ∧ (secureReg off = true → q.sec = true)

/-- The stored fields of the register at an offset after a write of v, by their types (R8, R9), before what follows from it. -/
abbrev written (s : State) (off v : Nat) : State := match regAt s.build off with
  | some (d, i) => writeFields s d off i v
  | none => s

/-- A good Felt message of a TYPE, heard on link k (R276, R277). -/
abbrev FeltMsg (s : State) (m : FmpMsg) (type k : Nat) (l : Link) : Prop :=
  feltRuns s = true ∧ m.undeliv = false ∧ badFelt s m = false ∧ bitsAt m.payload.toNat 124 4 = type ∧
    linkOf s m.peer.toNat = some (k, l) ∧ link s k = some l

/-- Links have numbers of their own, and OWN and POOL make up HELD, in the 32 bits of the running totals (R265, R282). -/
def FeltInv (s : State) : Prop := (s.bg.links.map (·.1)).Nodup ∧ (s.bg.own + s.bg.pool - bgHeld s) % 2 ^ 32 = 0

end Sys2Proof.Machine
end

