-- ==== Sys2Proof/Certificates/Slice0/Obligations.lean ====
section
/-! DEFINITION. The statements about the model, for the provers: each says what a command or the block does, by the rules it names.
`settle` stands in each next state because GSTOP follows its holds after every command (GstopFollowsItsHolds). -/

open Sys2Proof Sys2Proof.Machine

/-- A step carries out the command at the front of the queue on the rest of the queue. For every command c and state s: where c
stands at the front of the queue, step s is exec c on s with the rest of the queue. On an empty queue one reference cycle of 4
ns passes, the first beat waiting on HAP_MQ and the next beat waiting on HAP_SS and the first Felt message waiting pass, a scan
that shifts out takes an edge of TCK in each fifth cycle, and the queue stays empty (the model's choice, log entries 1, 68 and
79). (00_scope.md, notes/assumptions/1.md) -/
def Obligations.StepRunsFrontCommand : Prop :=
  (∀ (c : Instr) (rest : List Instr) (s : State), s.pending = c :: rest → step s = exec c { s with pending := rest }) ∧
  ∀ s : State, s.pending = [] → ∃ t, step s = .next t ∧ t.now = s.now + 1 ∧ t.pending = [] ∧ t.regs = s.regs ∧ t.be = s.be ∧
    t.th = s.th ∧ t.hr = s.hr ∧ t.hap = { s.hap with mq := s.hap.mq.tail, ss := passBeat s.hap.ss } ∧
      t.bg = { s.bg with tx := s.bg.tx.tail } ∧
    (scanning s = false ∨ (s.now + 1) % 5 ≠ 0 → t.tap = s.tap) ∧
      (scanning s = true → (s.now + 1) % 5 = 0 → t.tap = (tapEdge s false false).tap)

/-- Every step leaves GSTOP asserted exactly while one of its holds is in force. From every state in which GSTOP is the OR of its
holds (reset until step 6, the shutdown hold, the brake escalation, the W3 stop, and a freeze with GSTOP set), whatever command
stands at the front of the queue or none, a step that answers a next state leaves GSTOP the OR of the holds of that state.
(14_interactions.md, Safety.lean GstopInv) -/
def Obligations.GstopFollowsItsHolds : Prop :=
  ∀ s t : State, GstopInv s → step s = .next t → GstopInv t

/-- Right after reset GSTOP is asserted, and it is the OR of its holds. In the state right after reset GSTOP is asserted, because
the hold "reset until step 6" is in force, and GSTOP equals the OR of its holds. (14_interactions.md, 11_reset_and_bringup.md) -/
def Obligations.GstopAtReset : Prop :=
  State.reset.pins.gstop = true ∧ GstopInv State.reset

/-- The state right after reset: nothing released, every stored register at its reset value, every queue empty. Right after reset no
release step is taken or completed, every stored register field has its reset value, no master request is outstanding and none
waits, no ring holds anything, no mailbox holds a word, no manifest is in force, no control loop is described, and nothing waits
in the queue of commands. RS_CAUSE.POR reads 1. (11_reset_and_bringup.md, 15_register_index.md) -/
def Obligations.ResetLeavesTheBlockEmpty : Prop :=
  State.reset.rs.step = 0 ∧ State.reset.rs.done = 0 ∧ (∀ f : Fld, getF State.reset f = f.rst) ∧ State.reset.hap.out = [] ∧
  State.reset.hap.wait = [] ∧ State.reset.hap.quar = [] ∧ (∀ n, ring State.reset n = {}) ∧ (∀ c, mbox State.reset c = {}) ∧
  State.reset.mf = none ∧ State.reset.be.loops = [] ∧ State.reset.hr.flights = [] ∧ State.reset.pending = [] ∧
  getF State.reset Reg.RS_CAUSE.POR = 1

/-- Loss of GOV_VDD, power-on reset, RESET_N and TRST_N leave what the reset rules keep and nothing else. GOV_VDD off keeps no state
but the inputs. A power-on reset does the same 10 µs later with the supply present. RESET_N low with the supply present sets
RS_CAUSE.PIN, releases nothing, leaves every register outside RS_CAUSE at its reset value, and does not restart the stability
count of the RC oscillator; without the supply it changes the pin alone. The release of a held RESET_N starts the wait for
option load. TRST_N resets the test access port alone. (That a freeze or a scan that stands keeps SCAN_BUSY over TRST_N is the
model's choice, log entry 79, and so is a power-on reset from any state, log entry 26.) (R19, R375, R376, R377, R380, R59) -/
def Obligations.SupplyAndResetPinsTakeEffect : Prop :=
  (∀ s : State, exec .govVddOff s = .next (settle {
    pending := s.pending, build := s.build, now := s.now, free := s.free
    pins := { s.pins with vdd := false, gstop := true, mirrorGstop := false, thermtrip := false }
    du := { mode := if s.build.hubs = 1 then 0 else 1 }, rs := { held := s.pins.rstLow, endAt := s.now }, tb := { rcFrom := none } })) ∧
  (∀ s : State, exec .powerOnReset s = .next (settle {
    pending := s.pending, build := s.build, now := s.now + us 10, free := s.free
    pins := { s.pins with vdd := true, gstop := true, mirrorGstop := false, thermtrip := false }
    du := { mode := if s.build.hubs = 1 then 0 else 1 }, rs := { held := s.pins.rstLow, endAt := s.now + us 10 }
    tb := { rcFrom := some s.now } })) ∧
  (∀ s : State, s.pins.vdd = true → ∃ t, exec .resetNAssert s = .next t ∧ getF t Reg.RS_CAUSE.PIN = 1 ∧
    (∀ f : Fld, f.lo < 32 → f.off ≠ 0x0104 → getF t f = f.rst) ∧ t.rs.step = 0 ∧ t.rs.held = true ∧ t.hap = {} ∧ t.hr = {} ∧
    t.be = {} ∧ t.pc = {} ∧ t.cc = {} ∧ t.th = {} ∧ t.bg = {} ∧ t.mf = none ∧ t.tap = s.tap ∧ t.pins.gstop = true ∧
      t.tb = { rcStable := s.tb.rcStable, rcStableAt := s.tb.rcStableAt, rcFrom := s.tb.rcFrom }) ∧
  (∀ s : State, s.pins.vdd = false → exec .resetNAssert s = .next (settle { s with pins.rstLow := true })) ∧
  (∀ s : State, s.rs.held = true → exec .resetNRelease s = .next (settle { s with pins.rstLow := false, rs.held := false, rs.endAt := s.now })) ∧
  (∀ s : State, s.rs.held = false → exec .resetNRelease s = .next (settle { s with pins.rstLow := false })) ∧
  ∀ s : State, exec .trstNAssert s = .next (settle { s with tap := {} })

/-- Option load samples the straps, reads the fuse words in order, and stops bring-up on a fault. Option load begins 64 reference
cycles after the later of the end of the reset and the stability of the RC oscillator, and samples the straps 8 times, 1 µs
apart. Eight equal samples with no reserved encoding are recorded and fuse word 0 is asked for; samples that differ set
RS_STRAPS.UNSTABLE, raise a strap fault and stop bring-up. A good fuse word below the last goes into the shadow copy and the
next is asked for. A word outside the repair list that fails its check, and an acknowledge that does not come in 10 µs, set
OPT_FAULT and stop bring-up on the RC oscillator with PHASE 15. (R381, R382, R404, R403, 11_reset_and_bringup.md) -/
def Obligations.OptionLoadReadsStrapsAndFuses : Prop :=
  (∀ (s : State) (x : Straps) (l : List Straps), alive s = true → s.rs.step = 0 → s.rs.stopped = false → s.tb.rcStable = true →
    l.all (· == x) = true → x.bootSrc ≠ 0 → x.clkMode ≠ 0 → ∃ t, exec (.optionLoadStart (x :: l)) s = .next t ∧
      t.rs.stepAt = max s.now (max s.rs.endAt s.tb.rcStableAt + 64) ∧ t.now = t.rs.stepAt + us 7 ∧ t.rs.step = 1 ∧
        t.rs.loading = true ∧ t.rs.fzReq = true ∧
      t.rs.fzAddr = 0 ∧ t.rs.straps = x ∧ getF t Reg.RS_STRAPS.BOOT_SRC = x.bootSrc % 4 ∧
      getF t Reg.RS_STRAPS.CLK_MODE = x.clkMode % 4 ∧ getF t Reg.RS_STRAPS.DUPLEX_ROLE = b2n x.role ∧
      t.hap = s.hap ∧ t.hr = s.hr ∧ t.be = s.be ∧ t.th = s.th ∧ t.mf = s.mf) ∧
  (∀ (s : State) (x : Straps) (l : List Straps), alive s = true → s.rs.step = 0 → s.rs.stopped = false → s.tb.rcStable = true →
    l.all (· == x) = false → ∃ t, exec (.optionLoadStart (x :: l)) s = .next t ∧ getF t Reg.RS_STRAPS.UNSTABLE = 1 ∧
      getF t Reg.RS_STATUS.STRAP_FAULT = 1 ∧ getF t Reg.RS_STATUS.PHASE = 15 ∧ t.rs.stopped = true ∧ t.rs.loading = false) ∧
  (∀ (s : State) (w : Word32), alive s = true → bootClock s = true → s.rs.loading = true → s.rs.fzReq = true → s.rs.fzAddr < 4095 →
    fuseCheck w.toNat = .good → exec (.fuseReadDone w) s = .next (settle {
      s with
      rs.shadow := tset 0 s.rs.shadow s.rs.fzAddr w.toNat, rs.fzReq := true, rs.fzAddr := s.rs.fzAddr + 1, rs.fzAt := s.now })) ∧
  (∀ (s : State) (w : Word32), alive s = true → bootClock s = true → s.rs.loading = true → s.rs.fzReq = true →
    s.rs.fzAddr < repairBase →
    fuseCheck w.toNat = .bad → ∃ t, exec (.fuseReadDone w) s = .next t ∧ getF t Reg.RS_STATUS.OPT_FAULT = 1 ∧
      getF t Reg.RS_STATUS.PHASE = 15 ∧ t.rs.stopped = true ∧ t.tb.src = .rc ∧ t.rs.fzReq = false) ∧
  ∀ s : State, alive s = true → bootClock s = true → s.rs.loading = true → s.rs.fzReq = true →
    ∃ t, exec .fuseAckTimeout s = .next t ∧
    t.now = max s.now (s.rs.fzAt + us 10) ∧ getF t Reg.RS_STATUS.OPT_FAULT = 1 ∧ getF t Reg.RS_STATUS.PHASE = 15 ∧
    t.rs.stopped = true ∧ t.tb.src = .rc ∧ t.be = s.be ∧ t.th = s.th ∧ (s.tb.src = .rc → t.hr = s.hr)

/-- At every step of the release order the step that was released completes and the next is released after its gap; a missed bound
stops bring-up. DOMAIN_RELEASE, at every step from 1 to 7 whose completion has come, completes that step and releases the next;
at step 8 it completes the release, opens the slave window with PHASE 8 and counts RS_BOOT_CYC from the end of the reset. While
the completion has not come, or the RC oscillator is lost before step 2 is complete, it waits. Step 2 is released 16 reference
cycles after step 1 is complete and starts rack time and the crystal or Timing Link of CLK_MODE; the completion of step 4 makes
the security core RUNNING and step 5 follows 256 reference cycles later. BRINGUP_STUCK on a step other than 7 sets STUCK and
STUCK_STEP at the bound of the step and stops bring-up; step 7 has no bound. The release of step 6 begins the cycles of band,
phase and thermal control, retires the ports that the fuse map lists as bad, and takes a brake or a lost FLOW_OK that stands as
it is released. The release of step 7 gives every tile agent the port of the primary hub and begins the broadcast of the boot
image to those not fused bad. (That one DOMAIN_RELEASE completes a step and releases the next, that a loss of RC before step 2
is complete stalls it, and what a release takes up from pins and fuses, are the model's choice, log entry 27.) (R384, R385,
R388, R65, R70, R135, R387, R392, R408) -/
def Obligations.BringUpReleasesInOrder : Prop :=
  (∀ (s : State) (o : ReleaseObs), alive s = true → s.rs.stopped = false → s.rs.done ≠ 8 → bootClock s = true →
    stepMayEnd s = true → s.rs.step < 8 →
    exec (.domainRelease o) s = .next (settle (releaseStep (if s.rs.done < s.rs.step then completeStep s s.rs.step o else s) (s.rs.step + 1)))) ∧
  (∀ (s : State) (k : Nat), k ≠ 6 → k ≠ 7 → (releaseStep s k).rs.step = k ∧ (releaseStep s k).rs.done = s.rs.done ∧
    (releaseStep s k).now = s.now + gapBefore k ∧ (releaseStep s k).rs.stepAt = s.now + gapBefore k ∧
    getF (releaseStep s k) Reg.RS_STATUS.PHASE = (k - 1) % 16 ∧ (releaseStep s k).hap = s.hap ∧ (releaseStep s k).hr = s.hr ∧
    (releaseStep s k).be = s.be ∧ (releaseStep s k).th = s.th ∧ (releaseStep s k).bg = s.bg) ∧
  (∀ s : State, ∃ w, w.rs = { s.rs with step := 6, stepAt := s.now + 64 } ∧ w.now = s.now + 64 ∧ getF w Reg.RS_STATUS.PHASE = 5 ∧
    w.be = { s.be with pcSnap := w.regs, frameAt := s.now + 64, tickAt := s.now + 64 } ∧ w.pc.compAt = 2 * (s.now + 64) ∧
    w.th = { s.th with sampleAt := s.now + 64, solveAt := s.now + 64, pollAt := s.now + 64, rfAt := s.now + 64 } ∧ w.hap = s.hap ∧
    w.hr = s.hr ∧ w.bg = s.bg ∧ w.pins = s.pins ∧ w.mf = s.mf ∧
    (∀ p < s.build.ports, portBad s p = true → (port w p).st = .retired ∧ (port w p).cause = 7) ∧
    (∀ p, (s.build.ports ≤ p ∨ portBad s p = false) → port w p = port (advanceTo s (s.now + 64)) p) ∧
    releaseStep s 6 = (if s.pins.flowOk then (if s.pins.brake then brakeOn w else w)
      else callShutdown (if s.pins.brake then brakeOn w else w) 5)) ∧
  (∀ s : State, ∃ t, releaseStep s 7 = t ∧ t.rs = { s.rs with
      step := 7, stepAt := s.now + 64
      bcast := some { bringUp := true, frames := bcastFrames Config.bootImage, left :=
        (List.range s.build.tiles).filter (fun k => !tileCoreBad s k) } } ∧
    t.now = s.now + 64 ∧ getF t Reg.RS_STATUS.PHASE = 6 ∧ getF t Reg.RS_BCAST.BUSY = 1 ∧ t.be = s.be ∧ t.mf = s.mf ∧
      t.pins = s.pins ∧
    (∀ k < s.build.tiles, (tile t k).portB = (s.du.active == 1) ∧ (tile t k).msgAt = s.now + 64) ∧
    (fusedUnits s 2 = [] → fusedUnits s 3 = [] → t.hap = s.hap ∧ t.hr = s.hr ∧ t.th = s.th ∧ t.bg = s.bg)) ∧
  (∀ (s : State) (o : ReleaseObs), alive s = true → s.rs.stopped = false → s.rs.step = 8 → s.rs.done < 8 → bootClock s = true → ∃ t,
    exec (.domainRelease o) s = .next t ∧ t.rs.done = 8 ∧ t.rs.openAt = s.now ∧ getF t Reg.RS_STATUS.PHASE = 8 ∧ (core t 2).st = 1 ∧
      getF t Reg.RS_BOOT_CYC.CYCLES = min 0xFFFFFFFF (s.now - s.rs.endAt) ∧ t.now = s.now ∧ t.be = s.be ∧ t.th = s.th ∧
        t.hap = s.hap) ∧
  (∀ (s : State) (o : ReleaseObs), (stepMayEnd s = false ∨ bootClock s = false ∨ s.rs.stopped = true ∨ s.rs.done = 8) →
    exec (.domainRelease o) s = .next (settle s)) ∧
  (∀ (s : State) (o : ReleaseObs), alive s = true → s.rs.stopped = false → bootClock s = true → s.rs.step = 1 → s.rs.done = 1 →
    ∃ t, exec (.domainRelease o) s = .next t ∧ t.now = s.now + 16 ∧ t.rs.step = 2 ∧ t.rs.done = 1 ∧ t.rs.stepAt = s.now + 16 ∧
      getF t Reg.RS_STATUS.PHASE = 1 ∧ t.tb.running = true ∧ t.tb.tlOn = (clkMode s == 3) ∧
      t.tb.xtalOn = (clkMode s == 3 || clkMode s == 2) ∧ t.hap = s.hap ∧ t.hr = s.hr ∧ t.be = s.be ∧ t.th = s.th ∧ t.bg = s.bg) ∧
  (∀ (s : State) (o : ReleaseObs), alive s = true → s.rs.stopped = false → s.rs.step = 4 → s.rs.done = 3 →
    ∃ t, exec (.domainRelease o) s = .next t ∧ t.now = s.now + 256 ∧ t.rs.step = 5 ∧ t.rs.done = 4 ∧
      getF t Reg.RS_STATUS.PHASE = 4 ∧ (core t 0).st = 1 ∧ t.hap = s.hap ∧ t.hr = s.hr ∧ t.be = s.be ∧ t.th = s.th) ∧
  (∀ s : State, alive s = true → bootClock s = true → s.rs.stopped = false → s.rs.step ≠ 0 → s.rs.step ≠ 7 → s.rs.step < 16 →
    s.rs.done < s.rs.step →
    ∃ t, exec .bringupStuck s = .next t ∧ getF t Reg.RS_STATUS.STUCK = 1 ∧ getF t Reg.RS_STATUS.STUCK_STEP = s.rs.step ∧
      getF t Reg.RS_STATUS.PHASE = 15 ∧ t.rs.stopped = true ∧ t.now = max s.now (s.rs.stepAt + stepBound s.rs.step) ∧
        t.tb.src = .rc ∧
      t.be = s.be ∧ (s.tb.src = .rc → t.hr = s.hr)) ∧
  ∀ s : State, (s.rs.step = 0 ∨ s.rs.step = 7 ∨ s.rs.step ≤ s.rs.done) → exec .bringupStuck s = .next (settle s)

/-- A response completes the request that its tag names, and a response that no request awaits is discarded as stray. On
HAP_MASTER_RESPONSE with a whole response of the length its request asked for: GOOD removes the request and hands its data to
the feature that asked. A status other than GOOD removes it too, records TGTERR, NOTGT or POISON in HAP_ERR and hands over the
status without data. A response to a tag neither outstanding nor quarantined changes no request and sets HAP_ERR.STRAY, but for
the tag of a request that the isolation wrapper completed, whose response is discarded without a mark. One to a quarantined tag
ends the quarantine and sets STRAY. (A request here is one whose feature takes its result in a row of its own; its tag may then
serve for the write of an event. What becomes of a response to a tag that is not outstanding is log entry 15.) (R43, R46, R50,
R52, R458) -/
def Obligations.MasterResponseCompletesItsRequest : Prop :=
  (∀ (s : State) (m : MasterResp) (r : MReq), alive s = true → s.hap.out.find? (·.tag == m.tag.toNat) = some r → r.misfitAt = none →
    ownRow r.purpose = true → respFits r m = true → m.chk = .good → innerDoneNone s → s.rs.draining = none → s.hap.wait = [] →
    m.status = 0 → exec (.hapMasterResponse m) s = .next (settle {
      s with
      hap.mq := passUpTo r.tag s.hap.mq, hap.out := s.hap.out.filter (·.tag != r.tag), hap.wait := [], hap.done := s.hap.done ++ [⟨r.purpose, 0, m.data⟩] })) ∧
  (∀ (s : State) (m : MasterResp) (r : MReq), alive s = true → s.hap.out.find? (·.tag == m.tag.toNat) = some r → r.misfitAt = none →
    ownRow r.purpose = true → respFits r m = true → m.chk = .good → innerDoneNone s → s.rs.draining = none →
    (m.status = 1 ∨ m.status = 2 ∨ m.status = 3) → ∃ t, exec (.hapMasterResponse m) s = .next t ∧
      t.hap.done = s.hap.done ++ [⟨r.purpose, m.status.toNat, []⟩] ∧ (m.status = 1 → flagOn t Reg.HAP_ERR.TGTERR = true) ∧
      (m.status = 2 → flagOn t Reg.HAP_ERR.NOTGT = true) ∧ (m.status = 3 → flagOn t Reg.HAP_ERR.POISON = true) ∧
      (∀ x ∈ s.hap.out, x.tag ≠ r.tag → x ∈ t.hap.out) ∧
      (s.hap.wait = [] → ∀ x ∈ t.hap.out, x.tag = r.tag → ownRow x.purpose = false) ∧ t.be = s.be ∧ t.th = s.th ∧ t.rs = s.rs) ∧
  (∀ (s : State) (m : MasterResp), alive s = true → s.hap.out.any (·.tag == m.tag.toNat) = false →
    s.hap.quar.any (·.tag == m.tag.toNat) = false → s.hap.iso.contains m.tag.toNat = false → innerDoneNone s →
      s.rs.draining = none → ∃ t,
      exec (.hapMasterResponse m) s = .next t ∧ flagOn t Reg.HAP_ERR.STRAY = true ∧ t.hap.done = s.hap.done ∧
        t.hap.quar = s.hap.quar ∧
      (∀ x ∈ s.hap.out, x ∈ t.hap.out) ∧ t.be = s.be ∧ t.th = s.th ∧ t.rs = s.rs) ∧
  (∀ (s : State) (m : MasterResp), alive s = true → s.hap.out.any (·.tag == m.tag.toNat) = false →
    s.hap.iso.contains m.tag.toNat = true →
    m.chk = .good → innerDoneNone s → s.rs.draining = none → s.hap.wait = [] → exec (.hapMasterResponse m) s = .next (settle {
      s with
      hap.iso := s.hap.iso.filter (· != m.tag.toNat), hap.wait := [] })) ∧
  ∀ (s : State) (m : MasterResp), alive s = true → s.hap.out.any (·.tag == m.tag.toNat) = false →
    s.hap.iso.contains m.tag.toNat = false →
    s.hap.quar.any (·.tag == m.tag.toNat) = true → innerDoneNone s → s.rs.draining = none → ∃ t,
      exec (.hapMasterResponse m) s = .next t ∧ flagOn t Reg.HAP_ERR.STRAY = true ∧ t.hap.done = s.hap.done ∧
      t.hap.quar = s.hap.quar.filter (·.tag != m.tag.toNat) ∧ ∀ x ∈ s.hap.out, x ∈ t.hap.out

/-- A request with no response in time fails with TIMEOUT and its tag is quarantined, until the quarantine ends. HAP_TIMEOUT: the
request leaves those outstanding at the end of its TIMEOUT_US, its tag is quarantined, HAP_ERR.TIMEOUT is set and its feature
gets the status TIMEOUT. MISFIT_LAST_TIMEOUT: the tag of a misfit that no LAST followed is quarantined TIMEOUT_US after the
misfit. QUARANTINE_RELEASE ends a quarantine bound to the slave window 100 µs after the window opened, and one bound to a time
at that time. (R46, R458, R379, R370) -/
def Obligations.TimeoutsQuarantineTags : Prop :=
  (∀ (s : State) (g : BitVec 8) (r : MReq),
    s.hap.out.find? (fun r => r.tag == g.toNat && r.misfitAt.isNone && r.timeoutUs != 0) = some r → ownRow r.purpose = true →
    innerDoneNone s → s.rs.draining = none → ∃ t, exec (.hapTimeout g) s = .next t ∧
      t.now = max s.now (r.issuedAt + us r.timeoutUs) ∧
      flagOn t Reg.HAP_ERR.TIMEOUT = true ∧ t.hap.quar = s.hap.quar ++ [⟨g.toNat, .response⟩] ∧
      t.hap.done = s.hap.done ++ [⟨r.purpose, 8, []⟩] ∧ (∀ x ∈ t.hap.out, x.tag ≠ g.toNat) ∧
      (∀ x ∈ s.hap.out, x.tag ≠ g.toNat → x ∈ t.hap.out) ∧ t.be = s.be ∧ t.th = s.th ∧ t.rs = s.rs) ∧
  (∀ (s : State) (g : BitVec 8) (r : MReq) (at' : Nat),
    s.hap.out.find? (fun r => r.tag == g.toNat && r.misfitAt.isSome && r.timeoutUs != 0) = some r → r.misfitAt = some at' →
    s.rs.draining = none → ∃ t, exec (.misfitLastTimeout g) s = .next t ∧ t.now = max s.now (at' + us r.timeoutUs) ∧
      t.hap.quar = s.hap.quar ++ [⟨g.toNat, .response⟩] ∧ t.hap.done = s.hap.done ∧ (∀ x ∈ t.hap.out, x.tag ≠ g.toNat) ∧
      t.regs = s.regs ∧ t.be = s.be ∧ t.th = s.th) ∧
  (∀ (s : State) (g : BitVec 8), s.hap.quar.find? (·.tag == g.toNat) = some ⟨g.toNat, .window⟩ → hostOpen s = true →
    ∃ t, exec (.quarantineRelease g) s = .next t ∧ t.now = max s.now (s.rs.openAt + us 100) ∧
      t.hap.quar = s.hap.quar.filter (·.tag != g.toNat) ∧ (∀ x ∈ s.hap.out, x ∈ t.hap.out) ∧ t.regs = s.regs) ∧
  ∀ (s : State) (g : BitVec 8) (e : Nat), s.hap.quar.find? (·.tag == g.toNat) = some ⟨g.toNat, .atTime e⟩ →
    ∃ t, exec (.quarantineRelease g) s = .next t ∧ t.now = max s.now e ∧ t.hap.quar = s.hap.quar.filter (·.tag != g.toNat) ∧
      (∀ x ∈ s.hap.out, x ∈ t.hap.out) ∧ t.regs = s.regs

/-- No row of the master port ever leaves two outstanding requests with one tag, or a quarantined tag in use. From every state in
which the outstanding requests have different tags, below 256, none of them quarantined, HAP_MASTER_RESPONSE, HAP_TIMEOUT,
MISFIT_LAST_TIMEOUT and QUARANTINE_RELEASE, whatever they carry, leave such a state; and the issue of any new request keeps it.
(R44, R46, Safety.lean TagsInv) -/
def Obligations.TagsAreNeverShared : Prop :=
  (∀ (s t : State) (m : MasterResp), TagsInv s → exec (.hapMasterResponse m) s = .next t → TagsInv t) ∧
  (∀ (s t : State) (g : BitVec 8), TagsInv s → exec (.hapTimeout g) s = .next t → TagsInv t) ∧
  (∀ (s t : State) (g : BitVec 8), TagsInv s → exec (.misfitLastTimeout g) s = .next t → TagsInv t) ∧
  (∀ (s t : State) (g : BitVec 8), TagsInv s → exec (.quarantineRelease g) s = .next t → TagsInv t) ∧
  ∀ (s : State) (w : Bool) (addr beats cls : Nat) (sec : Bool) (data : List Byte) (p : Purpose), TagsInv s →
    TagsInv (hapReq s w addr beats cls sec data p)

/-- How an oscillator is judged stable, and how the reference source is selected, lost, switched and returned to. An oscillator is
judged stable at the end of its count, which for the hub PLL begins with the selection of a source. With CLK_MODE 11 and no
Timing Link 10 ms after the clocks release, a stable crystal is selected, and otherwise the RC oscillator, and the count of the
hub PLL begins. The first source that CLK_MODE puts first is selected as it becomes stable. Loss of the Timing Link or of the
crystal sets its TB_ERR bit, and where it is the source in use, or the one being switched to, starts a switch to the next source
that is stable and may be returned to; running on the RC oscillator after a loss sets HOLDOVER_RC. A completed switch sets the
new source and TB_ERR.SWITCH; rack time does not change. A source of higher priority that has been stable for REVERT_HOLD_MS is
returned to. (R63, R64, R66, R67, R68, R69, R70) -/
def Obligations.ReferenceSourcesAreChosen : Prop :=
  (∀ (s : State) (b : Nat), s.pins.vdd = true → s.tb.rcFrom = some b → ∃ t, exec (.oscStable .rc) s = .next t ∧
    t.now = max s.now (b + 40960) ∧
      t.tb.rcStable = true ∧ t.tb.rcFrom = none ∧ t.tb.rcStableAt = t.now ∧ t.regs = s.regs ∧ t.rs = s.rs ∧ t.hap = s.hap) ∧
  (∀ (s : State) (b : Nat), released s 2 = true → s.tb.pllStable = false → s.tb.pllFrom = some b →
    ∃ t, exec (.oscStable .pll) s = .next t ∧
      t.now = max s.now (b + 65536) ∧ t.tb.pllStable = true ∧ t.tb.src = s.tb.src ∧ t.regs = s.regs ∧ t.rs = s.rs ∧ t.hap = s.hap) ∧
  (∀ (s : State) (b : Nat), released s 2 = true → s.tb.tlOn = true → s.tb.tlFrom = some b → ∃ t, exec (.oscStable .tl) s = .next t ∧
      t.now = max s.now (b + 65536) ∧ t.tb.tlStable = true ∧ t.tb.tlStableAt = t.now ∧ t.tb.tlFrom = none ∧ t.tb.src = s.tb.src ∧
      (s.tb.waited = false → t.tb.switchTo = some .tl ∧ t.tb.waited = true ∧ t.tb.pllFrom = s.tb.pllFrom.or (some t.now)) ∧
      (s.tb.waited = true → s.tb.tlLost = false → aimSource s ≠ .tl → t.tb.switchTo = some .tl) ∧
      (s.tb.waited = true → s.tb.tlLost = true → t.tb.switchTo = s.tb.switchTo) ∧ t.regs = s.regs ∧ t.rs = s.rs) ∧
  (∀ (s : State) (b : Nat), released s 2 = true → s.tb.xtalOn = true → s.tb.xtalFrom = some b →
    ∃ t, exec (.oscStable .xtal) s = .next t ∧
      t.now = max s.now (b + 163840) ∧ t.tb.xtalStable = true ∧ t.tb.xtalStableAt = t.now ∧ t.tb.xtalFrom = none ∧
        t.tb.src = s.tb.src ∧
      (s.tb.waited = false → clkMode s = 2 → t.tb.switchTo = some .xtal ∧ t.tb.waited = true ∧
        t.tb.pllFrom = s.tb.pllFrom.or (some t.now)) ∧
      (s.tb.waited = false → clkMode s = 3 → t.tb.switchTo = s.tb.switchTo) ∧
      (s.tb.waited = true → s.tb.xtalLost = false → aimSource s = .rc → t.tb.switchTo = some .xtal) ∧ t.regs = s.regs ∧
        t.rs = s.rs) ∧
  (∀ s : State, released s 2 = true → s.tb.waited = false → clkMode s = 3 → ∃ t, exec .tlWaitTimeout s = .next t ∧
      t.now = max s.now (s.rs.stepAt + ms 10) ∧ t.tb.waited = true ∧
      t.tb.switchTo = some (if s.tb.xtalStable then .xtal else .rc) ∧ t.tb.pllFrom = s.tb.pllFrom.or (some t.now) ∧
        t.regs = s.regs ∧ t.be = s.be ∧ t.hap = s.hap) ∧
  (∀ s : State, released s 2 = true → s.tb.tlOn = true → ∃ t, exec .tlLoss s = .next t ∧ t.tb.tlStable = false ∧
    t.tb.tlLost = true ∧
      t.tb.marks = false ∧ t.tb.disagree = 0 ∧ t.tb.lostHigher = true ∧ t.tb.src = s.tb.src ∧ t.tb.time = s.tb.time ∧
      t.tb.switchTo = (if s.tb.src = .tl ∨ s.tb.switchTo = some .tl then some (if s.tb.xtalStable then .xtal else .rc) else s.tb.switchTo) ∧
      flagOn t Reg.TB_ERR.TL_LOSS = true ∧ (s.tb.src = .rc → flagOn t Reg.TB_ERR.HOLDOVER_RC = true) ∧ t.be = s.be ∧ t.cc = s.cc) ∧
  (∀ s : State, released s 2 = true → s.tb.xtalOn = true → ∃ t, exec .xtalLoss s = .next t ∧ t.tb.xtalStable = false ∧
    t.tb.xtalLost = true ∧
      t.tb.xtalFrom = some s.now ∧ t.tb.lostHigher = true ∧ t.tb.src = s.tb.src ∧ t.tb.time = s.tb.time ∧
      t.tb.switchTo = (if s.tb.src = .xtal ∨ s.tb.switchTo = some .xtal then
        some (if clkMode s == 3 && mayReturn s s.tb.tlStable s.tb.tlLost s.tb.tlStableAt then .tl else .rc) else s.tb.switchTo) ∧
      flagOn t Reg.TB_ERR.XTAL_LOSS = true ∧ (s.tb.src = .rc → flagOn t Reg.TB_ERR.HOLDOVER_RC = true) ∧ t.be = s.be ∧
        t.cc = s.cc) ∧
  (∀ (s : State) (x : Src), s.tb.switchTo = some x → ∃ t, exec .sourceSwitch s = .next t ∧ t.tb.src = x ∧ t.tb.switchTo = none ∧
      (s.tb.src ≠ x → flagOn t Reg.TB_ERR.SWITCH = true) ∧
        (s.tb.src ≠ x → x = .rc → s.tb.lostHigher = true → flagOn t Reg.TB_ERR.HOLDOVER_RC = true) ∧
      (s.tb.src = x → t.regs = s.regs) ∧ t.tb.time = s.tb.time ∧ t.be = s.be ∧ t.cc = s.cc ∧ t.now = s.now) ∧
  (∀ s : State, s.tb.switchTo = none → exec .sourceSwitch s = .next (settle s)) ∧
  (∀ s : State, released s 2 = true → getF s Reg.TB_CFG.REVERT_HOLD_MS ≠ 0 → s.tb.tlStable = true → clkMode s = 3 → s.tb.src ≠ .tl →
    ∃ t, exec (.revertToSource .tl) s = .next t ∧ t.tb.switchTo = some .tl ∧ t.tb.src = s.tb.src ∧
      t.now = max s.now (s.tb.tlStableAt + ms (getF s Reg.TB_CFG.REVERT_HOLD_MS)) ∧ t.regs = s.regs ∧ t.be = s.be) ∧
  (∀ s : State, released s 2 = true → getF s Reg.TB_CFG.REVERT_HOLD_MS ≠ 0 → s.tb.xtalStable = true →
    (clkMode s = 3 ∨ clkMode s = 2) → s.tb.src = .rc →
    ∃ t, exec (.revertToSource .xtal) s = .next t ∧ t.tb.switchTo = some .xtal ∧ t.tb.src = .rc ∧
      t.now = max s.now (s.tb.xtalStableAt + ms (getF s Reg.TB_CFG.REVERT_HOLD_MS)) ∧ t.regs = s.regs ∧ t.be = s.be) ∧
  ∀ (s : State) (x : Src), getF s Reg.TB_CFG.REVERT_HOLD_MS = 0 → exec (.revertToSource x) s = .next (settle s)

/-- What CDR lock, a Timing Link frame, a missed mark, a slewed cycle and a trim window do to rack time and trim. CDR lock measures
the pin latency, at most 200 ns, and starts the stability count of a link that is not stable. A frame with a bad CRC counts in
CRC_ERRS and sets TB_ERR.TL_CRC, and a missed mark counts in MISSED_MARKS; the third in a row of either loses the link. The
first good frame with TIME_VALID on the Timing Link loads the counter with its time plus the offset. A good frame with
TIME_VALID whose field does not follow the one before sets TB_ERR.TL_TIME, whatever the source. The fourth consecutive frame
that disagrees starts a slew of a difference up to 100 µs. A slewed cycle moves the counter 1 ns toward the Timing Link. A trim
window that counts more than 1 below the count expected raises the trim code by 1, one that counts more than 1 above lowers it
by 1 and a code at its limit sets TRIM_LIMIT instead. (The model's choices: the sense of a trim step and that marks cease with
the first one missed, log entry 72; TB_OFFSET taken to the nearest ns, a tie to even, log entry 34; a slew that goes on whatever
the source, log entry 80.) (R63, R64, R71, R73, R74, R75, R76) -/
def Obligations.TimingLinkCarriesRackTime : Prop :=
  (∀ (s : State) (ps : Nat), released s 2 = true → s.tb.tlOn = true → exec (.cdrLock ps) s = .next (settle {
      s with
      tb.pinLatPs := min ps 200000, tb.pinMeasured := true, tb.tlFrom := if s.tb.tlStable then none else some s.now })) ∧
  (∀ (s : State) (f : TlFrame), released s 2 = true → s.tb.tlOn = true → crc16 (leBytes 8 f.time.toNat ++ [f.flags]) ≠ f.crc.toNat →
    ∃ t, exec (.tlFrame f) s = .next t ∧ getF t Reg.TB_TL_CNT.CRC_ERRS = min (2 ^ Reg.TB_TL_CNT.CRC_ERRS.w - 1) (getF s Reg.TB_TL_CNT.CRC_ERRS + 1) ∧
      getF t Reg.TB_ERR.TL_CRC = 1 ∧ t.tb.time = (frameTick s).tb.time ∧ t.tb.aligned = s.tb.aligned ∧ t.be = s.be ∧
      (s.tb.badMarks < 2 → t.tb.badMarks = s.tb.badMarks + 1 ∧ t.tb.tlStable = s.tb.tlStable ∧ t.hap = s.hap) ∧
      (2 ≤ s.tb.badMarks → t.tb.tlStable = false ∧ flagOn t Reg.TB_ERR.TL_LOSS = true)) ∧
  (∀ (s : State) (f : TlFrame), released s 2 = true → s.tb.tlOn = true → crc16 (leBytes 8 f.time.toNat ++ [f.flags]) = f.crc.toNat →
    f.flags.getLsbD 0 = true → s.tb.src = .tl → s.tb.lastField = none → s.tb.aligned = false →
    ∃ t, exec (.tlFrame f) s = .next t ∧ t.tb.aligned = true ∧ t.tb.marks = true ∧ t.tb.valid = true ∧ t.tb.badMarks = 0 ∧
      t.tb.time = (f.time.toNat + (roundEven (tbOffset s) 1000).toNat) % 2 ^ 64 ∧ t.tb.lastField = some f.time.toNat ∧
        t.regs = s.regs ∧
      t.be = s.be ∧ t.hap = s.hap) ∧
  (∀ (s : State) (f : TlFrame) (n : Nat), released s 2 = true → s.tb.tlOn = true →
    crc16 (leBytes 8 f.time.toNat ++ [f.flags]) = f.crc.toNat →
    f.flags.getLsbD 0 = true → (frameTick s).tb.lastField = some n → n ≠ f.time.toNat →
    ∃ t, exec (.tlFrame f) s = .next t ∧ flagOn t Reg.TB_ERR.TL_TIME = true ∧ t.tb.disagree = 1 ∧
      t.tb.time = (frameTick s).tb.time ∧
      t.tb.lastField = some f.time.toNat ∧ t.be = s.be ∧ t.hap = s.hap) ∧
  (∀ (s : State) (f : TlFrame), released s 2 = true → s.tb.tlOn = true → crc16 (leBytes 8 f.time.toNat ++ [f.flags]) = f.crc.toNat →
    f.flags.getLsbD 0 = true → s.tb.src = .tl → (frameTick s).tb.lastField = some f.time.toNat → s.tb.aligned = true →
      s.tb.disagree = 3 →
    s.tb.slewLeft = 0 → frameDiff (frameTick s) f.time.toNat ≠ 0 → (frameDiff (frameTick s) f.time.toNat).natAbs ≤ 100000 →
    ∃ t, exec (.tlFrame f) s = .next t ∧ t.tb.slewLeft = frameDiff (frameTick s) f.time.toNat ∧ t.tb.time = (frameTick s).tb.time ∧
      t.tb.disagree = 0 ∧ t.regs = s.regs) ∧
  (∀ s : State, released s 2 = true → s.tb.tlOn = true → ∃ t, exec .tlMarkMissed s = .next t ∧ t.tb.marks = false ∧
      getF t Reg.TB_TL_CNT.MISSED_MARKS = min (2 ^ Reg.TB_TL_CNT.MISSED_MARKS.w - 1) (getF s Reg.TB_TL_CNT.MISSED_MARKS + 1) ∧
      t.tb.time = (frameTick s).tb.time ∧ t.be = s.be ∧
      (s.tb.badMarks < 2 → t.tb.badMarks = s.tb.badMarks + 1 ∧ t.tb.tlStable = s.tb.tlStable ∧ t.hap = s.hap) ∧
      (2 ≤ s.tb.badMarks → t.tb.tlStable = false ∧ flagOn t Reg.TB_ERR.TL_LOSS = true)) ∧
  (∀ s : State, released s 2 = true → s.tb.slewLeft ≠ 0 → ∃ t, exec .slewCycle s = .next t ∧
      t.now = max s.now (s.tb.slewAt + 250) ∧ t.tb.slewLeft = s.tb.slewLeft - s.tb.slewLeft.sign ∧
      (t.tb.time : Int) = ((advanceTo s (s.tb.slewAt + 250)).tb.time + s.tb.slewLeft.sign) % (2 ^ 64 : Nat) ∧
        t.tb.slewAt = t.now ∧ t.regs = s.regs) ∧
  ∀ (s : State) (n : Nat), released s 2 = true → trimRef s ≠ 0 → windowEnds s = true → ∃ t, exec (.trimWindow n) s = .next t ∧
    (trimRef s ≠ 3 → t.now = max s.now (s.tb.trimFrom + 2560)) ∧ t.tb.trimFrom = t.now ∧ t.tb.trimMarks = 0 ∧
    (n + 1 < trimExpect s → getF s Reg.TB_TRIM.CODE ≠ 0x3FF → getF t Reg.TB_TRIM.CODE = (getF s Reg.TB_TRIM.CODE + 1) % 1024) ∧
    (n + 1 < trimExpect s → getF s Reg.TB_TRIM.CODE = 0x3FF → getF t Reg.TB_TRIM.CODE = 0x3FF ∧ getF t Reg.TB_ERR.TRIM_LIMIT = 1) ∧
    (trimExpect s + 1 < n → getF s Reg.TB_TRIM.CODE ≠ 0 → getF t Reg.TB_TRIM.CODE = (getF s Reg.TB_TRIM.CODE - 1) % 1024) ∧
    (trimExpect s + 1 < n → getF s Reg.TB_TRIM.CODE = 0 → getF t Reg.TB_TRIM.CODE = 0 ∧ getF t Reg.TB_ERR.TRIM_LIMIT = 1) ∧
    (n ≤ trimExpect s + 1 → trimExpect s ≤ n + 1 → t.regs = s.regs) ∧ t.be = s.be ∧ t.hap = s.hap

/-- A lower level goes out at once, a higher one waits for its rail to settle, and a settle that fails drops it. VFS_LEVEL_CHANGE
with a lower level granted orders it at once and drops any raise that waits; with a higher one, on a cluster with power and a
rail UP with no VFS fault, it makes the raise wait. VFS_SETTLED orders every level that waits on the rail. VFS_SETTLE_TIMEOUT
drops them, sets VFS_STATUS.FAULT for the rail and raises time-base event 0x10. A level order is applied by its tile agent,
which CC_ERR records where it was orphaned, and its report is taken while its control core or the reserve complex carries its
duties. A level granted that is the one commanded changes nothing. (R78, R79, R81, R34, R195, R248, R350) -/
def Obligations.VoltageFrequencySequencing : Prop :=
  (∀ (s : State) (k : Nat), released s 6 = true → (mfTile s k).present = true → grantLevel s k < (tile s k).cmd →
    exec (.vfsLevelChange k) s = .next (settle (vfsFollow (setTile s k { orderLevel (tile s k) (grantLevel s k) with raise := none })
      (mfTile s k).rail)) ∧ (orderLevel (tile s k) (grantLevel s k)).cmd = grantLevel s k) ∧
  (∀ (s : State) (k : Nat), released s 6 = true → (mfTile s k).present = true → (tile s k).cmd = grantLevel s k →
    exec (.vfsLevelChange k) s = .next (settle s)) ∧
  (∀ (s : State) (k : Nat), released s 6 = true → (mfTile s k).present = true → (tile s k).cmd < grantLevel s k →
    (tile s k).pwrOk = true →
    vfsFault s (mfTile s k).rail = false → (rail s (mfTile s k).rail).st = .up →
    exec (.vfsLevelChange k) s = .next (settle (vfsFollow (setTile s k { tile s k with raise := some (grantLevel s k) }) (mfTile s k).rail))) ∧
  (∀ (s : State) (r at' : Nat), (rail s r).vfsOk = some at' → released s 6 = true → (vfsRail s r).raising = true →
    ∃ t, exec (.vfsSettled r) s = .next t ∧ t.now = max s.now (at' + us (getF s Reg.VFS_CFG.SETTLE_US)) ∧
      (∀ k ∈ railTiles s r, ∀ j, (tile s k).raise = some j → (tile t k).cmd = j ∧ (tile t k).raise = none) ∧
      (vfsRail t r).raising = false ∧ (rail t r).vfsOk = none ∧ t.hap = s.hap ∧ t.be = s.be) ∧
  (∀ (s : State) (r at' : Nat), (rail s r).vfsAt = some at' → released s 6 = true → (vfsRail s r).raising = true → r < 12 →
    ∃ v, exec (.vfsSettleTimeout r) s = .next (settle (raiseEvent v 2 0x10 (railUnit r) (tbDetail v 0 r))) ∧
      v.now = max s.now (at' + us 100) ∧
      vfsFault v r = true ∧ (∀ k ∈ railTiles s r, (tile v k).raise = none ∧ (tile v k).cmd = (tile s k).cmd) ∧
      (vfsRail v r).raising = false ∧ v.hr = s.hr ∧ v.hap = s.hap ∧ v.be = s.be) ∧
  (∀ (s : State) (k : Nat), released s 6 = true → tileDutyRuns s k = true → (tile s k).orphan = false →
    exec (.tileLevelReport k) s = .next (settle (vfsFollow (setTile s k { tile s k with applied := (tile s k).level }) (mfTile s k).rail))) ∧
  ∀ (s : State) (k j : Nat), (tile s k).order = some j → tileRuns s k = true →
    exec (.levelOrder k) s = .next (settle (setTile (seeOrphan s k) k { applyLevel s (tile s k) j with
      order := none, orphanSeen := (tile s k).orphan, msgAt := s.now }))

/-- Write-back from an accumulator rounds to nearest with ties to even, saturates, and marks a saturation in BE_ARITH.WB_SAT. For
every accumulator value, the result and the saturation are those of the function of R92: the arithmetic shift by 15, one more
where the bits shifted out exceed half or equal it with an odd quotient, limited to 32,767 and -32,768 with the saturation
noted. The six rows of its table hold. An evaluation in which a write-back saturated leaves BE_ARITH.WB_SAT at 1. (R92) -/
def Obligations.WriteBackRoundsToEven : Prop :=
  (∀ acc : Int, wbVal acc = (
    let q : Int := acc.fdiv 32768
    let rem : Int := acc.fmod 32768
    let r := if 0x4000 < rem ∨ (rem = 0x4000 ∧ q % 2 = 1) then q + 1 else q
    if 32767 < r then (32767, true) else if r < -32768 then (-32768, true) else (r, false))) ∧
  (wbVal 0x4000 = (0, false) ∧ wbVal 0xC000 = (2, false) ∧ wbVal 0x14000 = (2, false) ∧ wbVal (-0x4000) = (0, false) ∧
    wbVal (-0xC000) = (-2, false) ∧ wbVal 0x40000000 = (32767, true)) ∧
  ∀ (s : State) (l : Nat), (loop (applyOldest s l) l).srcAbs = false →
    (lpEval (loop (applyOldest s l) l) (loop (applyOldest s l) l).y (loop (applyOldest s l) l).s).2.2 = true →
    getF (evalLoop [] s l) Reg.BE_ARITH.WB_SAT = 1

/-- A loop with RATE_DIV n is due in one frame out of n + 1, and a loop that is not due holds its outputs and integrator state. A
loop is due in frame f exactly when f mod (n + 1) equals its number mod (n + 1), with n its RATE_DIV; with n = 0 it is due in
every frame. The evaluation of a frame leaves a loop that is not due as it was, whatever else is evaluated. (R98) -/
def Obligations.LoopsAreDueByRate : Prop :=
  (∀ (f l : Nat) (x : Loop), lpDue f l x = true ↔ f % (lpDiv x + 1) = l % (lpDiv x + 1)) ∧
  (∀ (f l : Nat) (x : Loop), lpDiv x = 0 → lpDue f l x = true) ∧
  ∀ (bad : List (Nat × Nat)) (s : State) (l : Nat), (∀ p ∈ s.be.loops, p.1 = l →
    lpDue (getF s Reg.BE_FRAME.COUNT) p.1 p.2 = false) →
    loop (evalLoops bad s) l = loop s l

/-- One evaluation of a loop steps U against its error within its limits, and freezes the integrator while the output is saturated.
For every loop, measurement y and set-point S: with ALPHA 0, YF is y, and otherwise the write-back of YF, aligned, plus ALPHA
times the clamped difference of y and YF. E is the clamped distance of YF from the clamped band centre S + C. E above H steps U
down to no less than U_MIN and sets ABOVE, E below -H steps it up to no more than U_MAX and sets BELOW, and otherwise U holds.
The output is saturated and the integrator frozen, with IFRZ set, exactly when U after the step is U_MIN or U_MAX or tracking
reduced U; then CI holds, else it moves by the shifted product within C_MAX. C is the write-back of CI. A write-back that
saturates, and no clamp of a sum or difference, is what marks WB_SAT. (R93, R96, R97) -/
def Obligations.EvaluationFollowsTheLoopLaw : Prop :=
  ∀ (x : Loop) (y sp : Int) (z : Loop), z = (lpEval x y sp).1 → z.s = sp ∧ (lpAlpha x = 0 → z.yf = y) ∧
    (lpAlpha x ≠ 0 → z.yf = (wbVal (accAdd (x.yf * 32768) (lpAlpha x * sat16 (y - x.yf))).1).1) ∧
    ((lpEval x y sp).2.2 = true ↔ (lpAlpha x ≠ 0 ∧ (wbVal (accAdd (x.yf * 32768) (lpAlpha x * sat16 (y - x.yf))).1).2 = true) ∨
      (wbVal z.ci).2 = true) ∧
    z.e = sat16 (z.yf - sat16 (sp + x.c)) ∧
    (lpH x < z.e → z.u = max (x.u - lpDn x) (lpMin x) ∧ z.above = true ∧ z.below = false) ∧
    (z.e < -lpH x → z.u = min (x.u + lpUp x) (lpMax x) ∧ z.above = false ∧ z.below = true) ∧
    (z.e ≤ lpH x → -lpH x ≤ z.e → z.u = x.u ∧ z.above = false ∧ z.below = false) ∧
    (z.ifrz = true ↔ z.u = lpMin x ∨ z.u = lpMax x ∨ x.tracked = true) ∧ (z.sat = true ↔ z.u = lpMin x ∨ z.u = lpMax x) ∧
    (z.ifrz = true → z.ci = x.ci) ∧
    (z.ifrz = false → z.ci = clampInt (-(lpCMax x * 32768)) (lpCMax x * 32768)
      (accAdd x.ci (-(asr (lpKi x * sat16 (z.yf - sp)) (lpShift x)))).1) ∧
    z.c = (wbVal z.ci).1 ∧ z.w0 = x.w0 ∧ z.w1 = x.w1 ∧ z.w5 = x.w5

/-- The arbitrated value of each actuator of a running domain is the lowest U of the running loops that drive it, and losers track
it. After the arbitration of a frame, the value of an actuator whose domain runs is at most the U of every enabled loop of a
running domain that drives it, and is the U of one of them, or 0x7FFF where none does. An actuator of a stopped domain keeps its
value. A loop with TRK_EN that wins nothing and whose source is present takes the lower of its U and the lowest arbitrated value
of its actuators plus 32 times its margin, and TRACKED says whether that reduced it. (R100, R101, R95) -/
def Obligations.ArbitrationTakesTheLowest : Prop :=
  (∀ (s : State) (a : Nat), a ∈ allActs s → bitAt s.be.stopped (actDom s a) = false →
    (∀ p ∈ s.be.loops, lpRuns s p.2 = true → a ∈ actsOf s (lpAct p.2) → tget 0x7FFF (arbitrate s).be.arb a ≤ p.2.u.toNat) ∧
    ((∃ p ∈ s.be.loops, lpRuns s p.2 = true ∧ a ∈ actsOf s (lpAct p.2) ∧ tget 0x7FFF (arbitrate s).be.arb a = p.2.u.toNat) ∨
      ((∀ p ∈ s.be.loops, lpRuns s p.2 = true → a ∉ actsOf s (lpAct p.2)) ∧ tget 0x7FFF (arbitrate s).be.arb a = 0x7FFF))) ∧
  (∀ (s : State) (a : Nat), bitAt s.be.stopped (actDom s a) = true → tget 0x7FFF (arbitrate s).be.arb a = tget 0x7FFF s.be.arb a) ∧
  ∀ (s : State) (x : Loop) (m : Int), (∀ a ∈ actsOf s (lpAct x), m ≤ (tget 0x7FFF s.be.arb a : Nat)) → m ≤ 0x7FFF →
    ((∃ a ∈ actsOf s (lpAct x), m = (tget 0x7FFF s.be.arb a : Nat)) ∨ m = 0x7FFF) → lpTrk x = true → x.win = false →
      x.srcAbs = false →
    (lpTrack s x).u = min x.u (m + lpMargin x * 32) ∧ ((lpTrack s x).tracked = true ↔ (lpTrack s x).u < x.u)

/-- A stop holds each actuator of the domain at the lower of its Brim value and its value at the boundary, and freezes the domain.
When a running domain stops, its bit in BE_STATUS.STOPPED is set, each of its actuators presents the lower of its Brim value and
the value it had, and no loop of the domain runs. Its pending live words are applied, in their order, and no longer pending, and
those of other domains stay pending. The domains that are not stopped by it stay as they are. (R115, R117) -/
def Obligations.StoppedDomainIsHeldUnderTheBrim : Prop :=
  ∀ (s : State) (d : Nat), d < 16 → bitAt s.be.stopped d = false → bitAt (stopDom s d).be.stopped d = true ∧
    (∀ a ∈ allActs s, actDom s a = d → actVal (stopDom s d) a = min (brimVal s a) (actVal s a)) ∧
    (∀ x : Loop, lpDom x = d → lpRuns (stopDom s d) x = false) ∧
    (stopDom s d).be.words = s.be.words.filter (fun w => !(lpDom (loop s w.loop) == d)) ∧
    (∀ l, loop (stopDom s d) l = (s.be.words.filter (fun w => lpDom (loop s w.loop) == d && w.loop == l)).foldl
      (fun x w => { putWord x w.idx w.val with ue := x.ue.filter (· != w.idx), dirty := x.dirty || decide (2 ≤ w.idx) }) (loop s l)) ∧
    (∀ k, k ≠ d → k < 16 → bitAt (stopDom s d).be.stopped k = bitAt s.be.stopped k) ∧ (stopDom s d).regs = s.regs ∧
    (stopDom s d).cc = s.cc ∧ (stopDom s d).pc = s.pc

/-- A tick of a profile generator keeps its velocity, acceleration and jerk limits and lands on its target without passing it. For
every generator and positive limits: after a tick |v| is at most Vm; |a| is at most Am where it was before; a changes by at most
Jm, or the generator has landed with x on the target and v and a cleared. A generator that stands short of its target and has
not landed is still short of it on the same side. (R103) -/
def Obligations.ProfileGeneratorKeepsItsLimits : Prop :=
  ∀ (vm am jm : Int) (g h : Pg), 0 < vm → 0 < am → 0 < jm → h = pgStep vm am jm g → h.t = g.t ∧ -vm ≤ h.v ∧ h.v ≤ vm ∧
    (-am ≤ g.a → g.a ≤ am → -am ≤ h.a ∧ h.a ≤ am) ∧ ((h.x = g.t ∧ h.v = 0 ∧ h.a = 0) ∨ (-jm ≤ h.a - g.a ∧ h.a - g.a ≤ jm)) ∧
    (g.x < g.t → h.x ≤ g.t) ∧ (g.t < g.x → g.t ≤ h.x) ∧ (vm = 0x7FFFFFFF → am = 0x7FFFFFFF → jm = 0x7FFFFFFF → g.v = 0 → g.a = 0 →
      0 < g.t - g.x → g.t - g.x ≤ 0x7FFFFFFF → h.x = g.t)

/-- The order of the work at a frame boundary and at a 100 ns tick. BE_FRAME takes place 500 ns after the last boundary: the frame
that ends is evaluated and arbitrated, or discarded where a lane failed, at the boundary as a hub fault or earlier in the frame,
the frame counter advances, the first frame of a restart and the ceilings of a brake that is over end, the stops and starts that
wait apply, the units that work once a frame follow, the inputs of the next frame are latched, and watches and a due snapshot
come last. PROFILE_TICK takes place 100 ns after the last tick: every generator steps, generator 0 first, then the dispenser
releases or recalls credits, feed-forward follows, the tick messages leave and counts of grants are transferred. While sub-block
0x06 is in reset, what belongs to it is left out and the rest goes on. Before step 6 a frame does nothing but scan for grants,
and a tick nothing. (The order of the work within a boundary and a tick, and what goes on while sub-block 0x06 is in reset, are
the model's choice, log entry 37.) (R89, R94, R102, R103, R125, R188, notes/assumptions/37.md) -/
def Obligations.BandEngineFrameAndTick : Prop :=
  (∀ (s u e v w x : State) (obs : FrameObs), released s 6 = true → beRuns s = true → u = { advanceTo s (s.be.frameAt + 125) with
      be.frameAt := max s.now (s.be.frameAt + 125) } →
    e = (if obs.laneFail then hubFault .lane u else u) →
    v = { if e.be.laneBad then e else arbitrate (evalLoops obs.badWords e) with be.laneBad := false } →
    w = setF v Reg.BE_FRAME.COUNT (getF v Reg.BE_FRAME.COUNT + 1) →
    x = frameSnapshot (frameWatches (latchLoops (frameUnits (frameReqs (carryDoms (checkBad obs.badWords
      (liftBrake (if e.be.laneBad then w else { w with be.firstFrame := 0, be.carried := 0 })))))))) →
    exec (.beFrame obs) s = .next (grantTiles (settle (lowerAll { x with hr.telPf := x.hr.telPf + chipPower x, hr.telN := x.hr.telN + 1 })))) ∧
  (∀ (s u x : State) (obs : FrameObs), released s 6 = true → beRuns s = false → u = { advanceTo s (s.be.frameAt + 125) with
      be.frameAt := max s.now (s.be.frameAt + 125) } →
    x = frameSnapshot (frameWatches (frameUnits (liftBrake u))) →
    exec (.beFrame obs) s = .next (grantTiles (settle (lowerAll { x with hr.telPf := x.hr.telPf + chipPower x, hr.telN := x.hr.telN + 1 })))) ∧
  (∀ (s u : State), released s 6 = true → beRuns s = true → u = { advanceTo s (s.be.tickAt + 25) with
      be.tickAt := max s.now (s.be.tickAt + 25) } →
    exec .profileTick s = .next (settle (grantTiles (lwTransfer (pbTick (tickMessages (feedForward (dispense
      (((List.range 64).drop 1).foldl pgTick (pg0Tick u)))))))))) ∧
  (∀ (s u : State), released s 6 = true → beRuns s = false → u = { advanceTo s (s.be.tickAt + 25) with
      be.tickAt := max s.now (s.be.tickAt + 25) } →
    exec .profileTick s = .next (settle (grantTiles (lwTransfer (tickMessages (feedForward (dispense u))))))) ∧
  ∀ (s : State) (obs : FrameObs), released s 6 = false →
    exec (.beFrame obs) s = .next (grantTiles (settle s)) ∧ exec .profileTick s = .next (settle s)

/-- What LOOP_WRITE, LOOP_IMAGE_LOAD, DOMAIN_STOP, DOMAIN_START and WATCH_SET do with a descriptor that passes the checks of R319.
LOOP_WRITE of a loop that does not run applies its words in their order and completes OK; of one that runs it queues its live
words and completes when the last is applied, at once where it has none; a write of W0 or W1 of a running domain completes with
status 0x0009 and the domain. LOOP_IMAGE_LOAD reads its image: a read that fails completes with HAP_READ and its status, a
length other than its entries make with FORMAT, a running domain of DOM_MASK with 0x0009 and the domain, an image that fails a
check with FORMAT, and otherwise it replaces the loops of its domains and completes OK. While its read cannot be made, no master
tag being free or the mirror holding no entry yet, LOOP_IMAGE_LOAD waits with its descriptor. DOMAIN_STOP and DOMAIN_START queue
a request for the next frame boundary. WATCH_SET arms or clears a watch and completes OK. (That a wrong length is FORMAT and
comes first, before a running domain and the checks of the image, is the model's choice, log entries 20 and 38; that the row
stands for the end of its reads is log entry 8.) (R330, R110, R111, R123, R325, R425, R427) -/
def Obligations.BandEngineCommands : Prop :=
  (∀ (s u : State) (n : Nat) (d : List Byte) (f : Flight), Turn s n d → dOp d = 0x10 → Passes s n d .loopWrite (lwSpec d) →
    (u, f) = takeHead s n d .loopWrite →
    (∀ k, lwRunning u (loop u (dTarget d % 2 ^ 24)) (lwWords d) = some k →
      exec .loopWrite s = .next (settle (complete u f 0x0009 k))) ∧
    (lwRunning u (loop u (dTarget d % 2 ^ 24)) (lwWords d) = none → loopLive u (dTarget d % 2 ^ 24) = false →
      exec .loopWrite s = .next (settle (complete ((lwWords d).foldl (fun s p => applyWord s (dTarget d % 2 ^ 24) p.1 p.2
        (bitAt u.be.stopped (lpDom (loop u (dTarget d % 2 ^ 24))))) u) f 0 0))) ∧
    (lwRunning u (loop u (dTarget d % 2 ^ 24)) (lwWords d) = none → loopLive u (dTarget d % 2 ^ 24) = true →
      (lwWords d).any (fun p => decide (2 ≤ p.1)) = false → exec .loopWrite s = .next (settle (complete u f 0 0))) ∧
    (lwRunning u (loop u (dTarget d % 2 ^ 24)) (lwWords d) = none → loopLive u (dTarget d % 2 ^ 24) = true →
      (lwWords d).any (fun p => decide (2 ≤ p.1)) = true → exec .loopWrite s = .next (settle (setJob {
        u with
        be.words := u.be.words ++ queueWords (dTarget d % 2 ^ 24) f.key ((lwWords d).filter (fun p => decide (2 ≤ p.1))) } f .loopWrite)))) ∧
  (∀ (l key : Nat) (w : Nat × Nat) (ws : List (Nat × Nat)), (queueWords l key (w :: ws)).map (fun w => (w.loop, w.idx, w.val)) =
      (w :: ws).map (fun p => (l, p.1, p.2)) ∧ ((queueWords l key (w :: ws)).getLast?.bind (·.key)) = some key ∧
      ((queueWords l key (w :: ws)).filter (·.key.isSome)).length = 1) ∧
  (∀ (s u v : State) (n : Nat) (d bs img : List Byte) (f : Flight) (corr : Bool), Turn s n d → dOp d = 0x11 →
    Passes s n d .taken (loadSpec true d) →
    readOpen s 0 = true → (u, f) = takeHead s n d .taken → img = bs.take (leAt d 16 4) →
      v = readDone corr u f (leAt d 8 8) (leAt d 16 4) 0 →
    (64 + 64 * imgCount img ≠ leAt d 16 4 → exec (.loopImageLoad (.data bs corr)) s = .next (settle (complete v f 0x0012 0))) ∧
    (∀ k, 64 + 64 * imgCount img = leAt d 16 4 → (bitList (imgMask img) 16).find? (fun k => !bitAt v.be.stopped k) = some k →
      exec (.loopImageLoad (.data bs corr)) s = .next (settle (complete v f 0x0009 k))) ∧
    (64 + 64 * imgCount img = leAt d 16 4 → (bitList (imgMask img) 16).find? (fun k => !bitAt v.be.stopped k) = none →
      exec (.loopImageLoad (.data bs corr)) s = .next (settle (if imgOk img then complete (loadImage v img) f 0 0 else complete v f 0x0012 0)))) ∧
  (∀ (s u : State) (n : Nat) (d : List Byte) (f : Flight) (st : BitVec 4), Turn s n d → dOp d = 0x11 →
    Passes s n d .taken (loadSpec true d) →
    readOpen s 0 = true → (u, f) = takeHead s n d .taken →
      exec (.loopImageLoad (.fail st)) s = .next (settle (readFail u f (leAt d 8 8) (leAt d 16 4) 0 st.toNat)) ∧
      ∃ v, readFail u f (leAt d 8 8) (leAt d 16 4) 0 st.toNat = complete v f 0x0010 (max 1 (normStatus st.toNat)) ∧ v.be = u.be) ∧
  (∀ (s : State) (n : Nat) (d : List Byte) (m : MemRead), Turn s n d → dOp d = 0x11 → Passes s n d .taken (loadSpec true d) →
    readOpen s 0 = false → exec (.loopImageLoad m) s = .next (settle s)) ∧
  (∀ (s u : State) (n : Nat) (d : List Byte) (f : Flight), Turn s n d → Passes s n d .domReq (domSpec d) →
    (u, f) = takeHead s n d .domReq →
    (dOp d = 0x12 → exec .domainStop s = .next (settle (setJob { u with
      be.reqs := u.be.reqs ++ [⟨false, leAt d 8 2, bitAt (byteAt d 10) 0, some f.key⟩] } f .domReq))) ∧
    (dOp d = 0x13 → exec .domainStart s = .next (settle (setJob { u with
      be.reqs := u.be.reqs ++ [⟨true, leAt d 8 2, bitAt (byteAt d 10) 0, some f.key⟩] } f .domReq)))) ∧
  ∀ (s u : State) (n : Nat) (d : List Byte) (f : Flight), Turn s n d → dOp d = 0x60 → Passes s n d .taken (watchSpec s d) →
    (u, f) = takeHead s n d .taken →
    (byteAt d 9 = 1 → exec .watchArm s = .next (settle (complete (setWatch u (byteAt d 8) (armWatch (watchOf d))) f 0 0))) ∧
    (byteAt d 9 = 0 → exec .watchClear s = .next (settle (complete (setWatch u (byteAt d 8) {}) f 0 0)))

/-- A fire takes every participating phase of the rail, and its end returns them to ACTIVE. UVF_RISE on a described rail that
accepts UVF and can fire: at the earliest 40 ns after the last fire, every port of the rail in STANDBY, JOINING, ACTIVE or
DRAINING is in FIRE, a drain is aborted and the fire is counted. FIRE_END, at the earliest 20 ns later with UVF low and the
voltage recovered, returns every port in FIRE to ACTIVE and starts the hold on shedding. FIRE_MAX_EXPIRY ends the fire too and
sets FLT.FIRE_MAX. FIRE_HOLD_EXPIRY ends the hold. Levels of clusters and the Band Engine do not change. (That a fire called
within 40 ns of the end of the last one starts at 40 ns is a reading of the model, log entry 43.) (R158, R159, R160, R161) -/
def Obligations.FireTakesEveryPhase : Prop :=
  (∀ (s : State) (r : Nat), pcRuns s = true → (mfRail s r).isSome = true → getPc s (Reg.RAIL_FIRE.UVF_EN r) = 1 →
    canFire s r = true →
    ∃ t, exec (.uvfRise r) s = .next t ∧ t.now = max s.now ((rail s r).fireEndAt + 10) ∧ (rail t r).firing = true ∧
      (rail t r).fireAt = t.now ∧ (rail t r).drain = none ∧
      (∀ p ∈ railPorts s r, ((port s p).st = .standby ∨ (port s p).st = .joining ∨ (port s p).st = .active ∨ (port s p).st = .draining) →
        (port t p).st = .fire) ∧
      (∀ p, p ∉ railPorts s r → (port t p).st = (port s p).st) ∧ (∀ q, q ≠ r → rail t q = rail s q) ∧
      (∀ k, (tile t k).applied = (tile s k).applied ∧ (tile t k).level = (tile s k).level) ∧ t.be = s.be ∧ t.hap = s.hap ∧
      getF t (Reg.RAIL_CNT.FIRES r) = satAdd (2 ^ (Reg.RAIL_CNT.FIRES r).w - 1) (getF s (Reg.RAIL_CNT.FIRES r)) 1) ∧
  (∀ (s : State) (r : Nat), pcRuns s = true → (rail s r).firing = true → uvfHigh s r = false →
    (getPc s (Reg.RAIL_FIRE.FIRE_UV_MV r) = 0 ∨ deficit s r ≤ 2 * getPc s (Reg.RAIL_FIRE.FIRE_UV_MV r)) →
    ∃ t, exec (.fireEnd r) s = .next t ∧ t.now = max s.now ((rail s r).fireAt + 5) ∧ (rail t r).firing = false ∧
      (rail t r).fireEndAt = t.now ∧ ((rail t r).fireHold = true ↔ getPc s (Reg.RAIL_FIRE.FIRE_HOLD_US r) ≠ 0) ∧
      (∀ p ∈ railPorts s r, (port s p).st = .fire → (port t p).st = .active) ∧ (∀ q, q ≠ r → rail t q = rail s q) ∧
        t.regs = s.regs ∧
      (∀ k, (tile t k).applied = (tile s k).applied ∧ (tile t k).level = (tile s k).level) ∧ t.be = s.be ∧ t.hap = s.hap) ∧
  (∀ (s : State) (r : Nat), pcRuns s = true → (rail s r).firing = true →
    ∃ t, exec (.fireMaxExpiry r) s = .next t ∧ t.now = max s.now ((rail s r).fireAt + getPc s (Reg.RAIL_FIRE.FIRE_MAX r)) ∧
      (rail t r).firing = false ∧ getF t (Reg.RAIL_FLT.FIRE_MAX r) = 1 ∧
      (∀ p ∈ railPorts s r, (port s p).st = .fire → (port t p).st = .active) ∧ (∀ q, q ≠ r → rail t q = rail s q) ∧
      (∀ k, (tile t k).applied = (tile s k).applied ∧ (tile t k).level = (tile s k).level) ∧ t.be = s.be) ∧
  ∀ (s : State) (r : Nat), pcRuns s = true → (rail s r).fireHold = true →
    ∃ t, exec (.fireHoldExpiry r) s = .next t ∧
      t.now = max s.now ((rail s r).fireEndAt + us (getPc s (Reg.RAIL_FIRE.FIRE_HOLD_US r))) ∧
      rail t r = { rail s r with fireHold := false } ∧ (∀ q, q ≠ r → rail t q = rail s q) ∧ t.regs = s.regs ∧
      (∀ k, (tile t k).applied = (tile s k).applied ∧ (tile t k).level = (tile s k).level) ∧ t.be = s.be ∧ t.hap = s.hap

/-- The steps of a rail on its way up: delay, test, ramp, settle, up, and what a late settle and a hiccup do. RAIL_DELAY_EXPIRY of a
starting rail in DELAY begins its TEST once its on delay has passed; of a stopping rail it begins the stop ramp once its off
delay has passed. RAIL_RAMP_DONE with the target at the stored value enters SETTLE. RAIL_SETTLED after 10 µs within the window
makes the rail UP, advances the sequences and judges its capacity. RAIL_START_TIMEOUT 1 ms after the ramp sets FLT.START_TO.
HICCUP_EXPIRY restarts from TEST after SS_HICCUP_MS. (R144, R147, R148, R151) -/
def Obligations.RailStartSteps : Prop :=
  (∀ (s : State) (r : Nat) (j : RailJob), pcRuns s = true → jobOf s r = some j → j.start = true → (rail s r).st = .delay →
    ∃ t, exec (.railDelayExpiry r) s = .next t ∧ t.now = max s.now (j.delayAt + us (getPc s (Reg.RAIL_SEQ_ON.DELAY_US r))) ∧
      rail t r = { rail s r with st := .test, stepAt := t.now, testOn := false } ∧ (∀ q, q ≠ r → rail t q = rail s q) ∧
      t.regs = s.regs ∧ t.be = s.be ∧ t.hap = s.hap) ∧
  (∀ (s : State) (r : Nat) (j : RailJob), pcRuns s = true → jobOf s r = some j → j.start = false → railDown s r = false →
    (rail s r).st ≠ .stopping →
    ∃ t, exec (.railDelayExpiry r) s = .next t ∧ t.now = max s.now (j.delayAt + us (getPc s (Reg.RAIL_SEQ_OFF.DELAY_US r))) ∧
      (rail t r).st = .stopping ∧ (rail t r).stepAt = t.now ∧ (∀ q, q ≠ r → rail t q = rail s q) ∧ t.regs = s.regs ∧
        t.hap = s.hap) ∧
  (∀ (s : State) (r : Nat), pcRuns s = true → (rail s r).st = .ramp → (rail s r).tgt = mv (storedMv s r) →
    exec (.railRampDone r) s = .next (settle (setRail s r { rail s r with st := .settle, stepAt := s.now, settledAt := none }))) ∧
  (∀ (s u v : State) (r a : Nat), (rail s r).settledAt = some a → pcRuns s = true → (rail s r).st = .settle →
    u = advanceTo s (a + us 10) →
    v = setVfs u r { (vfsRail u r) with goal := vfEntry u r (reqLevel u r) } →
    exec (.railSettled r) s = .next (settle (capacity (stepJobs (modRail v r (fun x => { x with
        st := .up, byStart := true, srcMove := railSrc v r, ovRun := 0, uvRun := 0, shortRun := 0
        vset := vsetGoal v r, vset0 := vsetWith v r 0, tgt0 := x.tgt }))) r))) ∧
  (∀ (s : State) (r : Nat), pcRuns s = true → (rail s r).st = .settle →
    ∃ t, exec (.railStartTimeout r) s = .next t ∧ t.now = max s.now ((rail s r).stepAt + ms 1) ∧
      getF t (Reg.RAIL_FLT.START_TO r) = 1 ∧ t.be = s.be ∧ t.th = s.th) ∧
  ∀ (s : State) (r : Nat), pcRuns s = true → (rail s r).st = .hiccup →
    ∃ t, exec (.hiccupExpiry r) s = .next t ∧ t.now = max s.now ((rail s r).stepAt + ms (getPc s (Reg.RAIL_PROT1.SS_HICCUP_MS r))) ∧
      rail t r = { rail s r with st := .test, stepAt := t.now, testOn := false } ∧ (∀ q, q ≠ r → rail t q = rail s q) ∧
        t.regs = s.regs

/-- A rail whose stop ramp or fast off reaches 0 mV has every port disabled, and PWRGD falling with a rail on is a hard stop.
RAIL_STOP_DONE disables the rail, advances the sequences and ends an orderly stop; FAST_OFF_DONE disables it to OFF, or FAULTED
where a fault called it, and may end the hard stop. A disabled rail has target 0 and PH_EN_N high on each of its ports.
PWRGD_FALL with a rail not off, in RUN or in an orderly stop, is a hard stop with cause 7: GSTOP is asserted and every described
rail is off, faulted or in its fast off. PWRGD_RISE changes the pin alone. VSEL_CHANGE selects other stored values and lowers
what they limit. With every rail off, in HARD and DOWN, and before step 6, PWRGD_FALL changes the pin and what the mirror
follows alone. (R148, R149, R154, R32, R253, R142) -/
def Obligations.RailsGoDown : Prop :=
  (∀ (s : State) (r : Nat), pcRuns s = true → (rail s r).st = .stopping → (rail s r).fastOff = false → (rail s r).tgt = 0 →
    exec (.railStopDone r) s = .next (settle (orderlyDown (stepJobs (disableRail s r .off .off))))) ∧
  (∀ (s : State) (r : Nat), pcRuns s = true → (rail s r).fastOff = true → (rail s r).tgt = 0 →
    exec (.fastOffDone r) s = .next (settle (hardDown (stepJobs (disableRail s r (if (rail s r).fltOff then .faulted else .off) .off))))) ∧
  (∀ (s : State) (r : Nat) (st : RailSt), (rail (disableRail s r st .off) r).st = st ∧ (rail (disableRail s r st .off) r).tgt = 0 ∧
    (∀ p ∈ railPorts s r, portOn (port (disableRail s r st .off) p) = false) ∧
    (∀ p, p ∉ railPorts s r → port (disableRail s r st .off) p = port s p) ∧
      (∀ q, q ≠ r → rail (disableRail s r st .off) q = rail s q)) ∧
  (∀ s : State, released s 6 = true → railsOff s = false → (s.th.sd = .run ∨ s.th.sd = .orderly) →
    ∃ t, exec .pwrgdFall s = .next t ∧ (t.th.sd = .hard ∨ t.th.sd = .down) ∧ t.th.cause = 7 ∧ t.pins.pwrgd = false ∧
      t.pins.gstop = true ∧ (∀ r ∈ mfRails s, (rail t r).st = .off ∨ (rail t r).st = .faulted ∨ (rail t r).st = .stopping) ∧
      t.be = s.be ∧ t.pb = s.pb) ∧
  (∀ s : State, (released s 6 = false ∨ railsOff s = true ∨ s.th.sd = .hard ∨ s.th.sd = .down) → exec .pwrgdFall s = .next (settle {
      s with
      pins.pwrgd := false, pins.mirrorGstop := s.pins.mirrorGstop || s.du.hbAbsent })) ∧
  (∀ s : State, exec .pwrgdRise s = .next (settle { s with pins.pwrgd := true })) ∧
  ∀ (s : State) (v : BitVec 3), exec (.vselChange v) s =
    .next (settle (if pcRuns s then lowerAll { s with pins.vsel := v.toNat } else { s with pins.vsel := v.toNat }))

/-- RAIL_START, RAIL_STOP and PHASE_RETIRE: what refuses them, in order, and what they do. A RAIL_START that passes R319 completes
with STATE before ready, with SHUTDOWN outside RUN, with PWRGD_LOW while PWRGD is low, and with STATE and the lowest rail that
another start or stop names or that is FAULTED; otherwise a start of its rails that are not UP begins, in ascending ORDER.
RAIL_STOP completes with STATE and the rail while one is named by another command or has a cluster with power enabled; otherwise
their stop begins. PHASE_RETIRE completes with STATE where no port carries the phase, and with NO_SPARE where no spare is left
and the rail would go below PH_MIN; otherwise it retires the port that carries the phase with cause 6 and completes OK. (The
order of the refusals, and STATE for a rail with a cluster enabled and for a phase without a carrier, are readings of the model,
log entry 41.) (R144, R148, R157, R325, R391, R256, R32) -/
def Obligations.RailCommandsAreJudged : Prop :=
  (∀ (s u : State) (n : Nat) (d : List Byte) (f : Flight), Turn s n d → dOp d = 0x20 → Passes s n d .railStart (railSpec s d) →
    (u, f) = takeHead s n d .railStart →
    (getF u Reg.RS_STATUS.PHASE ≠ 11 → exec .railStart s = .next (settle (complete u f 0x0008 (getF u Reg.RS_STATUS.PHASE)))) ∧
    (getF u Reg.RS_STATUS.PHASE = 11 → u.th.sd ≠ .run → exec .railStart s = .next (settle (complete u f 0x000C (sdCode u.th.sd)))) ∧
    (getF u Reg.RS_STATUS.PHASE = 11 → u.th.sd = .run → u.pins.pwrgd = false →
      exec .railStart s = .next (settle (complete u f 0x000B 0))) ∧
    (∀ r, getF u Reg.RS_STATUS.PHASE = 11 → u.th.sd = .run → u.pins.pwrgd = true →
      (railMask d).find? (fun r => (railBusy u (railMask d) == some r) || (rail u r).st == .faulted) = some r →
      exec .railStart s = .next (settle (complete u f 0x0008 r))) ∧
    (getF u Reg.RS_STATUS.PHASE = 11 → u.th.sd = .run → u.pins.pwrgd = true → railBusy u (railMask d) = none →
      (∀ r ∈ railMask d, (rail u r).st ≠ .faulted) → ∃ v, exec .railStart s = .next (settle (stepJobs v)) ∧
        v.pc.jobs = u.pc.jobs ++ [{
          key := some f.key, start := true, cur := [], delayAt := u.now, mask := railMask d
          groups := orderGroups u ((railMask d).filter (fun r => (rail u r).st != .up)) }] ∧
        (∀ q, (rail v q).st = (rail u q).st) ∧ v.regs = u.regs ∧ v.pc.ports = u.pc.ports)) ∧
  (∀ (s u : State) (n : Nat) (d : List Byte) (f : Flight), Turn s n d → dOp d = 0x21 → Passes s n d .railStop (railSpec s d) →
    (u, f) = takeHead s n d .railStop →
    (∀ r, railBusy u (railMask d) = some r → exec .railStop s = .next (settle (complete u f 0x0008 r))) ∧
    (railBusy u (railMask d) = none → (∀ r ∈ railMask d, ∀ k ∈ railTiles u r, (tile u k).pwrEn = false) →
      exec .railStop s = .next (settle (stepJobs { u with pc.jobs := u.pc.jobs ++ [{
        key := some f.key, start := false, cur := [], delayAt := u.now, mask := railMask d
        groups := (orderGroups u ((railMask d).filter (fun r => !railDown u r))).reverse }] }))) ∧
    (∀ r, railBusy u (railMask d) = none → (railMask d).find? (fun r => (railTiles u r).any (fun k => (tile u k).pwrEn)) = some r →
      exec .railStop s = .next (settle (complete u f 0x0008 r)))) ∧
  ∀ (s u : State) (n : Nat) (d : List Byte) (f : Flight) (sp : OpSpec), Turn s n d → dOp d = 0x22 →
    sp = { target := decide (dTarget d / 2 ^ 24 = 5) && validUnit s (dTarget d) } → Passes s n d .taken sp →
    (u, f) = takeHead s n d .taken →
    (carrier u (dTarget d / 256 % 65536) (dTarget d % 256) = none → exec .phaseRetire s = .next (settle (complete u f 0x0008 0))) ∧
    (∀ p, carrier u (dTarget d / 256 % 65536) (dTarget d % 256) = some p → exec .phaseRetire s = .next (settle (
      if lowestSpare u (dTarget d / 256 % 65536) = none ∧
          availFor u (dTarget d / 256 % 65536) - 1 < getPc u (Reg.RAIL_CFG.PH_MIN (dTarget d / 256 % 65536)) then complete u f 0x000F 0
      else complete (retirePort u (dTarget d / 256 % 65536) p 6) f 0 0)))

/-- What a report frame, a 10 ns step of the compensator, a period boundary and the end of the shed hold do, and what the Phase Link
pins show. A frame that begins in time, is well formed and comes to a port of a described rail that expects one gives the port
its current and temperature, and any other changes nothing. COMPENSATOR_UPDATE takes 10 ns and one step of each described rail;
the duty command of a step lies from 0 to DMAX and the integrator holds while the last sum lay outside, in fire and before the
first period ends. At RAIL_PERIOD_BOUNDARY of a rail that regulates, the period power is taken, the judgements of R153 follow,
and the slots of its ports are respaced. SHED_HOLD_EXPIRY drains the highest ACTIVE port HOLD_US after N_req fell below
N_active. Before step 6 PH_EN_N of a port is pulled up and PH_PWM low; from then on PH_EN_N is low exactly in JOINING, ACTIVE,
DRAINING and FIRE, and PH_PWM of a port of a rail is low in HICCUP and FAULTED, and otherwise low, strobed, high or has the
on-time of D, or of the quarters of D of a drain, to the nearest step of the grid; the slot of an active port lies at its share
of the period, to the nearest step (the model's readings and choices: a tie goes to even, log entry 66; the latest sample times
the current makes the period power, log entry 74; a port is retired as the frame is taken, and a strobe has its slot at the
boundary, log entry 42; a drain that begins between boundaries begins with the next period, log entry 43; PH_PWM before step 6,
log entry 70; what judges a frame with two faults, log entry 82). (R26, R131, R132, R133, R134, R139, R140, R153, R162, R164,
R168, R444) -/
def Obligations.ReportsAndRegulation : Prop :=
  (∀ (s : State) (p r : Nat) (v : BitVec 48), (port s p).rail = some r → pcRuns s = true → edged (port s p) = true →
    frameOk v.toNat = true → ∀ x, x = takeFrame s r v.toNat (edgePassed s r p) (port s p) →
      (x.iph = rptIph v.toNat ∧ x.tph = rptTph v.toNat ∧ x.missRun = 0 ∧ x.st = (port s p).st) ∧
      (frameFault x v.toNat = 0 → exec (.phaseReportFrame p v true) s = .next (settle (setPort s p x))) ∧
      (frameFault x v.toNat ≠ 0 → exec (.phaseReportFrame p v true) s = .next (settle (retirePort (setPort s p x) r p (frameFault x v.toNat))))) ∧
  (∀ (s : State) (p : Nat) (v : BitVec 48) (b : Bool), ((port s p).rail = none ∨ edged (port s p) = false ∨ b = false ∨ frameOk v.toNat = false) →
    exec (.phaseReportFrame p v b) s = .next (settle s)) ∧
  (∀ (s : State) (vs : List (Nat × Nat)), pcRuns s = true →
    exec (.compensatorUpdate vs) s = .next (settle ((mfRails s).foldl (compStep vs)
      { advanceTo s (max (s.pc.compAt + 5) (2 * s.now) / 2) with pc.compAt := max (s.pc.compAt + 5) (2 * s.now) }))) ∧
  (∀ (s : State) (r : Nat) (x : Rail), (compensate s r x).duty ≤ getPc s (Reg.RAIL_COMP1.DMAX r) ∧
    (x.frozen = true ∨ x.firing = true ∨ x.first = true → (compensate s r x).iacc = x.iacc) ∧
      (compensate s r x).ePrev = deficit s r ∧
    (compensate s r x).st = x.st ∧ (compensate s r x).tgt = x.tgt) ∧
  (∀ (s u : State) (r m : Nat), pcRuns s = true → periodRuns s r = true →
    m = max ((rail s r).periodAt + 5 * getPc s (Reg.RAIL_CFG.PERIOD r)) (2 * s.now) → u = advanceTo s (m / 2) →
    ∀ w, w = brakePower (modRail u r (fun x => { x with periodAt := m, power := x.vsns * iRail u r })) r →
      ((rail w r).st ≠ .test ∨ (rail w r).testOn = true →
        exec (.railPeriodBoundary r) s = .next (grantTiles (settle (respace (periodJudge w r) r)))) ∧
      ((rail w r).st = .test → (rail w r).testOn = false → exec (.railPeriodBoundary r) s =
        .next (grantTiles (settle (respace ((rail w r).need.foldl (fun s l => trySpare s r l) (enterTest w r)) r))))) ∧
  (∀ (s : State) (r p : Nat), (p ∈ railPorts s r → port (respace s r) p = { port s p with
      slot := if portOn (port s p) then slotSteps s r p else 0 }) ∧
    (p ∉ railPorts s r → port (respace s r) p = port s p) ∧ rail (respace s r) r = rail s r ∧ (respace s r).regs = s.regs) ∧
  (∀ (s : State) (r a : Nat), (rail s r).belowSince = some a → pcRuns s = true → (rail s r).st = .up → (rail s r).firing = false →
    (rail s r).fireHold = false → (rail s r).drain = none →
    exec (.shedHoldExpiry r) s = .next (settle (startDrain (advanceTo s (a + us (getPc s (Reg.RAIL_SHED.HOLD_US r)))) r))) ∧
  (∀ (s : State) (r p : Nat), (byPhase s r .active).getLast? = some p → (port (startDrain s r) p).st = .draining ∧
    (rail (startDrain s r) r).drain = some ⟨p, decide ((rail s r).periodAt / 2 = s.now), 0⟩ ∧
    ∀ q, q ≠ p → port (startDrain s r) q = port s q) ∧
  (∀ (s : State) (p : Nat), released s 6 = false → phEnN s p = .pulled ∧ phPwm s p = .low) ∧
  (∀ (s : State) (p r : Nat) (x : PortSt), released s 6 = true → (port s p).rail = some r → x = (port s p).st →
    (phEnN s p = .low ↔ x = .joining ∨ x = .active ∨ x = .draining ∨ x = .fire) ∧ phEnN s p ≠ .pulled ∧
    (((rail s r).st = .hiccup ∨ (rail s r).st = .faulted) → phPwm s p = .low) ∧
      ((rail s r).st ≠ .hiccup → (rail s r).st ≠ .faulted →
    (x = .off ∨ x = .spare ∨ x = .retired → phPwm s p = .low) ∧ (x = .test ∨ x = .standby → phPwm s p = .strobe) ∧
    (x = .fire → phPwm s p = .high) ∧ (x = .joining ∨ x = .active → phPwm s p = .pulse (onSteps s r 4)) ∧
    (x = .draining → ∀ d, (rail s r).drain = some d → d.port = p → d.begun = true → phPwm s p = .pulse (onSteps s r (3 - d.k))))) ∧
  ∀ (s : State) (r p q : Nat), (2 * (262144 * (onSteps s r q : Int) - q * (rail s r).duty * periodSteps s r).natAbs ≤ 262144) ∧
    (nActive s r ≠ 0 → 2 * (nActive s r * (slotSteps s r p : Int) - activeIndex s r p * periodSteps s r).natAbs ≤ nActive s r)

/-- The shelf brake applies its ceilings at once, escalates and checks at its times, and lifts at the next frame boundary.
SHELF_BRAKE_ASSERT while the pin is high sets it, and where the phase controllers run counts the brake in BRAKES, marks it in
the open report periods of a manifest, and lowers what the brake limits; a mirror that runs alone asserts its GSTOP. At ESC_US,
with the period power above LEVEL_W, the brake asserts GSTOP, and at or below it nothing else happens. At 10 µs, with the period
power above LEVEL_W, PC_FLT.BRAKE_MISS is set. SHELF_BRAKE_DEASSERT releases the brake's GSTOP and leaves the ceilings to the
next frame boundary. (R167, R168, R170) -/
def Obligations.ShelfBrakeActs : Prop :=
  (∀ s : State, s.pins.brake = false → pcRuns s = true → exec .shelfBrakeAssert s = .next (settle (lowerAll (incSat {
      s with
      pins.brake := true, pins.mirrorGstop := s.pins.mirrorGstop || s.du.hbAbsent
      bg.sec.flags := if s.mf.isSome then s.bg.sec.flags ||| 64 else s.bg.sec.flags
      bg.min_.flags := if s.mf.isSome then s.bg.min_.flags ||| 64 else s.bg.min_.flags, pc.brake := true, pc.brakeAt := s.now, pc.escDone := false, pc.missDone := false, pc.escCounted := false
      pc.lifting := false } Reg.PC_BRAKE_CNT.BRAKES)))) ∧
  (∀ s : State, s.pins.brake = false → pcRuns s = false → exec .shelfBrakeAssert s = .next (settle {
      s with
      pins.brake := true, pins.mirrorGstop := s.pins.mirrorGstop || s.du.hbAbsent })) ∧
  (∀ s : State, s.pins.brake = true → exec .shelfBrakeAssert s = .next (settle s)) ∧
  (∀ s u : State, pcRuns s = true → s.pins.brake = true → s.pc.brake = true → s.pc.escDone = false →
    getPc s Reg.PC_BRAKE1.ESC_US ≠ 0 →
    u = { advanceTo s (s.pc.brakeAt + us (getPc s Reg.PC_BRAKE1.ESC_US)) with pc.escDone := true } →
    (overLevel u = true → ∃ t, exec .brakeEscalation s = .next t ∧ t.pc.brakeGstop = true ∧ t.pins.gstop = true ∧ t.now = u.now ∧
      (s.pc.escCounted = false → getF t Reg.PC_BRAKE_CNT.ESCALATIONS =
        min (2 ^ Reg.PC_BRAKE_CNT.ESCALATIONS.w - 1) (getF s Reg.PC_BRAKE_CNT.ESCALATIONS + 1))) ∧
    (overLevel u = false → exec .brakeEscalation s = .next (settle u))) ∧
  (∀ s u : State, pcRuns s = true → s.pins.brake = true → s.pc.brake = true → s.pc.missDone = false →
    u = { advanceTo s (s.pc.brakeAt + us 10) with pc.missDone := true } →
    (overLevel u = true → ∃ t, exec .brakeMissCheck s = .next t ∧ getF t Reg.PC_FLT.BRAKE_MISS = 1 ∧ t.pc = u.pc ∧ t.now = u.now) ∧
    (overLevel u = false → exec .brakeMissCheck s = .next (settle u))) ∧
  ∀ s : State, exec .shelfBrakeDeassert s =
    .next (grantTiles (settle { s with pins.brake := false, pc.brakeGstop := false, pc.lifting := s.pc.brake }))

/-- The steps of an orderly stop, the call of low flow, and the re-arm. FLOW_OK_LOW in RUN or in an orderly stop is a hard stop with
cause 5 that asserts GSTOP. FLOW_OK_HIGH changes the pin alone. ORDERLY_DRAIN_DONE once every tile agent that is not in a reset
of its own reports no held credits, and ORDERLY_DRAIN_TIMEOUT at DRAIN_US, end step 2: every tile agent that hears the hub
resets its engines, sends its pool to the hub and powers its cluster off once it holds nothing, and a thermal event counts the
engines that still ran. ORDERLY_CLUSTERS_OFF, with every CL_PWR_OK low, but of tile agents in a reset of their own, or after 100
µs, ends step 3 and begins the stop of the rails. THERMAL_REARM completes with STATE before ready, with REARM_REFUSED and its
reason where a condition of R257 fails, and otherwise returns to RUN with THERMTRIP_N released and completes OK. (That the
re-arm raises no event and that ORD_STEP reads 5 in DOWN are the model's choice, log entry 52.) (R251, R253, R257, R258, R261,
R391, R400) -/
def Obligations.ShutdownSteps : Prop :=
  (∀ s : State, released s 6 = true → (s.th.sd = .run ∨ s.th.sd = .orderly) →
    ∃ t, exec .flowOkLow s = .next t ∧ (t.th.sd = .hard ∨ t.th.sd = .down) ∧ t.th.cause = 5 ∧ t.pins.flowOk = false ∧
      t.pins.gstop = true ∧ t.be = s.be) ∧
  (∀ s : State, (released s 6 = false ∨ s.th.sd = .hard ∨ s.th.sd = .down) → exec .flowOkLow s = .next (settle {
      s with
      pins.flowOk := false, pins.mirrorGstop := s.pins.mirrorGstop || s.du.hbAbsent })) ∧
  (∀ s : State, exec .flowOkHigh s = .next (settle { s with pins.flowOk := true })) ∧
  (∀ s : State, s.th.sd = .orderly → s.th.ordStep = 2 → (∀ k ∈ mfTiles s, tileRstNow s k = true ∨ (tile s k).hH = 0) →
    exec .orderlyDrainDone s = .next (settle (orderlyOff s))) ∧
  (∀ s : State, s.th.sd = .orderly → s.th.ordStep = 2 →
    exec .orderlyDrainTimeout s = .next (settle (orderlyOff (advanceTo s (s.th.stepAt + us (getF s Reg.TH_SD_CFG.DRAIN_US)))))) ∧
  (∀ s u : State, u = orderTiles { s with th.ordStep := 3, th.stepAt := s.now } clusterOff → orderlyOff s =
      thEvent u 6 (hubUnit u) (maxUsed u) u.th.cause (((mfTiles s).filter (fun k => !(tile s k).orphan)).map (fun k => runningEngs (tile s k))).sum ∧
    (orderlyOff s).th.ordStep = 3 ∧ (orderlyOff s).th.stepAt = s.now ∧ (orderlyOff s).th.sd = s.th.sd ∧
    (∀ k, (k ∉ mfTiles s ∨ (tile s k).orphan = true) → tile (orderlyOff s) k = tile s k) ∧ (orderlyOff s).pc = s.pc) ∧
  (∀ x : Tile, (clusterOff x).pool = 0 ∧ ((clusterOff x).held = 0 → (clusterOff x).pwrEn = false) ∧
    ((clusterOff x).offOrder = true ↔ (clusterOff x).held ≠ 0) ∧ ∀ e < 64, (eng (clusterOff x) e).running = false) ∧
  (∀ s : State, s.th.sd = .orderly → ((orderlyRails s).th.sd = .orderly ∧ (orderlyRails s).th.ordStep = 4) ∨
    ((orderlyRails s).th.sd = .down ∧ (orderlyRails s).th.ordStep = 5)) ∧
  (∀ s : State, s.th.sd = .orderly → s.th.ordStep = 3 → (∀ k ∈ mfTiles s, tileRstNow s k = true ∨ (tile s k).pwrOk = false) →
    exec .orderlyClustersOff s = .next (settle (orderlyRails s))) ∧
  (∀ s : State, s.th.sd = .orderly → s.th.ordStep = 3 → (∃ k ∈ mfTiles s, tileRstNow s k = false ∧ (tile s k).pwrOk = true) →
    exec .orderlyClustersOff s = .next (settle (orderlyRails (advanceTo s (s.th.stepAt + us 100))))) ∧
  ∀ (s u : State) (n : Nat) (d : List Byte) (f : Flight), Turn s n d → dOp d = 0x41 → Passes s n d .taken { target := noTarget d } →
    (u, f) = takeHead s n d .taken →
    (getF u Reg.RS_STATUS.PHASE ≠ 11 → exec .thermalRearm s = .next (settle (complete u f 0x0008 (getF u Reg.RS_STATUS.PHASE)))) ∧
    (getF u Reg.RS_STATUS.PHASE = 11 → rearmReason u ≠ 0 →
      exec .thermalRearm s = .next (settle (complete (setF u Reg.TH_REARM.REASON (rearmReason u)) f 0x000D (rearmReason u)))) ∧
    (getF u Reg.RS_STATUS.PHASE = 11 → rearmReason u = 0 → ∃ v, exec .thermalRearm s = .next (settle (complete v f 0 0)) ∧
      v.th.sd = .run ∧
      v.th.cause = 0 ∧ v.pins.thermtrip = false ∧ (∀ k, (tile v k).localTrip = false ∧ (tile v k).levelOne = false) ∧ v.pc = u.pc ∧
      v.regs = u.regs ∧ v.be = u.be ∧ v.hr = u.hr)

/-- What a detector trip, a clear, the stretch hold, a self-test and a stuck detector do at the tile agent. A detector trips at each
level whose reference its tap voltage lies below, and clears at each whose reference and hysteresis it has risen above;
CL_STRETCH and UVF_O follow, and a clear lets the grants go on: stretch is on while an enabled detector is tripped and off where
none is enabled, and UVF_O is driven while more enabled detectors than the vote are tripped at fire level. STRETCH_HOLD_EXPIRY
ends the stretch, and the engines that waited are granted. A self-test, its period after the last one, clears the failure count
of an enabled detector that passes and sets that of one that fails first. DETECTOR_STUCK fails the channel in service of the
sole tripped detector after STUCK_US. Where either ends the stretch, the engines that waited are granted. (R173, R174, R175,
R179, R180) -/
def Obligations.DetectorsDriveStretchAndUvf : Prop :=
  (∀ (s : State) (d uv k h : Nat) (v : Det), k = d / 16 → tileRuns s k = true → v = det (tile s k) (d % 16) →
    h = getF s Reg.DT_CFG.HYST_MV →
    exec (.detectorTrip d uv) s = .next (settle (detOutputs (setTile s k (setDet (tile s k) (d % 16) { v with
      st := v.st || decide (uv < 1000 * stretchRef s k (d % 16)), fi := v.fi || decide (uv < 1000 * fireRef s k (d % 16)) })) k)) ∧
    exec (.detectorClear d uv) s = .next (settle (grantRun (detOutputs (setTile s k (setDet (tile s k) (d % 16) { v with
      st := v.st && decide (uv ≤ 1000 * (stretchRef s k (d % 16) + h))
      fi := v.fi && decide (uv ≤ 1000 * (fireRef s k (d % 16) + h)) })) k) k))) ∧
  (∀ (s : State) (k : Nat) (on : List Nat), on = (List.range 16).filter (detOn s k) →
    ((∃ d ∈ on, (det (tile s k) d).st = true ∨ (det (tile s k) d).fi = true) → (tile (detOutputs s k) k).stretch = true) ∧
    (on = [] → (tile (detOutputs s k) k).stretch = false ∧ (tile (detOutputs s k) k).uvf = false) ∧
    ((tile (detOutputs s k) k).uvf = true ↔ getF s Reg.DT_CFG.UVF_VOTE < (on.filter (fun d => (det (tile s k) d).fi)).length) ∧
    (tile (detOutputs s k) k).pool = (tile s k).pool ∧ (tile (detOutputs s k) k).held = (tile s k).held ∧
    (∀ j, j ≠ k → tile (detOutputs s k) j = tile s j) ∧ (detOutputs s k).regs = s.regs) ∧
  (∀ (s : State) (k a : Nat), (tile s k).clearAt = some a → ∃ t, exec (.stretchHoldExpiry k) s = .next t ∧
    t.now = max s.now (a + ceilDiv (5 * getF s Reg.DT_CFG.STRETCH_HOLD) 24) ∧ (tile t k).stretch = false ∧
      (tile t k).clearAt = none ∧
    (tile t k).pool + (tile t k).held = (tile s k).pool + (tile s k).held ∧ (tile t k).level = (tile s k).level ∧ t.regs = s.regs ∧
    t.be = s.be ∧ t.hap = s.hap) ∧
  (∀ (s : State) (k : Nat) (fails : List Nat), tileDutyRuns s k = true → getF s Reg.DT_TEST.PERIOD_US ≠ 0 →
    ∃ t, exec (.detectorSelfTest k fails) s = .next t ∧
      (tile t k).testAt = max s.now ((tile s k).testAt + us (testPeriod s k)) ∧ (tile t k).testAt ≤ t.now ∧
        (∀ d < 16, detOn s k d = true → d ∉ fails → (det (tile t k) d).fails = 0) ∧
      (∀ d < 16, detOn s k d = true → d ∈ fails → (det (tile s k) d).fails ≠ 1 → (det (tile t k) d).fails = 1) ∧
      (∀ d < 16, detOn s k d = true → d ∈ fails → (det (tile s k) d).fails = 1 → (det (tile s k) d).spareOk = false →
        (det (tile t k) d).failed = true ∧ flagOn t Reg.CC_ERR.DET_FAIL = true) ∧ t.be = s.be ∧ t.th = s.th) ∧
  ∀ (s : State) (d a : Nat), (tile s (d / 16)).sole = some (d % 16, a) → tileRuns s (d / 16) = true → ∃ u,
    u = advanceTo s (a + us (getF s Reg.DT_TEST.STUCK_US)) ∧
    exec (.detectorStuck d) s = .next (settle (grantRun (failChannel u (d / 16) (d % 16) (det (tile u (d / 16)) (d % 16)).chan) (d / 16)))

/-- Starts and ends of engines conserve the credits of the tile agent, and at most 8 grants are made in one cycle.
ENGINE_START_REQUEST at a tile agent that runs leaves the sum of its pool and the credits held as it was, and every engine
granted runs and requests no more; while grants are blocked it grants none. One cycle grants at most 8 engines. An ENG_END of a
running engine ends its grant: its cost leaves the credits held and goes to an open recall first and then to the pool, nothing
lost or made. One of an engine with no grant counts as spurious and sets CC_ERR.SPURIOUS_END. OP_MAX_EXPIRY marks the grant once
and sets CC_ERR.OP_MAX. (R184, R185, R187, R441) -/
def Obligations.GrantsConserveCredits : Prop :=
  (∀ (s : State) (k : Nat) (starts : List (Nat × Nat)), tileRuns s k = true → ∃ t, exec (.engineStartRequest k starts) s = .next t ∧
    (tile t k).pool + (tile t k).held = (tile s k).pool + (tile s k).held ∧
    (∀ e ∈ (tile t k).grants, (eng (tile t k) e).running = true ∧ (eng (tile t k) e).start = none) ∧
    (grantBlocked s k = true → (tile t k).grants = [] ∧ (tile t k).pool = (tile s k).pool) ∧
    (∀ j, j ≠ k → tile t j = tile s j) ∧ t.cc.reserve = s.cc.reserve ∧ t.regs = s.regs ∧ t.be = s.be) ∧
  (∀ (s : State) (k : Nat), (tile (grantScan s k) k).grants.length ≤ 8 ∧
    (tile (grantScan s k) k).pool + (tile (grantScan s k) k).held = (tile s k).pool + (tile s k).held) ∧
  (∀ (s : State) (k : Nat) (ends : List Nat), tileRuns s k = true →
    exec (.engineEnd k ends) s = .next (settle (grantRun (ends.foldl (endEngine k) s) k))) ∧
  (∀ (s : State) (k e : Nat) (x : Tile), (eng (tile s k) e).running = true → (eng (tile s k) e).cost ≤ (tile s k).held →
    x = tile (endEngine k s e) k → (eng x e).running = false ∧ x.held + (eng (tile s k) e).cost = (tile s k).held ∧
    x.pool + x.held + x.up.foldl (fun n m => n + m.amt) 0 =
      (tile s k).pool + (tile s k).held + (tile s k).up.foldl (fun n m => n + m.amt) 0 ∧ (endEngine k s e).regs = s.regs) ∧
  (∀ (s : State) (k e : Nat), (eng (tile s k) e).running = false → getF (endEngine k s e) Reg.CC_ERR.SPURIOUS_END = 1 ∧
    tile (endEngine k s e) k = { tile s k with spurious := satAdd 255 (tile s k).spurious 1 }) ∧
  ∀ (s : State) (k e : Nat), (eng (tile s k) e).running = true → (eng (tile s k) e).opMax = false →
    getF s Reg.CC_OPMAX.OP_MAX_US ≠ 0 →
    ∃ t, exec (.opMaxExpiry k e) s = .next t ∧
      t.now = max s.now ((eng (tile s k) e).grantedAt + us (getF s Reg.CC_OPMAX.OP_MAX_US)) ∧
      getF t Reg.CC_ERR.OP_MAX = 1 ∧ (eng (tile t k) e).opMax = true ∧ (eng (tile t k) e).running = true ∧
      (tile t k).held = (tile s k).held ∧ t.be = s.be

/-- What a release, a report and a return carry between a tile agent and the hub, and what a lost one leaves to be made up.
CREDIT_RELEASE brings a tile agent up to the running total that its message carries, whatever messages were lost before, takes
the recall mark and serves an open recall from the pool, and the engines that waited are granted; an orphan that it reaches sets
CC_ERR.ORPHAN once. The last message that the marker of an audit has ahead of it lets the marker take up what the tile agent
then holds. A message that is lost leaves the queue, which the marker of an audit follows, and does nothing else. TILE_REPORT
gives the hub the pool, the credits held, the waiting cost and the total received. CREDIT_RETURN brings the reserve up to the
running total returned. A message whose total is ahead of its own amount sets CC_ERR.MSG_GAP. (R188, R189, R192, R193, R194,
R448) -/
def Obligations.CreditMessagesAreCounted : Prop :=
  (∀ (s : State) (k d : Nat) (m : DownMsg) (l : List DownMsg), (tile s k).down = m :: l → tileRuns s k = true →
    d = (m.tot + 2 ^ 32 - (tile s k).rcvTot) % 2 ^ 32 → ∃ t, exec (.creditRelease k false) s = .next (settle (grantRun t k)) ∧
      tile t k = { serveRecall { tile s k with
        down := l, pool := (tile s k).pool + d, rcvTot := m.tot, mark := m.mark, msgAt := s.now } with
        orphanSeen := (tile s k).orphanSeen || (tile s k).orphan } ∧
      (m.amt < d → getF t Reg.CC_ERR.MSG_GAP = 1) ∧
      ((tile s k).orphan = true → (tile s k).orphanSeen = false → getF t Reg.CC_ERR.ORPHAN = 1) ∧
      (s.cc.audit = none → t.cc.audit = none) ∧ (∀ a, s.cc.audit = some a → tget 0 a.ahead k = 0 → t.cc.audit = some a) ∧
      (∀ a, s.cc.audit = some a → tget 0 a.ahead k = 1 → ∃ b, t.cc.audit = some b ∧ b.reserveBad = a.reserveBad ∧
        b.entries = a.entries.map (fun p => if p.1 = k then (k, { p.2 with
          sum := (tile t k).pool + (tile t k).held, ret := (tile t k).retTot }) else p)) ∧
      (∀ j, j ≠ k → tile t j = tile s j) ∧ t.cc.reserve = s.cc.reserve ∧ t.hap = s.hap) ∧
  (∀ (s : State) (k : Nat) (b : Bool) (m : DownMsg) (l : List DownMsg), (tile s k).down = m :: l →
    (b = true ∨ tileRuns s k = false) →
    exec (.creditRelease k b) s = .next (settle (markerPass (setTile s k { tile s k with down := l }) k))) ∧
  (∀ (s : State) (k : Nat) (b : Bool), ((tile s k).down = [] → exec (.creditRelease k b) s = .next (settle s)) ∧
    ((tile s k).up = [] → exec (.creditReturn k b) s = .next (settle s)) ∧
    (tileRuns s k = false → exec (.tileReport k b) s = .next (settle s))) ∧
  (∀ (s : State) (k : Nat), tileRuns s k = true → exec (.tileReport k false) s = .next (settle (setTile s k { tile s k with
      hP := (tile s k).pool, hH := (tile s k).held, hW := waitCost s k, hRcv := (tile s k).rcvTot, hTrip := tripBits (tile s k),
      reportAt := s.now })) ∧ exec (.tileReport k true) s = .next (settle s)) ∧
  (∀ (s : State) (k d : Nat) (m : UpMsg) (l : List UpMsg), (tile s k).up = m :: l →
    d = (m.tot + 2 ^ 32 - (tile s k).hRet) % 2 ^ 32 →
    ∃ t, exec (.creditReturn k false) s = .next t ∧ t.cc.reserve = s.cc.reserve + d ∧
      tile t k = { tile s k with up := l, hRet := m.tot, stranded := (tile s k).stranded - d } ∧
      (m.amt < d → getF t Reg.CC_ERR.MSG_GAP = 1) ∧ (∀ j, j ≠ k → tile t j = tile s j) ∧ t.hap = s.hap) ∧
  ∀ (s : State) (k : Nat) (m : UpMsg) (l : List UpMsg), (tile s k).up = m :: l →
    exec (.creditReturn k true) s = .next (settle (setTile s k { tile s k with up := l }))

/-- An audit makes the reserve what the credits found leave of the total, and a lost or orphaned tile agent is accounted for.
CREDIT_AUDIT_START begins an audit of what each tile agent that is not lost holds, the marker behind the messages on their way
to it, CC_AUDIT.PERIOD_US after the last one, or at once where the reserve count had an error. CREDIT_AUDIT_RETURN leaves the
reserve equal to the total less the credits the marker found and the stranded ones; a difference sets CC_ERR.AUDIT. TILE_LOST, 2
µs after the last report, strands what was sent and not returned and sets CC_ERR.TILE_LOST. TILE_ORPHAN, 2 µs after the last
message, orphans the tile agent, which applies its level under the Brim. CENSUS_REQUEST clears the orphan, empties the messages
of the other port and counts what the tile agent holds, as stranded where it has been judged lost; with the last answer the
reserve is what they leave of the total. (That the messages under way are gone at a census, that the totals start again from the
tile agent's own, and what a census makes of a tile agent judged lost meanwhile, are readings of the model, log entry 47.)
(R193, R194, R195, R196, R448) -/
def Obligations.AuditsKeepTheCountExact : Prop :=
  (∀ s u : State, released s 6 = true → u = advanceTo s (s.cc.auditAt + us (getF s Reg.CC_AUDIT.PERIOD_US)) →
    exec (.creditAuditStart true) s = .next (settle { s with cc.audit := some ⟨auditEntries s, auditAhead s, true⟩ }) ∧
    exec (.creditAuditStart false) s = .next (settle { u with cc.audit := some ⟨auditEntries u, auditAhead u, false⟩, cc.auditAt := u.now })) ∧
  (∀ (s : State) (a : CcAudit), s.cc.audit = some a → ∃ t, exec .creditAuditReturn s = .next t ∧ t.cc.audit = none ∧
    t.cc.reserve = ((s.cc.total : Int) - auditSum s a).toNat ∧ t.cc.total = s.cc.total ∧ t.cc.tiles = s.cc.tiles ∧
    (((if a.reserveBad then (0 : Int) else s.cc.reserve) + auditSum s a ≠ s.cc.total) → getF t Reg.CC_ERR.AUDIT = 1) ∧
    (((if a.reserveBad then (0 : Int) else s.cc.reserve) + auditSum s a = s.cc.total) → t.regs = s.regs) ∧ t.be = s.be) ∧
  (∀ (s : State) (k : Nat), released s 7 = true → (mfTile s k).present = true → tget none s.rs.tileRst k = none →
    (tile s k).lost = false →
    ∃ t, exec (.tileLost k) s = .next t ∧ t.now = max s.now ((tile s k).reportAt + us 2) ∧ (tile t k).lost = true ∧
      (tile t k).stranded = outAt (tile s k) ∧ (tile t k).pool = (tile s k).pool ∧ getF t Reg.CC_ERR.TILE_LOST = 1 ∧ t.be = s.be) ∧
  (∀ (s u : State) (k : Nat), tileRuns s k = true → (tile s k).orphan = false → u = advanceTo s ((tile s k).msgAt + us 2) →
    exec (.tileOrphan k) s =
      .next (settle (grantRun (setTile u k (applyLevel u { tile u k with orphan := true, orphanSeen := false } (tile u k).level)) k))) ∧
  (∀ (s : State) (x : Tile) (k : Nat), x.orphan = true → 1 ≤ x.brimRx → (applyLevel s x k).level ≤ x.brimRx) ∧
  ∀ (s : State) (k : Nat), s.cc.census.contains k = true → tileRuns s k = true → ∃ t, exec (.censusRequest k) s = .next t ∧
    (tile t k).orphan = false ∧ (tile t k).portB = (s.du.active == 1) ∧ (tile t k).down = [] ∧ (tile t k).up = [] ∧
    (tile t k).pool = (tile s k).pool ∧ (tile t k).held = (tile s k).held ∧ (tile t k).hSent = (tile s k).rcvTot ∧
    t.cc.census = s.cc.census.filter (· != k) ∧ (∀ j, j ≠ k → tile t j = tile s j) ∧
    (tile t k).stranded = (if (tile s k).lost then (tile s k).pool + (tile s k).held else (tile s k).stranded) ∧
    ∃ n, n = (if (tile s k).lost then s.cc.censusSum else s.cc.censusSum + ((tile s k).pool + (tile s k).held)) ∧
      (t.cc.census ≠ [] → t.cc.reserve = s.cc.reserve ∧ t.cc.censusSum = n) ∧
      (t.cc.census = [] → t.cc.reserve = s.cc.total - t.cc.tiles.foldl (fun n p => n + p.2.stranded) n)

/-- How step-angle updates, extrapolation, angle timers and the loss of the angle move A_x. The first update of an acquisition sets
A_x and the received angle; after LOST, one more than a step ahead of where A_x froze, or behind it, counts as a jump. A later
one at most one step ahead of A_x sets A_x to it; one behind A_x by no more than the lead limit leaves A_x. A lost toggle only
counts. Extrapolation never moves A_x backward. A bin that A_x enters takes the LAYER and OPER of the active forecast, and keeps
its mean, peak and hits; with none active nothing changes (which forecast, where several are active, and which bins a jump
enters are a reading of the model, log 48). An angle timer whose trigger is due fires to its owner and is disarmed, after those
that are due before it, in ascending trigger order, a reference cycle apart, and what waits unarmed and is due is then late; one
that is not due, or not armed, does nothing. ANGLE_LOSS, LOSS_MS after the last accepted update, makes the tracker LOST, keeps
A_x and marks every active effect to end. (That the first update after LOST counts JUMP or BACKWARD, and another first update
none, is a reading of the model, log entry 36.) (R37, R83, R84, R85, R86, R87, R205) -/
def Obligations.StepAngleIsTracked : Prop :=
  (∀ (s u : State) (a : Angle) (w : Nat), u = advanceTo s (s.now + w) → released s 6 = true → s.sa.state ≠ .off →
    toggleGone u = false →
    (s.sa.state = .lost ∨ s.sa.first = false) → ∃ t, exec (.stepAngleUpdate a w) s = .next t ∧ t.sa.state = .acquiring ∧
      t.sa.first = true ∧
      t.sa.aX = a ∧ t.sa.aR = a ∧ t.sa.tR = u.tb.time ∧ t.sa.cR = s.now + w ∧ t.now = s.now + w ∧ t.be = s.be ∧
      (s.sa.state ≠ .lost ∨ (a - s.sa.aX).toNat ≤ 65536 → t.regs = s.regs) ∧
      (s.sa.state = .lost → 65536 < (a - s.sa.aX).toNat → (a - s.sa.aX).toNat < 2 ^ 31 →
        getF t Reg.SA_ERR.JUMP = min (2 ^ Reg.SA_ERR.JUMP.w - 1) (getF s Reg.SA_ERR.JUMP + 1)) ∧
      (s.sa.state = .lost → 2 ^ 31 ≤ (a - s.sa.aX).toNat →
        getF t Reg.SA_ERR.BACKWARD = min (2 ^ Reg.SA_ERR.BACKWARD.w - 1) (getF s Reg.SA_ERR.BACKWARD + 1))) ∧
  (∀ (s u : State) (a : Angle) (w : Nat), u = advanceTo s (s.now + w) → released s 6 = true →
    (s.sa.state = .acquiring ∨ s.sa.state = .tracking) → s.sa.first = true → toggleGone u = false → (a - s.sa.aX).toNat ≤ 65536 →
    ∃ t, exec (.stepAngleUpdate a w) s = .next t ∧ t.sa.aX = a ∧ t.sa.aR = a ∧ t.sa.behind = false ∧ t.sa.timers = s.sa.timers ∧
      t.regs = s.regs ∧ t.pb = (enterBins { s with sa.aX := a } s.sa.aX).pb ∧ t.be = s.be) ∧
  (∀ (s u : State) (a : Angle) (w : Nat), u = advanceTo s (s.now + w) → released s 6 = true →
    (s.sa.state = .acquiring ∨ s.sa.state = .tracking) → s.sa.first = true → toggleGone u = false → 2 ^ 31 ≤ (a - s.sa.aX).toNat →
    2 ^ 32 - (a - s.sa.aX).toNat ≤ leadMax s →
    ∃ t, exec (.stepAngleUpdate a w) s = .next t ∧ t.sa.aX = s.sa.aX ∧ t.sa.aR = a ∧ t.sa.behind = true ∧ t.regs = s.regs ∧
      t.pb = s.pb) ∧
  (∀ (s : State) (a : Angle) (w b : Nat), released s 6 = true → s.sa.state ≠ .off → s.sa.toggleAt = some b → s.now + w < b + 10 →
    ∃ t, exec (.stepAngleUpdate a w) s = .next t ∧ t.sa.toggleAt = some (s.now + w) ∧ (Config.toggleLost s.free = true →
      t.sa = { s.sa with toggleAt := some (s.now + w) } ∧ t.pb = s.pb ∧
      getF t Reg.SA_ERR.LOST_TGL = min (2 ^ Reg.SA_ERR.LOST_TGL.w - 1) (getF s Reg.SA_ERR.LOST_TGL + 1))) ∧
  (∀ s : State, released s 6 = true → s.sa.state = .tracking → ∃ t, exec .angleExtrapolate s = .next t ∧
      t.now = max s.now (s.sa.exAt + 4) ∧ (t.sa.aX = s.sa.aX ∨ ahead t.sa.aX s.sa.aX = true) ∧ t.sa.aR = s.sa.aR ∧
        t.sa.rate = s.sa.rate ∧
      t.regs = s.regs ∧ t.be = s.be ∧ t.pb = (enterBins { s with sa.aX := t.sa.aX } s.sa.aX).pb) ∧
  (∀ (s : State) (x : Angle) (f : Forecast), activeForecast s = some f → getF s Reg.PB_CFG.BIN_LOG2 ≤ 16 →
    binOf s s.sa.aX ≠ binOf s x →
    (bin (enterBins s x) (binOf s s.sa.aX)).layer = f.layer ∧ (bin (enterBins s x) (binOf s s.sa.aX)).oper = f.oper ∧
    ∀ k, (bin (enterBins s x) k).mean = (bin s k).mean ∧ (bin (enterBins s x) k).peak = (bin s k).peak ∧
      (bin (enterBins s x) k).hits = (bin s k).hits) ∧
  (∀ (s : State) (x : Angle), activeForecast s = none → enterBins s x = s) ∧
  (∀ (s : State) (k : BitVec 8) (x : Timer), timer s k.toNat = some x → released s 6 = true →
    (timerDue s x = true → (k.toNat, x) ∈ dueTimers s ∧
      exec (.angleTimer k) s = .next (settle ((upTo k.toNat (dueTimers s)).foldl fireTimer s))) ∧
    (timerDue s x = false → exec (.angleTimer k) s = .next (settle s))) ∧
  (∀ s : State, (dueTimers s).Pairwise (fun p q => trigBefore s q.2.trig p.2.trig = false) ∧
    ∀ p ∈ dueTimers s, timerDue s p.2 = true) ∧
  (∀ (s u : State) (k : Nat) (x : Timer), timer s k = some x → u = (match s.sa.firedAt with
      | some a => advanceTo s (a + 1)
      | none => s) →
    fireTimer s (k, x) = armTimers (deliver (setTimer (markLate { u with sa.firedAt := some u.now }) k none) x)) ∧
  (∀ (k : Nat) (l : List (Nat × Timer)), l.any (fun p => p.1 == k) = true →
    ((upTo k l).getLast?.map (·.1)) = some k ∧ (upTo k l) <+: l) ∧
  (∀ (s : State) (k : BitVec 8), timer s k.toNat = none → exec (.angleTimer k) s = .next (settle s)) ∧
  ∀ s : State, released s 6 = true → getF s Reg.SA_CFG.LOSS_MS ≠ 0 → (s.sa.state = .acquiring ∨ s.sa.state = .tracking) →
    ∃ t, exec .angleLoss s = .next t ∧ t.sa.state = .lost ∧ t.sa.aX = s.sa.aX ∧
      t.now = max s.now (s.sa.acceptedAt + ms (getF s Reg.SA_CFG.LOSS_MS)) ∧ (∀ a ∈ t.pb.active, a.ending ≠ none) ∧
        t.pb.excluded = true ∧
      getF t Reg.SA_ERR.LOSS = min (2 ^ Reg.SA_ERR.LOSS.w - 1) (getF s Reg.SA_ERR.LOSS + 1) ∧ t.be = s.be

/-- What the end of a step teaches the Phase Book, and when a program, an unload and a cut take effect. STEP_BOUNDARY of a step that
nothing excluded applies the measurements of the step, and one that something excluded leaves the bins and sets
PB_ERR.NOT_LEARNED; both start a new step with no measurement. A bin first seen takes the measured mean and peak; HITS stays at
most 255. PROGRAM_SWITCH puts the pending program in force, ends every program action and completes its command, and a pending
unload removes the program and keeps its bins. ACTION_MAX_EXPIRY marks an effect to end as cut, ACT_MAX_US after it started.
(That a write of SETTLE_STEPS shows in SETTLED at the next update of the bin is the model's choice, log entry 84.) (R202, R204,
R209, R216, R217) -/
def Obligations.PhaseBookLearnsAndSwitches : Prop :=
  (∀ s : State, beRuns s = true → s.sa.state = .tracking → s.pb.excluded = false → flagOn s Reg.PB_CFG.LEARN = true →
    ∃ t, exec .stepBoundary s = .next t ∧ t.pb.bins = (learnStep s).pb.bins ∧ t.pb.meas = [] ∧ t.pb.excluded = false ∧ t.sa = s.sa ∧
      t.be = s.be ∧ t.cc = s.cc) ∧
  (∀ s : State, beRuns s = true → (s.sa.state = .tracking ∨ s.sa.state = .acquiring) → s.pb.excluded = true →
    ∃ t, exec .stepBoundary s = .next t ∧ t.pb.bins = s.pb.bins ∧ t.pb.meas = [] ∧ t.pb.excluded = false ∧
      getF t Reg.PB_ERR.NOT_LEARNED = 1 ∧ t.sa = s.sa ∧ t.be = s.be ∧ t.hap = s.hap) ∧
  (∀ (k tol st : Nat) (b : Bin) (m : Meas), (learnBin k tol st b m).seen = (if b.seen then b.seen else true) ∧
    (b.seen = false → (learnBin k tol st b m).mean = min (m.sum / m.n) 0xFFFF ∧ (learnBin k tol st b m).peak = min m.peak 0xFFFF ∧
      (learnBin k tol st b m).hits = 0) ∧
    (b.seen = true → (learnBin k tol st b m).hits ≤ 255 ∧ (b.peak ≤ m.peak → (learnBin k tol st b m).peak = min m.peak 0xFFFF) ∧
      ((learnBin k tol st b m).settled = true ↔ st ≤ (learnBin k tol st b m).hits))) ∧
  (∀ (s : State) (p : PbProgram) (key : Nat), beRuns s = true → dutyRuns s 2 = true → s.pb.pend = some (p, key) →
    ∃ t, exec .programSwitch s = .next t ∧ t.pb.prog = some p ∧ t.pb.pend = none ∧ t.pb.unload = false ∧
      (∀ a ∈ t.pb.active, ∃ id, a.eff = .forecast id) ∧ getF t Reg.PB_PROG_ID.ID = p.id % 2 ^ 32 ∧ t.sa.aX = s.sa.aX ∧
      (∀ x ∈ t.hr.flights, x.key ≠ key) ∧ t.be = s.be ∧ t.th = s.th) ∧
  (∀ s : State, beRuns s = true → dutyRuns s 2 = true → s.pb.pend = none → s.pb.unload = true →
    ∃ t, exec .programSwitch s = .next t ∧ t.pb.prog = none ∧ t.pb.inst = [] ∧ t.pb.unload = false ∧ t.pb.bins = s.pb.bins ∧
      getF t Reg.PB_PROG_ID.ID = 0 ∧ t.be = s.be ∧ t.hap = s.hap) ∧
  ∀ (s : State) (e : Effect) (a : PbActive), s.pb.active.find? (·.eff == e) = some a → ∃ t, exec (.actionMaxExpiry e) s = .next t ∧
    t.now = max s.now (a.since + us (getF s Reg.PB_ACTMAX.ACT_MAX_US)) ∧ { a with ending := some 1 } ∈ t.pb.active ∧
    t.pb.active.length = s.pb.active.length ∧ t.regs = s.regs ∧ t.hap = s.hap

/-- PHASEBOOK_LOAD, FORECAST and FORECAST_CANCEL: what refuses them, in order, and what they leave. A PHASEBOOK_LOAD that passes
R319 completes with HAP_READ where a read failed, with FORMAT and detail 0 where the length does not fit the header, with FORMAT
and the reason where a check of R215 fails, which PB_REJECT records. Otherwise its program replaces one that waits, whose
command completes with SUPERSEDED; it waits for a step boundary while the tracker is TRACKING, and takes effect at once in every
other state. While the read of the program or of the queue map cannot be made, the row waits with its descriptor. FORECAST
completes with FC_DISABLED while FC_EN is 0, with HAP_READ where the read of the queue map failed and with FC_UNMAPPED where the
queue has no account; with a table of 256 others it completes with FC_FULL, with its end not ahead of A_x with FC_STALE, with
its FC_ID active with FC_ACTIVE, and otherwise it is held once and completes OK. FORECAST_CANCEL completes with FC_DISABLED
while FC_EN is 0, removes one that has not started, marks an active one to end, and completes OK. (FC_DISABLED for a
cancellation is the model's choice, log entry 48, and so is a wrong length as FORMAT 0 before the other checks, log entry 20;
that a row stands for the end of its reads is log entry 8.) (R215, R216, R218, R219, R327) -/
def Obligations.PhaseBookCommandsAreJudged : Prop :=
  (∀ (s u v : State) (n : Nat) (d bs b : List Byte) (corr : Bool) (f : Flight), Turn s n d → dOp d = 0x30 →
    Passes s n d .pbLoad (loadSpec true d) →
    (u, f) = takeHead s n d .pbLoad → b = bs.take (leAt d 16 4) → v = readDone corr u f (leAt d 8 8) (leAt d 16 4) 0 →
    (readOpen s 0 = false → exec (.phasebookLoad (.data bs corr)) s = .next (settle s)) ∧ (readOpen s 0 = true →
    (progLen b ≠ leAt d 16 4 → exec (.phasebookLoad (.data bs corr)) s = .next (settle (complete v f 0x0012 0))) ∧
    (∀ k i, progLen b = leAt d 16 4 → programCheck v b = some (k, i) → exec (.phasebookLoad (.data bs corr)) s = .next (settle
      (complete (setF (setF v Reg.PB_REJECT.REASON k) Reg.PB_REJECT.INDEX i) f 0x0012 k))) ∧
    (progLen b = leAt d 16 4 → programCheck v b = none → exec (.phasebookLoad (.data bs corr)) s =
      .next (settle (acceptProgram v f (parseProgram b)))) ∧
    (∀ st, exec (.phasebookLoad (.fail st)) s = .next (settle (readFail u f (leAt d 8 8) (leAt d 16 4) 0 st.toNat))))) ∧
  (∀ (s u : State) (f : Flight) (p : PbProgram), u = (match s.pb.pend with
      | some (_, key) => completeKey s key 0x0013 0
      | none => s) →
    (s.sa.state = .tracking → acceptProgram s f p = setJob { u with pb.pend := some (p, f.key) } f .pbLoad) ∧
    (s.sa.state ≠ .tracking → acceptProgram s f p = switchPoint (setJob { u with pb.pend := some (p, f.key) } f .pbLoad))) ∧
  (∀ (s : State) (f : Flight) (a len c st : Nat), ∃ v, readFail s f a len c st = complete v f 0x0010 (max 1 (normStatus st)) ∧
    v.be = s.be ∧
    v.pb = s.pb ∧ v.mf = s.mf ∧ v.bg = s.bg ∧ v.th = s.th) ∧
  (∀ (s u v : State) (n q : Nat) (d bs : List Byte) (corr : Bool) (f : Flight), Turn s n d → dOp d = 0x31 →
    bitAt (byteAt d 10) 0 = false →
    Passes s n d .taken (forecastSpec d) → (u, f) = takeHead s n d .taken →
      v = readDone corr u f (mapBeat q (leAt d 12 4)) (mapLen q (leAt d 12 4)) 2 →
    (∀ m, flagOn u Reg.PB_CFG.FC_EN = false → exec (.forecast m) s = .next (settle (complete u f 0x0014 0))) ∧
    (∀ m, flagOn u Reg.PB_CFG.FC_EN = true → u.mf.bind (·.accounts) = none →
      exec (.forecast m) s = .next (settle (complete u f 0x0015 0))) ∧
    (∀ m x, flagOn u Reg.PB_CFG.FC_EN = true → u.mf.bind (·.accounts) = some x → readOpen s 2 = false →
      exec (.forecast m) s = .next (settle s)) ∧ (readOpen s 2 = true →
    (∀ r st, flagOn u Reg.PB_CFG.FC_EN = true → u.mf.bind (·.accounts) = some (q, r) →
      exec (.forecast (.fail st)) s = .next (settle (readFail u f (mapBeat q (leAt d 12 4)) (mapLen q (leAt d 12 4)) 2 st.toNat))) ∧
    (∀ r, flagOn u Reg.PB_CFG.FC_EN = true → u.mf.bind (·.accounts) = some (q, r) → mapEntry bs = none →
      exec (.forecast (.data bs corr)) s = .next (settle (complete v f 0x0015 0))) ∧
    (∀ r a, flagOn u Reg.PB_CFG.FC_EN = true → u.mf.bind (·.accounts) = some (q, r) → mapEntry bs = some a →
      exec (.forecast (.data bs corr)) s = .next (settle (takeForecast v f d a))))) ∧
  (∀ (u : State) (f : Flight) (d : List Byte) (a : Nat) (room : Prop),
    (room ↔ u.pb.fcs.length < 256 ∨ (u.pb.fcs.length = 256 ∧ u.pb.fcs.any (fun x => x.id == leAt d 8 2 && !x.active) = true)) →
    (u.pb.fcs.any (fun x => x.id == leAt d 8 2 && !x.active) = false → 256 ≤ u.pb.fcs.length →
      takeForecast u f d a = complete (setF u Reg.PB_ERR.FC_FULL 1) f 0x0016 0) ∧
    (room → ahead (BitVec.ofNat 32 (leAt d 20 4) + BitVec.ofNat 32 (leAt d 24 2)) u.sa.aX = false →
      takeForecast u f d a = complete (setF u Reg.PB_ERR.FC_STALE 1) f 0x0017 0) ∧
    (room → ahead (BitVec.ofNat 32 (leAt d 20 4) + BitVec.ofNat 32 (leAt d 24 2)) u.sa.aX = true →
      u.pb.fcs.any (fun x => x.id == leAt d 8 2 && x.active) = true → takeForecast u f d a = complete u f 0x0018 0) ∧
    (room → ahead (BitVec.ofNat 32 (leAt d 20 4) + BitVec.ofNat 32 (leAt d 24 2)) u.sa.aX = true →
      u.pb.fcs.any (fun x => x.id == leAt d 8 2 && x.active) = false →
      ((takeForecast u f d a).pb.fcs.filter (fun x => x.id == leAt d 8 2)).length = 1 ∧
      (∀ x ∈ u.pb.fcs, x.id ≠ leAt d 8 2 → x ∈ (takeForecast u f d a).pb.fcs) ∧ (takeForecast u f d a).pb.fcs.length ≤ 256)) ∧
  ∀ (s u : State) (n : Nat) (d : List Byte) (f : Flight), Turn s n d → dOp d = 0x31 → bitAt (byteAt d 10) 0 = true →
    Passes s n d .taken (cancelSpec d) → (u, f) = takeHead s n d .taken →
    (flagOn u Reg.PB_CFG.FC_EN = false → exec .forecastCancel s = .next (settle (complete u f 0x0014 0))) ∧
    (flagOn u Reg.PB_CFG.FC_EN = true → u.pb.fcs.find? (·.id == leAt d 8 2) = none →
      exec .forecastCancel s = .next (settle (complete u f 0 0))) ∧
    (∀ x, flagOn u Reg.PB_CFG.FC_EN = true → u.pb.fcs.find? (·.id == leAt d 8 2) = some x → x.active = false →
      exec .forecastCancel s = .next (settle (complete (armTimers (closeForecast u x 2)) f 0 0))) ∧
    (∀ x, flagOn u Reg.PB_CFG.FC_EN = true → u.pb.fcs.find? (·.id == leAt d 8 2) = some x → x.active = true →
      exec .forecastCancel s = .next (settle (complete (markEnd u (fun a => a.eff == .forecast (leAt d 8 2)) 2) f 0 0)))

/-- No command changes the integration parameters, and the reference build is one that R18 allows. Whatever command is taken, in
whatever state, the next state has the build the state had. The build after reset, the reference configuration, is within the
limits of R18. (R18) -/
def Obligations.BuildIsFixed : Prop :=
  (∀ (c : Instr) (s t : State), exec c s = .next t → t.build = s.build) ∧ BuildOk State.reset.build

/-- A slave request takes the effect of its register and is answered, or is answered with the error its rule names. A well-formed
write has the effect of regWrite and is answered GOOD; a well-formed read is answered GOOD with the word of its register, and
every register that it captures then reads the value it had at that instant. A request with a double-bit error is answered
POISON and recorded in HAP_ERR, a malformed one and a non-secure one to a secure mailbox are answered TGTERR, one to a sub-block
in reset is answered ISOL and recorded in HAP_ERR.ISOL, and one while the slave side does not answer is answered ISOL; none of
these has another effect. A corrected request is the same as an intact one, after HAP_ERR.CHK_CORR is set. Without the supply
nothing happens. The answer stands behind those not yet taken, of which HAP_SS holds 16 at most; that to a read has LEN + 1
beats, all of one status. A read is taken as a write is. (The order of the checks, a double-bit error before the form, the form
before a reset, a reset before the security of a mailbox, is a reading of the model, log entry 14.) (R43, R47, R48, R49, R51,
R52, R378, R457) -/
def Obligations.RequestsAreAnswered : Prop :=
  (∀ (s : State) (q : SlaveReq) (off : Nat), Accepted s q 1 off →
    exec (.registerWrite q) s = .next (settle (respond (regWrite s off (reqVal q) q.sec) q 0 0))) ∧
  (∀ (s : State) (q : SlaveReq) (off : Nat), Accepted s q 0 off → ¬ (0x1000 ≤ off ∧ off < 0x1100 ∧ off % 64 = 4) →
    ∃ t, exec (.captureRead q) s = .next t ∧ t.hap.ss = (respond s q 0 (readWord s off)).hap.ss ∧
      (∀ o ∈ capturedBy off, readWord t o = regWord s o) ∧
        (∀ o, o ∉ capturedBy off → t.captured.find? (·.1 == o) = s.captured.find? (·.1 == o)) ∧
      { t with hap.ss := s.hap.ss, captured := s.captured } = settle s) ∧
  (∀ (s : State) (q : SlaveReq), s.pins.vdd = true → answers s (reqOff q) = true → q.chk = .bad →
    exec (.registerWrite q) s = .next (settle (respond (hapErr s Reg.HAP_ERR.POISON 3 true (reqOff q) q.tag.toNat 3) q 3 0))) ∧
  (∀ (s : State) (q : SlaveReq), s.pins.vdd = true → answers s (reqOff q) = true → q.chk = .good → reqFits q = false →
    exec (.registerWrite q) s = .next (settle (respond s q 1 0)) ∧ exec (.captureRead q) s = .next (settle (respond s q 1 0))) ∧
  (∀ (s : State) (q : SlaveReq), s.pins.vdd = true → answers s (reqOff q) = true → q.chk = .good → reqFits q = true →
    isolated s (reqOff q) = true →
    exec (.registerWrite q) s = .next (settle (respond (hapErr s Reg.HAP_ERR.ISOL 6 true (reqOff q) q.tag.toNat 4) q 4 0))) ∧
  (∀ (s : State) (q : SlaveReq), s.pins.vdd = true → answers s (reqOff q) = true → q.chk = .good → reqFits q = true →
    isolated s (reqOff q) = false → 0x1080 ≤ reqOff q → reqOff q < 0x1100 → q.sec = false →
    exec (.mbH2fDataWrite q) s = .next (settle (respond s q 1 0)) ∧ exec (.mbF2hDataRead q) s = .next (settle (respond s q 1 0))) ∧
  (∀ (s : State) (q : SlaveReq), s.pins.vdd = true → answers s (reqOff q) = false →
    exec (.registerWrite q) s = .next (settle (respond s q 4 0))) ∧
  (∀ (s : State) (q : SlaveReq), s.pins.vdd = true → answers s (reqOff q) = true → q.chk = .corrected →
    exec (.registerWrite q) s = exec (.registerWrite { q with chk := .good }) (setF s Reg.HAP_ERR.CHK_CORR 1)) ∧
  (∀ (s : State) (q : SlaveReq), s.pins.vdd = false → exec (.registerWrite q) s = .next (settle s)) ∧
  (∀ (s : State) (q : SlaveReq), exec (.captureRead q) s = exec (.registerWrite q) s) ∧
  ∀ (s : State) (q : SlaveReq) (st d : Nat), (s.hap.ss.length ≤ 15 →
    (respond s q st d).hap.ss = s.hap.ss ++ [⟨q.tag.toNat, st, d, moreBeats q⟩]) ∧
    (respond s q st d).hap.ss.length ≤ 16 ∧ (respond s q st d).hap.ss.getLast? = some ⟨q.tag.toNat, st, d, moreBeats q⟩ ∧
    moreBeats q = (if q.type = 0 then q.len.toNat else 0) ∧ { respond s q st d with hap.ss := s.hap.ss } = s

/-- What a register write does by field type: SU while its domain runs, RW beside SU, W1C, RO, WO, and reserved offsets. A write
that would change BE_DISP_FS while a domain runs is discarded and raises one Register event; with every domain stopped, or with
the present value, it sets the clamped value. PB_CFG.LSHIFT takes its value beside a BIN_LOG2 that is discarded. Each bit of
HAP_ERR written as 1 clears, and each written as 0 stays. HAP_ERR_ADDR_LO keeps its value, BE_STOP reads 0, and at 0xA000 and
above a write has no effect and a read gives 0. (R8, R9, R10) -/
def Obligations.FieldTypesGovernWrites : Prop :=
  (∀ (s : State) (v : Nat) (sec : Bool), (allStopped s = true ∨ clampNat 1 4095 (bitsAt v 0 12) = getF s Reg.BE_DISP_FS.FS) →
    regWrite s 0x2014 v sec = setF s Reg.BE_DISP_FS.FS (clampNat 1 4095 (bitsAt v 0 12))) ∧
  (∀ (s : State) (v : Nat) (sec : Bool), allStopped s = false → clampNat 1 4095 (bitsAt v 0 12) ≠ getF s Reg.BE_DISP_FS.FS →
    regWrite s 0x2014 v sec = regEventRaise s 1 0x2014 v) ∧
  (∀ (s : State) (v : Nat) (sec : Bool), getF (regWrite s 0x2C00 v sec) Reg.PB_CFG.LSHIFT = bitsAt v 4 4 ∧
    (allStopped s = true → getF (regWrite s 0x2C00 v sec) Reg.PB_CFG.BIN_LOG2 = clampNat 8 12 (bitsAt v 20 4)) ∧
    (allStopped s = false → clampNat 8 12 (bitsAt v 20 4) ≠ getF s Reg.PB_CFG.BIN_LOG2 →
      getF (regWrite s 0x2C00 v sec) Reg.PB_CFG.BIN_LOG2 = getF s Reg.PB_CFG.BIN_LOG2)) ∧
  (∀ (s : State) (v : Nat) (sec : Bool), ∀ k < 7, getF (regWrite s 0x0F04 v sec) ⟨0x0F04, k, 1, 0⟩ =
    if bitAt v k then 0 else getF s ⟨0x0F04, k, 1, 0⟩ % 2) ∧
  (∀ (s : State) (v : Nat) (sec : Bool), getF (regWrite s 0x0F08 v sec) Reg.HAP_ERR_ADDR_LO.ADDR = getF s Reg.HAP_ERR_ADDR_LO.ADDR % 2 ^ 32 ∧
    regWord s 0x2004 = 0) ∧
  ∀ (s : State) (off v : Nat) (sec : Bool), BuildOk s.build → 0xA000 ≤ off → regWrite s off v sec = s ∧ regWord s off = 0

/-- Writes of SA_CFG, BE_STOP, BE_START, the Brim registers, the generators’ limits and BE_LDATA. SA_CFG.EN from 0 to 1, with its
domain stopped, acquires and clears the counters of SA_ERR; from 1 to 0 it turns the tracker off and every effect ends. BE_STOP
and BE_START join the requests for the next frame boundary. A Brim register takes the lower of the value written and its fuse
value, at once. A generator limit takes the clamped value. BE_LDATA of a loop that runs queues a live word, of a loop that does
not run it applies at once, and with 256 words pending either is discarded with an event; an invalid word and words 7 to 15 have
no effect; W0 and W1 apply only while the domains are stopped. (R84, R106, R107, R109, R110, R115, R116, R119, R459) -/
def Obligations.BandAndAngleWritesTakeEffect : Prop :=
  (∀ (s : State) (q : SlaveReq), Accepted s q 1 0x0440 → ∃ t, exec (.trackerEnable q) s = .next t ∧
    t.hap.ss.getLast? = some ⟨q.tag.toNat, 0, 0, 0⟩ ∧ t.be = s.be ∧
    (allStopped s = true → flagOn s Reg.SA_CFG.EN = false → bitAt (reqVal q) 0 = true →
      t.sa = { s.sa with state := .acquiring, first := false, acceptedAt := s.now, exAt := s.now } ∧
      getF t Reg.SA_ERR.LOST_TGL = 0 ∧ getF t Reg.SA_ERR.BACKWARD = 0 ∧ getF t Reg.SA_ERR.JUMP = 0 ∧ getF t Reg.SA_ERR.LOSS = 0 ∧
        t.pb = s.pb) ∧
    (allStopped s = true → flagOn s Reg.SA_CFG.EN = true → bitAt (reqVal q) 0 = false → t.sa = { s.sa with state := .off } ∧
      t.pb.excluded = true ∧
      ∀ a ∈ t.pb.active, a.ending ≠ none) ∧
    (allStopped s = false → bitAt (reqVal q) 0 ≠ flagOn s Reg.SA_CFG.EN → t.sa = s.sa ∧ t.pb = s.pb ∧
      getF t Reg.SA_CFG.EN = getF s Reg.SA_CFG.EN)) ∧
  (∀ (s : State) (q : SlaveReq), Accepted s q 1 0x2004 → bitsAt (reqVal q) 0 17 ≠ 0 → exec (.beStopWrite q) s = .next (settle
    (respond { s with be.reqs := s.be.reqs ++ [⟨false, bitsAt (reqVal q) 0 16, bitAt (reqVal q) 16, none⟩] } q 0 0))) ∧
  (∀ (s : State) (q : SlaveReq), Accepted s q 1 0x2008 → bitsAt (reqVal q) 0 17 ≠ 0 → exec (.beStartWrite q) s = .next (settle
    (respond { s with be.reqs := s.be.reqs ++ [⟨true, bitsAt (reqVal q) 0 16, bitAt (reqVal q) 16, none⟩] } q 0 0))) ∧
  (∀ (s : State) (q : SlaveReq), Accepted s q 1 0x2020 →
    ∃ u, exec (.brimWrite q) s = .next (settle (respond (lowerAll u) q 0 0)) ∧ { u with regs := s.regs } = s ∧
    getF u Reg.BRIM_FREQ.LEVEL = min (bitsAt (fuse s 2) 0 4) (bitsAt (reqVal q) 0 4)) ∧
  (∀ (s : State) (q : SlaveReq), Accepted s q 1 0x2024 →
    ∃ u, exec (.brimWrite q) s = .next (settle (respond (lowerAll u) q 0 0)) ∧ { u with regs := s.regs } = s ∧
    getF u Reg.BRIM_DISP.RATE = min (bitsAt (fuse s 2) 4 12) (bitsAt (reqVal q) 0 12)) ∧
  (∀ (s : State) (q : SlaveReq) (n : Nat), n < 6 → Accepted s q 1 (0x2028 + 4 * n) →
    ∃ u, exec (.brimWrite q) s = .next (settle (respond (lowerAll u) q 0 0)) ∧
    { u with regs := s.regs } = s ∧ getF u (Reg.BRIM_VTGT.LO n) = min (bitsAt (fuse s (3 + n)) 0 10) (bitsAt (reqVal q) 0 10) ∧
    getF u (Reg.BRIM_VTGT.HI n) = if 2 * n + 1 < s.build.rails then min (bitsAt (fuse s (3 + n)) 10 10) (bitsAt (reqVal q) 16 10) else 0) ∧
  (∀ (s : State) (q : SlaveReq) (p : Nat), p < 64 →
    (Accepted s q 1 (0x2400 + 32 * p) → exec (.pgLimitWrite q) s = .next (settle (respond (setF s (Reg.PG_VMAX.VMAX p) (max 1 (bitsAt (reqVal q) 0 31))) q 0 0))) ∧
    (Accepted s q 1 (0x2404 + 32 * p) → exec (.pgLimitWrite q) s = .next (settle (respond (setF s (Reg.PG_AMAX.AMAX p) (max 1 (bitsAt (reqVal q) 0 31))) q 0 0))) ∧
    (Accepted s q 1 (0x2408 + 32 * p) → exec (.pgLimitWrite q) s = .next (settle (respond (setF s (Reg.PG_JMAX.JMAX p) (max 1 (bitsAt (reqVal q) 0 31))) q 0 0))) ∧
    (Accepted s q 1 (0x240C + 32 * p) → exec (.pgLimitWrite q) s = .next (settle (respond (setF s (Reg.PG_CFG.SHIFT p) (min 16 (bitsAt (reqVal q) 0 5))) q 0 0)))) ∧
  (∀ (s : State) (q : SlaveReq) (l w : Nat), w < 16 → Accepted s q 1 (0x20C0 + 4 * w) → l = getF s Reg.BE_LSEL.LOOP →
    ((7 ≤ w ∨ 2 ≤ w ∧ wordOk w (reqVal q) = false) → exec (.loopDataWrite q) s = .next (settle (respond s q 0 0))) ∧
    (2 ≤ w → wordOk w (reqVal q) = true → lpRuns s (loop s l) = false → s.be.words.length < 256 →
      exec (.loopDataWrite q) s = .next (settle
      (respond (applyWord s l w (reqVal q) (bitAt s.be.stopped (lpDom (loop s l)))) q 0 0))) ∧
    (2 ≤ w → wordOk w (reqVal q) = true → lpRuns s (loop s l) = true → s.be.words.length < 256 →
      exec (.loopDataWrite q) s = .next (settle
      (respond { s with be.words := s.be.words ++ [⟨l, w, reqVal q, none⟩] } q 0 0))) ∧
    (2 ≤ w → wordOk w (reqVal q) = true → 256 ≤ s.be.words.length → exec (.loopDataWrite q) s = .next (settle
      (respond (regEventRaise s 2 (0x20C0 + 4 * w) (reqVal q)) q 0 0))) ∧
    (w = 0 → clrBits (reqVal q) 0xE ≠ lpWord (loop s l) 0 → bitAt s.be.stopped (lpDom (loop s l)) = false →
      exec (.loopDataWrite q) s = .next (settle
      (respond (regEventRaise s 1 0x20C0 (reqVal q)) q 0 0))) ∧
    (w = 1 → clrBits (reqVal q) 0xFE000000 ≠ lpWord (loop s l) 1 → bitAt s.be.stopped (lpDom (loop s l)) = true →
      exec (.loopDataWrite q) s = .next (settle
      (respond (applyWord s l 1 (clrBits (reqVal q) 0xFE000000) true) q 0 0))) ∧
    (w = 0 → clrBits (reqVal q) 0xE ≠ lpWord (loop s l) 0 → bitAt s.be.stopped (lpDom (loop s l)) = true →
      bitAt s.be.stopped (bitsAt (reqVal q) 4 4) = true →
        exec (.loopDataWrite q) s = .next (settle (respond (applyWord s l 0 (clrBits (reqVal q) 0xE) true) q 0 0))) ∧
    (w = 0 → clrBits (reqVal q) 0xE ≠ lpWord (loop s l) 0 → bitAt s.be.stopped (bitsAt (reqVal q) 4 4) = false →
      exec (.loopDataWrite q) s = .next (settle (respond (regEventRaise s 1 0x20C0 (reqVal q)) q 0 0))))

/-- Writes of a rail’s flags and source, the audit, the Phase Book, TH_CFG and the limit sets. Clearing all of RAILr_FLT[4:0] takes
a FAULTED rail OFF. A change of RAILr_CFG.SRC on a rail that is UP lets its target move. CC_AUDIT.NOW starts an audit. PB_CTL
clears the bins, or unloads the program at once or at the end of the step. A change of BIN_LOG2 empties the bins; clearing
ACTIONS drops the instances and ends the program’s actions. OBS_EN from 0 to 1 with a model initialises every node. A limit set
out of order keeps its values and sets TH_ERR.LIM_ORDER, and T_TRIP does not rise above its fuse value. (That a change of
BIN_LOG2 excludes the step in progress is the model's choice, and a write that does not change it empties nothing, log entry
48.) (R142, R154, R193, R200, R216, R217, R233, R243) -/
def Obligations.UnitWritesTakeEffect : Prop :=
  (∀ (s : State) (q : SlaveReq) (r : Nat), BuildOk s.build → r < s.build.rails → Accepted s q 1 (0x3134 + 64 * r) →
    ∃ t, exec (.railFltClear q) s = .next t ∧
      (∀ k < 7, getF t ⟨0x3134 + 64 * r, k, 1, 0⟩ = if bitAt (reqVal q) k then 0 else getF s ⟨0x3134 + 64 * r, k, 1, 0⟩ % 2) ∧
      ((rail s r).st = .faulted → railFlt t r % 32 = 0 → rail t r = { rail s r with st := .off }) ∧
      (((rail s r).st ≠ .faulted ∨ railFlt t r % 32 ≠ 0) → t.pc = s.pc) ∧ t.be = s.be ∧ t.th = s.th ∧ t.cc = s.cc) ∧
  (∀ (s : State) (q : SlaveReq) (r : Nat), BuildOk s.build → r < s.build.rails → Accepted s q 1 (0x3100 + 64 * r) →
    exec (.railSrcWrite q) s = .next (settle (respond (srcWritten s (written s (0x3100 + 64 * r) (reqVal q)) r) q 0 0)) ∧
      railSrc (written s (0x3100 + 64 * r) (reqVal q)) r = bitAt (reqVal q) 0 ∧ (written s (0x3100 + 64 * r) (reqVal q)).pc = s.pc ∧
      (∀ u, railSrc s r ≠ railSrc u r → (rail u r).st = .up → srcWritten s u r = lowerAll (setRail u r { rail u r with
        srcMove := true, tgt := 500 * railTarget s r, vset := if railSrc u r then vsetGoal u r else (rail u r).vset
        vset0 := if railSrc u r then vsetWith u r 0 else (rail u r).vset0 })) ∧
      ∀ u, (railSrc s r = railSrc u r ∨ (rail u r).st ≠ .up) → srcWritten s u r = u) ∧
  (∀ (s : State) (q : SlaveReq), BuildOk s.build → Accepted s q 1 0x4018 → bitAt (reqVal q) 16 = true →
    ∃ u, exec (.auditNowWrite q) s =
      .next (settle (respond (if released s 6 then { u with cc.audit := some ⟨auditEntries s, auditAhead s, false⟩ } else u) q 0 0)) ∧ { u with regs := s.regs } = s ∧
      getF u Reg.CC_AUDIT.PERIOD_US = max 100 (bitsAt (reqVal q) 0 16)) ∧
  (∀ (s : State) (q : SlaveReq), Accepted s q 1 0x2C14 → bitAt (reqVal q) 0 = true → bitAt (reqVal q) 1 = false →
    ∃ t, exec (.pbClearBins q) s = .next t ∧
      t.pb = { s.pb with bins := [] } ∧ t.sa = s.sa ∧ t.be = s.be ∧ t.regs = (convEvent s { s with pb.bins := [] }).regs) ∧
  (∀ (s : State) (q : SlaveReq), Accepted s q 1 0x2C14 → bitAt (reqVal q) 0 = false → bitAt (reqVal q) 1 = true →
      (s.sa.state = .tracking → exec (.pbUnload q) s = .next (settle (respond { s with pb.unload := true } q 0 0))) ∧
      (s.sa.state ≠ .tracking → beRuns s = true → dutyRuns s 2 = true → s.pb.pend = none → ∃ t, exec (.pbUnload q) s = .next t ∧
        t.pb.prog = none ∧
        t.pb.inst = [] ∧ t.pb.unload = false ∧ t.pb.bins = s.pb.bins ∧ getF t Reg.PB_PROG_ID.ID = 0)) ∧
  (∀ (s : State) (q : SlaveReq), Accepted s q 1 0x2C00 → allStopped s = true →
    clampNat 8 12 (bitsAt (reqVal q) 20 4) ≠ getF s Reg.PB_CFG.BIN_LOG2 →
      ∃ t, exec (.pbBinLog2Write q) s = .next t ∧ t.pb.bins = [] ∧ t.pb.meas = [] ∧ t.pb.excluded = true ∧ t.pb.prog = s.pb.prog ∧
      getF t Reg.PB_CFG.BIN_LOG2 = clampNat 8 12 (bitsAt (reqVal q) 20 4)) ∧
  (∀ (s : State) (q : SlaveReq), Accepted s q 1 0x2C00 → flagOn s Reg.PB_CFG.ACTIONS = true → bitAt (reqVal q) 2 = false →
      ∃ t, exec (.pbActionsDisable q) s = .next t ∧ t.pb.inst = [] ∧ flagOn t Reg.PB_CFG.ACTIONS = false ∧
        t.pb.active.length = s.pb.active.length ∧
      (∀ a ∈ t.pb.active, ∀ k, a.eff = .action k → a.ending ≠ none) ∧ t.pb.prog = s.pb.prog ∧ t.pb.fcs = s.pb.fcs) ∧
  (∀ (s : State) (q : SlaveReq), BuildOk s.build → Accepted s q 1 0x5000 → flagOn s Reg.TH_CFG.OBS_EN = false →
    bitAt (reqVal q) 0 = true → s.th.model.isSome = true →
      ∃ t, exec (.observerEnable q) s = .next t ∧ flagOn t Reg.TH_CFG.OBS_EN = true ∧ t.th.solveAt = s.now ∧
        t.th.settling = true ∧ t.th.solves = 0 ∧
      t.th.nodes = (initNodes (written s 0x5000 (reqVal q))).th.nodes ∧ getF t Reg.TH_OBS_STATUS.SETTLING = 1) ∧
  ∀ (s : State) (q : SlaveReq) (n k : Nat), n < 4 → k < 4 → BuildOk s.build → Accepted s q 1 (0x5010 + 16 * n + 4 * k) →
    exec (.limitSetWrite q) s = .next (settle (respond (limitWritten s n (written s (0x5010 + 16 * n + 4 * k) (reqVal q))) q 0 0)) ∧
    ∀ t, t = limitWritten s n (written s (0x5010 + 16 * n + 4 * k) (reqVal q)) →
      (∀ m j, m < 4 → j < 4 → m ≠ n ∨ j ≠ k →
        ∀ b < 32, ∀ w d, getF t ⟨0x5010 + 16 * m + 4 * j, b, w, d⟩ = getF s ⟨0x5010 + 16 * m + 4 * j, b, w, d⟩) ∧
      (k = 2 → getF t (Reg.TH_LS_C.T_TRIP n) ≤ max (getF s (Reg.TH_LS_C.T_TRIP n)) (fuseTrip s n)) ∧
      (limOk t n = true ∨ getF t Reg.TH_ERR.LIM_ORDER = 1 ∧
        ∀ b < 32, ∀ w d, getF t ⟨0x5010 + 16 * n + 4 * k, b, w, d⟩ = getF s ⟨0x5010 + 16 * n + 4 * k, b, w, d⟩) ∧
      (k = 0 → bitsAt (reqVal q) 0 12 ≤ bitsAt (reqVal q) 16 12 → getF s (Reg.TH_LS_C.T_REARM n) < bitsAt (reqVal q) 16 12 →
        bitsAt (reqVal q) 16 12 < getF s (Reg.TH_LS_B.T_SD n) → getF s (Reg.TH_LS_B.T_SD n) < getF s (Reg.TH_LS_B.T_LIM n) →
        getF s (Reg.TH_LS_B.T_LIM n) ≤ getF s (Reg.TH_LS_C.T_TRIP n) →
        getF t (Reg.TH_LS_A.T_WARN n) = bitsAt (reqVal q) 0 12 ∧ getF t (Reg.TH_LS_A.T_THR n) = bitsAt (reqVal q) 16 12)

/-- Writes and reads of the rings, queue bindings, reports, resets, freeze, wear, duplex and mailbox registers. RINGn_CFG.EN from 0
to 1 on an idle ring starts it with every index 0, and from 1 to 0 drops what waits and leaves it IDLE where nothing is in
flight and no completion waits for the mirror; SEC takes a secure write only. BG_QBINDt asks for the binding of the next frame
boundary. BG_RPT_CONS lets a held report go. RS_SUB.HOLD takes a sub-block into reset, where the condition of R399 stands and
else reads 0 again, or out of it. OBS_THAW, OBS_LO_CTL.CLEAR and SP_WEAR_SEL act at once, DU_CTL.TAKEOVER only in MODE 01. A
word written to a mailbox queue of 16 is dropped and counted, else it joins the queue, and may complete a message whose header
waits; a read of MBc_F2H_DATA removes the oldest word. (The model's readings and choices: the host's indices are 0 at an enable,
log entry 19; a late word completes a message without a new doorbell, log entry 59; a hold that the condition refuses, log entry
24.) (R299, R307, R316, R324, R345, R348, R373, R400, R416, R424, R434) -/
def Obligations.HostWritesTakeEffect : Prop :=
  (∀ (s : State) (q : SlaveReq) (n : Nat), n < 64 → Accepted s q 1 (0x0A08 + 16 * n) → (ring s n).idle = true →
    ringEn s n = false → bitAt (reqVal q) 0 = true →
    ∃ t, exec (.ringEnable q) s = .next t ∧ ring t n = { idle := false, lost := (ring s n).lost } ∧ ringEn t n = true ∧
      t.hr.flights = s.hr.flights ∧
      ringSec t n = (if q.sec then bitAt (reqVal q) 2 else getF s (Reg.RING_CFG.SEC n) % 2 == 1) ∧
      getF t (Reg.RING_CFG.SIZE_LOG2 n) = clampNat 4 12 (bitsAt (reqVal q) 8 4) ∧ (∀ m, m ≠ n → ring t m = ring s m)) ∧
  (∀ (s : State) (q : SlaveReq) (n : Nat), n < 64 → Accepted s q 1 (0x0A08 + 16 * n) → ringEn s n = true →
    bitAt (reqVal q) 0 = false →
    clampNat 4 12 (bitsAt (reqVal q) 8 4) = getF s (Reg.RING_CFG.SIZE_LOG2 n) →
    ∃ t, exec (.ringDisable q) s = .next t ∧ (ring t n).ready = [] ∧ (ring t n).fetching = false ∧ (ring t n).held = [] ∧
      ((ringFlights s n).isEmpty = true → ringWaits s n = 0 → (ring t n).idle = true ∧ (ring t n).error = false) ∧
      ((ringFlights s n).isEmpty = false ∨ ringWaits s n ≠ 0 → (ring t n).idle = (ring s n).idle) ∧ ringEn t n = false ∧
        t.hr.flights = s.hr.flights ∧
      (∀ m, m ≠ n → ring t m = ring s m)) ∧
  (∀ (s : State) (q : SlaveReq) (x : Nat), BuildOk s.build → x < s.build.tiles → Accepted s q 1 (0x6400 + 4 * x) →
    ∃ u, exec (.qbindWrite q) s =
    .next (settle (respond (setBind u x { bind s x with want := some (if bitAt (reqVal q) 31 then some (bitsAt (reqVal q) 0 18) else none) }) q 0 0)) ∧
    { u with regs := s.regs } = s) ∧
  (∀ (s : State) (q : SlaveReq), BuildOk s.build → Accepted s q 1 0x608C →
    exec (.rptConsWrite q) s = .next (settle (respond (pumpReports (setF s Reg.BG_RPT_CONS.INDEX (bitsAt (reqVal q) 0 32))) q 0 0))) ∧
  (∀ (s : State) (q : SlaveReq) (c : Nat), Accepted s q 1 0x010C → 1 ≤ c → c ≤ 8 →
    (∀ k < 8, bitAt (bitsAt (reqVal q) 1 8) k = (bitAt (getF s Reg.RS_SUB.HOLD) k != (k == c - 1))) →
    (bitAt (getF s Reg.RS_SUB.HOLD) (c - 1) = false → ∀ u, u = setF s Reg.RS_SUB.HOLD (bitsAt (reqVal q) 1 8) →
      (subMay u c = true → exec (.subBlockHold q) s = .next (settle (respond (subEnter u c) q 0 0))) ∧
      (subMay u c = false → exec (.subBlockHold q) s = .next (settle
        (respond (setF u Reg.RS_SUB.HOLD (clrBit (getF u Reg.RS_SUB.HOLD) (c - 1))) q 0 0)))) ∧
    (bitAt (getF s Reg.RS_SUB.HOLD) (c - 1) = true → exec (.subBlockRelease q) s = .next (settle
      (respond (subLeave (setF s Reg.RS_SUB.HOLD (bitsAt (reqVal q) 1 8)) c) q 0 0)))) ∧
  (∀ (s : State) (q : SlaveReq), BuildOk s.build → bitAt (reqVal q) 0 = true →
    (Accepted s q 1 0x7024 → exec (.thawWrite q) s = .next (settle (respond (grantTiles (settle (thawNow s))) q 0 0))) ∧
    (Accepted s q 1 0x7078 → exec (.obsClearWrite q) s = .next (settle (respond { s with obs.loClr := true } q 0 0))) ∧
    (Accepted s q 1 0x9004 → exec (.forcedTakeover q) s = .next (settle (respond
      (if s.du.mode = 1 then { setF s Reg.DU_FAULT.FORCED 1 with du.asked := true } else s) q 0 0)))) ∧
  (∀ (s : State) (q : SlaveReq), BuildOk s.build → Accepted s q 1 0x8054 →
    exec (.wearSelWrite q) s = .next (settle (respond (wearForm (setF s Reg.SP_WEAR_SEL.REGION (bitsAt (reqVal q) 0 8))) q 0 0))) ∧
  (∀ (s : State) (q : SlaveReq) (c : Nat), c < 4 → Accepted s q 1 (0x1000 + 64 * c) →
    (16 ≤ (mbox s c).h2f.length → exec (.mbH2fDataWrite q) s = .next (settle (respond (incSat s (Reg.MB_DROP.H2F c)) q 0 0))) ∧
    ((mbox s c).h2f.length < 16 → (mbox s c).partAt = none → exec (.mbH2fDataWrite q) s = .next (settle
      (respond (setMbox s c { mbox s c with h2f := (mbox s c).h2f ++ [reqVal q] }) q 0 0))) ∧
    ((mbox s c).h2f.length < 16 → (mbox s c).partAt ≠ none → exec (.mbH2fDataWrite q) s = .next (settle
      (respond (mbTake (setMbox s c { mbox s c with h2f := (mbox s c).h2f ++ [reqVal q] }) c) q 0 0)))) ∧
  ∀ (s : State) (q : SlaveReq) (c : Nat), c < 4 → Accepted s q 0 (0x1004 + 64 * c) →
    s.captured.find? (·.1 == 0x1004 + 64 * c) = none →
    exec (.mbF2hDataRead q) s = .next (settle (respond (mbPop s c) q 0 ((mbox s c).f2h.headD 0))) ∧
    ((mbox s c).replies = [] → mbPop s c = setMbox s c { mbox s c with f2h := (mbox s c).f2h.tail })

/-- A sample window converts and judges every sensor, and a thermal ceiling is called, joined and lifted. Once step 6 is released a
window takes the counts 20 µs after the last, and before that it does nothing. A converted value lies from -1,024 to 4,095 in
0.0625 °C. A TRUSTED or SUSPECT sensor that fails a hard check shows the value, sets SNS_FAIL and is replaced by its spare
channel or is ABSENT, and one that passes takes its value. XC_COUNT disagreeing samples in a row make a TRUSTED sensor SUSPECT,
as many agreeing ones make it TRUSTED again, and 8 times as many disagreeing ones end it. The value used of a SUSPECT sensor is
not below its value. A position at T_THR, or rising at R_THR, calls a ceiling at level THR_LEVEL + 1; the ceiling lifts 1 ms
after it was applied, once every caller has cooled, and not before; an orphan lifts its own when it hears the hub again. A
position at T_LIM, or a sensor at T_SD, shuts the block down. (The model's readings: a ceiling keeps its lowest level until it
lifts, and an orphan lifts its own, log entry 50; VALUE follows every sample, and a spare is brought in within the window, log
entry 49.) (R226, R227, R239, R240, R241, R246, R247, R250) -/
def Obligations.SensorsAndCeilingsFollowTheirRules : Prop :=
  (∀ (s u : State) (counts : List (Nat × Nat)), u = advanceTo s (s.th.sampleAt + us 20) → exec (.sensorSampleWindow counts) s =
    .next (settle (if released s 6 then sampleWindow counts { u with th.sampleAt := u.now } else s))) ∧
  (∀ (s : State) (n c count : Nat) (o : Int), -1024 ≤ snsConvert s n c o count ∧ snsConvert s n c o count ≤ 4095) ∧
  (∀ (s : State) (n count : Nat), ((sns s n).st = .trusted ∨ (sns s n).st = .suspect) →
    (hardOk s n (sns s n) count (snsConvert s n (sns s n).chan (sns s n).ofs count) = true →
      sns (sampleOne s n count) n = takeVal (sns s n) (snsConvert s n (sns s n).chan (sns s n).ofs count)) ∧
    (hardOk s n (sns s n) count (snsConvert s n (sns s n).chan (sns s n).ofs count) = false →
      (sns (sampleOne s n count) n).st = (if (sns s n).spareOk then .trimming else .absent) ∧
        getF (sampleOne s n count) Reg.TH_ERR.SNS_FAIL = 1 ∧
      (sns (sampleOne s n count) n).val = snsConvert s n (sns s n).chan (sns s n).ofs count)) ∧
  (∀ (s : State) (n : Nat), (sns s n).st = .trusted → getF s Reg.TH_XCHK.XC_COUNT ≤ (sns s n).disRun + 1 →
    (sns (transition s n (some false)) n).st = .suspect ∧ getF (transition s n (some false)) Reg.TH_ERR.SNS_SUSPECT = 1) ∧
  (∀ (s : State) (n : Nat), (sns s n).st = .trusted → (sns s n).disRun + 1 < getF s Reg.TH_XCHK.XC_COUNT →
    sns (transition s n (some false)) n = { sns s n with disRun := (sns s n).disRun + 1, agreeRun := 0 }) ∧
  (∀ (s : State) (n : Nat), (sns s n).st = .suspect → getF s Reg.TH_XCHK.XC_COUNT ≤ (sns s n).agreeRun + 1 →
    (sns (transition s n (some true)) n).st = .trusted) ∧
  (∀ (s : State) (n : Nat), (sns s n).st = .suspect → 8 * getF s Reg.TH_XCHK.XC_COUNT ≤ (sns s n).disRun + 1 →
    (sns (transition s n (some false)) n).st = (if (sns s n).spareOk then .trimming else .absent) ∧
    getF (transition s n (some false)) Reg.TH_ERR.SNS_FAIL = 1) ∧
  (∀ (s : State) (n : Nat), snsInReset s n = false → ((sns s n).st = .trusted → snsUsed s n = (sns s n).val) ∧
    ((sns s n).st = .suspect → (sns s n).val ≤ snsUsed s n)) ∧
  (∀ (s : State) (p : Pos), posCalls s p = true ↔ 8 * thSet s p.set Reg.TH_LS_A.T_THR ≤ p.t ∨ 8 * thSet s p.set Reg.TH_LS_D.R_THR ≤ p.rate) ∧
  (∀ (s : State) (p : Pos), (posCalls s p = false → ceilPos s p = s) ∧
    (posCalls s p = true → ∀ t, p.region = some t → ceilPos s p = ceilOne s p t)) ∧
  (∀ (s : State) (p : Pos) (t : Nat), ((thCeil s t).callers = [] →
    thCeil (ceilOne s p t) t = ⟨getF s (Reg.TH_LS_D.THR_LEVEL p.set) + 1, s.now, [p.id]⟩) ∧
    ((thCeil s t).callers ≠ [] → (thCeil (ceilOne s p t) t).level = min (thCeil s t).level (getF s (Reg.TH_LS_D.THR_LEVEL p.set) + 1) ∧
      (thCeil (ceilOne s p t) t).at_ = (thCeil s t).at_ ∧ p.id ∈ (thCeil (ceilOne s p t) t).callers)) ∧
  (∀ (s : State) (t : Nat), released s 6 = true → (thCeil s t).callers ≠ [] →
    (((positions s).filter (fun p => (thCeil s t).callers.contains p.id)).all (posCool s) = true →
      ∃ v, exec (.thermalCeilingLift t) s = .next v ∧
      v.now = max s.now ((thCeil s t).at_ + ms 1) ∧ thCeil v t = {} ∧ ((tile s t).orphan = false → (tile v t).localCeil = 16) ∧
      ((tile s t).orphan = true → (tile v t).liftDue = true ∧ (tile v t).localCeil = (tile s t).localCeil) ∧
        (∀ k, k ≠ t → thCeil v k = thCeil s k) ∧ v.regs = s.regs ∧
      v.th.sns = s.th.sns ∧ v.be = s.be) ∧
    (((positions s).filter (fun p => (thCeil s t).callers.contains p.id)).all (posCool s) = false →
      exec (.thermalCeilingLift t) s = .next (settle s))) ∧
  (∀ (s : State) (t : Nat), released s 6 = false ∨ (thCeil s t).callers = [] → exec (.thermalCeilingLift t) s = .next (settle s)) ∧
  ∀ (s : State) (ps : List Pos) (p : Pos), p ∈ ps → (8 * thSet s p.set Reg.TH_LS_B.T_LIM ≤ p.t ∨ p.id < 4096 ∧
    8 * thSet s p.set Reg.TH_LS_B.T_SD ≤ p.t) →
    (thCauses s ps).th.sd ≠ .run

/-- A round of Sizing, its fallback, the poll of flow and inlet temperature, and what a reading or a miss changes. A round of 64
samples that ended while no core carried the power core’s duties starts again. One whose means do not meet step 2 keeps its
means for the next. One that does sets each offset to the reference less the mean, a sensor off by more than 8 °C fails, and
Sizing is done; with no inlet reading it falls back to FUSE_ONLY, as it does at WAIT_MS while a core carries the duties. With no
round complete, or no Sizing, nothing happens. A poll goes out POLL_MS after the last, and is missed while no core carries the
duties or while the last one still waits. A reading sets FLOW, VALID, F and T_COOL, clears the misses and LOST, and is judged
against NOM_FLOW: LOW_PCT, at each reading below it, its return 5 percent higher, and MIN_PCT, which shuts the block down.
MISS_LIMIT misses in a row set LOST; a target that did not acknowledge its address is marked absent, and the poll is a miss.
(The model's readings: a poll due while another waits is missed, and what a poll without acknowledgement does beside R58, log
entry 51; an offset is clamped to OFS's range, log entry 49; a round begun again, log entry 31.) (R58, R228, R229, R235, R236,
R259, R260, R350, R361) -/
def Obligations.SizingAndCoolantAreTaken : Prop :=
  (∀ (s : State) (inlet : Option Int), s.th.sizing.on = true → s.th.sizing.n = 64 → dutyRuns s 1 = false →
    ∃ t, exec (.sizingRoundDone inlet) s = .next t ∧
    t.th.sizing = { s.th.sizing with n := 0 } ∧ (∀ p ∈ t.th.sns, p.2.st = .unsized → p.2.sum = 0) ∧ t.regs = s.regs ∧ t.be = s.be) ∧
  (∀ (s u : State) (means : List (Nat × Int)) (inlet : Option Int), s.th.sizing.on = true → s.th.sizing.n = 64 →
    dutyRuns s 1 = true →
    u = { s with th.sizing.step2At := some ((s.th.sizing.step2At).getD s.now), th.sizing.n := 0 } →
    means = ((mfSns s).filter (fun n => (sns s n).st == .unsized)).map (fun n => (n, roundEven (sns s n).sum 64)) →
    (sizingMet u means = false → exec (.sizingRoundDone inlet) s =
      .next (settle (means.foldl (fun s p => setSns s p.1 { sns s p.1 with sum := 0, mean := some p.2 }) u))) ∧
    (∀ t m, sizingMet u means = true → inlet = some t → s.mf.bind (·.tray) = some m → exec (.sizingRoundDone inlet) s =
      .next (settle (sizingEnd (means.foldl (fun s p => setOffset s (t + m.refOfs) p) u)))) ∧
    (sizingMet u means = true → inlet = none ∨ s.mf.bind (·.tray) = none → ∃ t, exec (.sizingRoundDone inlet) s = .next t ∧
      getF t Reg.TH_SIZE.FUSE_ONLY = 1 ∧
      getF t Reg.TH_SIZE.DONE = 1 ∧ getF t Reg.TH_ERR.SIZING_NOREF = 1 ∧ t.th.sizing = {})) ∧
  (∀ (s : State) (inlet : Option Int), s.th.sizing.on = false ∨ s.th.sizing.n ≠ 64 →
    exec (.sizingRoundDone inlet) s = .next (settle s)) ∧
  (∀ (s : State) (tref : Int) (p : Nat × Int), ((tref - p.2).natAbs ≤ 128 → sns (setOffset s tref p) p.1 =
      withRate { sns s p.1 with ofs := min (tref - p.2) 127, val := clampInt (-1024) 4095 ((sns s p.1).val + min (tref - p.2) 127) }) ∧
    (128 < (tref - p.2).natAbs → (sns (setOffset s tref p) p.1).st = .failed)) ∧
  (∀ s : State, (sizingEnd s).th.sizing = {} ∧ getF (sizingEnd s) Reg.TH_SIZE.DONE = 1 ∧
    ∀ n ∈ mfSns s, (sns (sizingEnd s) n).st ≠ .unsized ∧ ((sns s n).st = .trusted → (sns (sizingEnd s) n).st = .trusted)) ∧
  (∀ (s : State) (m : MfTray), s.mf.bind (·.tray) = some m → s.th.sizing.on = true → dutyRuns s 1 = true →
    ∃ t, exec .sizingTimeout s = .next t ∧
    t.now = max s.now (s.th.sizing.startedAt + ms m.waitMs) ∧ getF t Reg.TH_SIZE.FUSE_ONLY = 1 ∧ getF t Reg.TH_SIZE.DONE = 1 ∧
    getF t Reg.TH_ERR.SIZING_SPREAD = 1 ∧ t.th.sizing = {}) ∧
  (∀ s : State, s.mf.bind (·.tray) = none ∨ s.th.sizing.on = false ∨ dutyRuns s 1 = false →
    exec .sizingTimeout s = .next (settle s)) ∧
  (∀ s : State, released s 6 = true → flowNamed s = true → subIn s 5 = false → ∃ t, exec .flowPoll s = .next t ∧
    t.now = max s.now (s.th.pollAt + ms (getF s Reg.TH_FLOW.POLL_MS)) ∧ t.th.pollAt = t.now ∧
      t.th.polling = (s.th.polling || dutyRuns s 1) ∧
    (s.th.polling = false → dutyRuns s 1 = true → t.regs = s.regs ∧ t.hr = s.hr ∧ t.th.missed = s.th.missed) ∧
    (s.th.polling = true ∨ dutyRuns s 1 = false → t.th.missed = s.th.missed + 1)) ∧
  (∀ s : State, released s 6 = false ∨ flowNamed s = false ∨ subIn s 5 = true → exec .flowPoll s = .next (settle s)) ∧
  (∀ (s : State) (r : FlowRead), s.th.polling = false → exec (.flowReading r) s = .next (settle s)) ∧
  (∀ (s : State) (fl : Nat) (c : Int) (a b : Bool), s.th.polling = true →
    exec (.flowReading (.read fl c)) s = .next (settle (flowTaken { s with th.polling := false } fl c)) ∧
    exec (.flowReading .missed) s = .next (settle (flowMissed { s with th.polling := false })) ∧
    exec (.flowReading (.nack a b)) s = .next (settle (flowMissed (flowNacks { s with th.polling := false } a b)))) ∧
  (∀ (s : State) (fl nom : Nat) (c : Int), nom = getF s Reg.TH_FLOW_NOM.NOM_FLOW → (flowTaken s fl c).th.missed = 0 ∧
    (flowTaken s fl c).th.cool = some c ∧
    (flowTaken s fl c).th.f = (if nom = 0 then 32767 else min 32767 ((fl * 32768 / nom : Nat) : Int)) ∧
    getF (flowTaken s fl c) Reg.TH_FLOW_STATUS.FLOW = fl % 65536 ∧ getF (flowTaken s fl c) Reg.TH_FLOW_STATUS.VALID = 1 ∧
    getF (flowTaken s fl c) Reg.TH_FLOW_STATUS.LOST = 0 ∧
    (nom ≠ 0 → fl * 100 < getF s Reg.TH_FLOW.LOW_PCT * nom → flagOn (flowTaken s fl c) Reg.TH_FLOW_STATUS.LOW = true ∧
      getF (flowTaken s fl c) Reg.TH_ERR.FLOW_LOW = 1) ∧
    (nom ≠ 0 → (getF s Reg.TH_FLOW.LOW_PCT + 5) * nom ≤ fl * 100 → flagOn (flowTaken s fl c) Reg.TH_FLOW_STATUS.LOW = false) ∧
    (nom ≠ 0 → fl * 100 < getF s Reg.TH_FLOW.MIN_PCT * nom → (flowTaken s fl c).th.sd ≠ .run)) ∧
  (∀ (s : State) (m : Manifest) (y : MfTray) (a b : Bool), s.mf = some m → m.tray = some y → flowNacks s a b =
    (if b then (fun u : State => i3cAbsent u y.inlet (i3cAddr m y.inlet)) else id) (if a then i3cAbsent s y.flow (i3cAddr m y.flow) else s)) ∧
  ∀ s : State, (flowMissed s).th.missed = s.th.missed + 1 ∧ (flowMissed s).th.cool = s.th.cool ∧
    (getF s Reg.TH_FLOW.MISS_LIMIT ≤ s.th.missed + 1 → flagOn (flowMissed s) Reg.TH_FLOW_STATUS.LOST = true) ∧
    (getF s Reg.TH_FLOW.MISS_LIMIT ≤ s.th.missed + 1 → flagOn s Reg.TH_FLOW_STATUS.LOST = false →
      getF (flowMissed s) Reg.TH_ERR.FLOW_LOST = 1) ∧
    (s.th.missed + 1 < getF s Reg.TH_FLOW.MISS_LIMIT ∨ flagOn s Reg.TH_FLOW_STATUS.LOST = true →
      flowMissed s = { s with th.missed := s.th.missed + 1 })

/-- OBSERVER_LOAD, the switch of models, a solve, the end of settling, and a sample of the cycle counter. An OBSERVER_LOAD that
passes R319 completes with HAP_READ where the read of its LEN bytes fails, or FORMAT and the failing check, which
TH_OBS_STATUS.REJECT records; otherwise its model waits for a solve boundary, in place of one that waits, which completes with
SUPERSEDED, and the row waits while its read cannot be made. There the model replaces the loaded one, every node is initialised,
the observer settles and the command completes. A solve comes 10 µs after the last; a node with no conductance and no power
keeps its temperature, and a new temperature is a Q1.15 number. After 100 solves the observer has settled. With no model
waiting, no model loaded, OBS_EN or RF_EN 0, or step 6 not released, a row of these does nothing. A sample of the cycle counter
comes DECIM_MS after the last, uses one of 64 counters a region and lowers no counter. (That a wrong length is FORMAT 0, with no
REJECT recorded, before the checks of R232 is the model's choice, log entry 20; that the row stands for the end of its reads is
log entry 8.) (R231, R232, R233, R234, R262, R263, R327) -/
def Obligations.ObserverAndCycleCountingAdvance : Prop :=
  (∀ (s u v : State) (n : Nat) (d b bs : List Byte) (f : Flight) (corr : Bool), Turn s n d → dOp d = 0x40 →
    Passes s n d .obsLoad (loadSpec true d) → (u, f) = takeHead s n d .obsLoad → bs = b.take (leAt d 16 4) →
    v = readDone corr u f (leAt d 8 8) (leAt d 16 4) 0 →
    (readOpen s 0 = false → exec (.observerLoad (.data b corr)) s = .next (settle s)) ∧ (readOpen s 0 = true →
    (64 + 32 * leAt bs 6 2 ≠ leAt d 16 4 → exec (.observerLoad (.data b corr)) s = .next (settle (complete v f 0x0012 0))) ∧
    (64 + 32 * leAt bs 6 2 = leAt d 16 4 → modelCheck v bs ≠ 0 → exec (.observerLoad (.data b corr)) s = .next (settle
      (complete (setF v Reg.TH_OBS_STATUS.REJECT (modelCheck v bs)) f 0x0012 (modelCheck v bs)))) ∧
    (64 + 32 * leAt bs 6 2 = leAt d 16 4 → modelCheck v bs = 0 → v.th.pend = none →
      exec (.observerLoad (.data b corr)) s = .next (settle (setJob { v with th.pend := some (parseModel bs, f.key) } f .obsLoad))) ∧
    (∀ m k, 64 + 32 * leAt bs 6 2 = leAt d 16 4 → modelCheck v bs = 0 → v.th.pend = some (m, k) →
      exec (.observerLoad (.data b corr)) s =
      .next (settle (setJob { completeKey v k 0x0013 0 with th.pend := some (parseModel bs, f.key) } f .obsLoad))) ∧
    ∀ st, exec (.observerLoad (.fail st)) s = .next (settle (readFail u f (leAt d 8 8) (leAt d 16 4) 0 st.toNat)))) ∧
  (∀ (s : State) (m : ThModel) (key : Nat), s.th.pend = some (m, key) → released s 6 = true →
    ∃ t, exec .observerSwitch s = .next t ∧
    t.th.model = some m ∧ t.th.pend = none ∧ t.th.settling = true ∧ t.th.solves = 0 ∧ getF t Reg.TH_OBS_STATUS.LOADED = 1 ∧
    getF t Reg.TH_OBS_STATUS.NODES = m.nodes.length % 4096 ∧ getF t Reg.TH_MODEL_ID.ID = m.id % 2 ^ 32 ∧
      (∀ x ∈ t.hr.flights, x.key ≠ key) ∧
    t.th.sns = s.th.sns ∧ t.be = s.be) ∧
  (∀ s : State, s.th.pend = none ∨ released s 6 = false → exec .observerSwitch s = .next (settle s)) ∧
  (∀ s u : State, u = advanceTo s (s.th.solveAt + us 10) → exec .observerSolve s =
    .next (settle (if released s 6 ∧ s.th.model.isSome ∧
      flagOn s Reg.TH_CFG.OBS_EN then solve { u with th.solveAt := u.now } else s))) ∧
  (∀ (s : State) (f cool : Int) (i : Nat) (n : NodeDef), -32768 ≤ (solveNode s f cool i n).1 ∧ (solveNode s f cool i n).1 ≤ 32767 ∧
    ((∀ b ∈ n.nbs, b = 0xFFFF) → n.b = 0 → n.c = 0 → -32768 ≤ (thNode s i).t → (thNode s i).t ≤ 32767 →
      solveNode s f cool i n = ((thNode s i).t, false))) ∧
  (∀ s : State, s.th.settling = true → 100 ≤ s.th.solves → ∃ t, exec .observerSettled s = .next t ∧ t.th.settling = false ∧
    getF t Reg.TH_OBS_STATUS.SETTLING = 0 ∧ t.th.nodes = s.th.nodes ∧ t.th.sns = s.th.sns ∧ t.hr = s.hr ∧
    (s.th.model.isSome = true → flagOn s Reg.TH_CFG.OBS_EN = true → obsValid t = true)) ∧
  (∀ s : State, s.th.settling = false ∨ s.th.solves < 100 → exec .observerSettled s = .next (settle s)) ∧
  (∀ s : State, released s 6 = false ∨ flagOn s Reg.TH_CFG.RF_EN = false → exec .rainflowSample s = .next (settle s)) ∧
  (∀ s : State, released s 6 = true → flagOn s Reg.TH_CFG.RF_EN = true → ∃ t, exec .rainflowSample s = .next t ∧
    t.now = max s.now (s.th.rfAt + ms (getF s Reg.TH_RF_CFG.DECIM_MS)) ∧ t.th.rfAt = t.now ∧ t.regs = s.regs ∧
      t.th.sns = s.th.sns ∧ t.be = s.be ∧
    ∀ k, tget 0 s.th.rfCnt k ≤ 0xFFFFFFFF → tget 0 s.th.rfCnt k ≤ tget 0 t.th.rfCnt k ∧ tget 0 t.th.rfCnt k ≤ 0xFFFFFFFF) ∧
  ∀ (s : State) (r : Nat) (m : Int), rfIndex s r m < 64

/-- The lift of the budget ceiling, second and minute boundaries, ENVELOPE_SET, PLAN_LOAD and the switch of plans. The budget
ceiling lifts 100 µs after it was applied where W1 and W2 are at or below 0.98 of their limits, and otherwise stays; without a
ceiling the row does nothing. A second boundary numbers a report, opens a period and adds the closed one to the minute; the next
one comes a second later, within 100 µs, and at most 64 reports are held. Before step 6, or without a manifest, the boundaries
do nothing. A minute boundary clears what was used and allowed and ends the W3 stop. ENVELOPE_SET changes FLOOR, CEIL and ISSUED
where MASK names them, and OWN only while resets are synchronised; before the group forms it completes with STATE. A PLAN_LOAD
waits while its read cannot be made, completes with HAP_READ where its read fails and with FORMAT where the bytes are no plan;
otherwise it takes the place of a plan that waits, which completes with SUPERSEDED, and waits for a step boundary while the
tracker is TRACKING. The switch puts the plan in force and completes it. (R272, R273, R285, R294, R304, R305, R307, R325, R335) -/
def Obligations.BudgetPeriodsAndPlansAdvance : Prop :=
  (∀ s : State, s.bg.ceil = false → exec .budgetCeilingLift s = .next (settle s)) ∧
  (∀ s u : State, released s 6 = true → s.bg.ceil = true → u = advanceTo s (s.bg.ceilAt + us 100) →
    ((u.bg.pfSum : Int) * 100 ≤ 98 * l1Sum u → (w2Sum u : Int) * 100 ≤ 98 * l2Sum u →
      exec .budgetCeilingLift s = .next (settle { u with bg.ceil := false })) ∧
    ((98 * l1Sum u < (u.bg.pfSum : Int) * 100 ∨ 98 * l2Sum u < (w2Sum u : Int) * 100) →
      exec .budgetCeilingLift s = .next (settle u))) ∧
  (∀ s : State, released s 6 = false ∨ s.mf.isSome = false → exec .secondBoundary s = .next (settle s) ∧
    exec .minuteBoundary s = .next (grantTiles (settle s))) ∧
  (∀ s u : State, released s 6 = true → s.mf.isSome = true → u = advanceTo s s.bg.secAt → ∃ t, exec .secondBoundary s = .next t ∧
    t.now = max s.now s.bg.secAt ∧ t.bg.seqSec = (s.bg.seqSec + 1) % 2 ^ 32 ∧ t.bg.secs = s.bg.secs + 1 ∧ t.bg.sec = newPeriod u ∧
    t.bg.min_.nj = s.bg.min_.nj + gainUj s.bg.energyNj s.bg.sec.nj ∧ t.bg.min_.allow = s.bg.min_.allow + s.bg.sec.allow / 1000 ∧
    t.bg.min_.unattr = s.bg.min_.unattr + s.bg.sec.unattr ∧ t.bg.min_.audit = s.bg.min_.audit + s.bg.sec.audit ∧
    s.bg.secAt + 249975000 ≤ t.bg.secAt ∧ t.bg.secAt ≤ s.bg.secAt + 250025000 ∧
      (quality u ≠ 0 → t.bg.secAt = s.bg.secAt + 250000000) ∧
    (s.bg.held.length ≤ 64 → t.bg.held.length ≤ 64) ∧ t.bg.own = s.bg.own ∧ t.bg.pool = s.bg.pool ∧ t.th = s.th ∧ t.be = s.be) ∧
  (∀ s : State, released s 6 = true → s.mf.isSome = true → ∃ t, exec .minuteBoundary s = .next t ∧ t.now = max s.now s.bg.minuteAt ∧
    t.bg.usedNj = 0 ∧ t.bg.allowNj = 0 ∧ t.bg.minuteFrames = 0 ∧ t.bg.stop = false ∧ t.bg.seqMin = (s.bg.seqMin + 1) % 2 ^ 32 ∧
      t.bg.secs = 0 ∧
    t.bg.min_.nj = 0 ∧ t.bg.minuteAt = s.bg.secAt + 59 * 250000000 ∧ t.bg.sec = s.bg.sec ∧
      (s.bg.held.length ≤ 64 → t.bg.held.length ≤ 64) ∧
    t.bg.energyNj = s.bg.energyNj ∧ t.th = s.th ∧ t.be = s.be) ∧
  (∀ (s u : State) (n : Nat) (d : List Byte) (f : Flight), Turn s n d → dOp d = 0x50 → Passes s n d .taken (envSpec s d) →
    (u, f) = takeHead s n d .taken →
    (s.bg.formed = false → exec .envelopeSet s = .next (settle (complete u f 0x0008 0))) ∧
    (s.bg.formed = true → ∃ t, exec .envelopeSet s = .next t ∧
      t.bg.floor = (if bitAt (byteAt d 8) 0 then (leAt d 12 4 : Int) else s.bg.floor) ∧
      t.bg.ceilC = (if bitAt (byteAt d 8) 1 then (leAt d 16 4 : Int) else s.bg.ceilC) ∧
      (bitAt (byteAt d 8) 2 = true → t.bg.issued = s.bg.issued + toSigned 32 (leAt d 20 4) ∧
        t.bg.adjust = s.bg.adjust + toSigned 32 (leAt d 20 4)) ∧
      (bitAt (byteAt d 8) 2 = false → t.bg.issued = s.bg.issued ∧ t.bg.adjust = s.bg.adjust) ∧
      (s.bg.ownFloor = false → t.bg.own = s.bg.own ∧
        t.bg.pool = s.bg.pool + (if bitAt (byteAt d 8) 2 then toSigned 32 (leAt d 20 4) else 0)) ∧
      (s.bg.ownFloor = true → t.bg.own = min t.bg.floor (bgHeld t) ∧ t.bg.own + t.bg.pool = bgHeld t) ∧ t.bg.links = s.bg.links ∧
        (∀ x ∈ t.hr.flights, x.key ≠ f.key) ∧ t.be = s.be ∧ t.th = s.th)) ∧
  (∀ (s u v w : State) (n : Nat) (d b bs : List Byte) (f : Flight) (corr : Bool), Turn s n d → dOp d = 0x32 →
    Passes s n d .planLoad (loadSpec true d) → (u, f) = takeHead s n d .planLoad → bs = b.take (leAt d 16 4) →
    v = readDone corr u f (leAt d 8 8) (leAt d 16 4) 0 → w = (match v.bg.pendPlan with
      | some (_, key) => completeKey v key 0x0013 0
      | none => v) →
    (readOpen s 0 = false → exec (.planLoad (.data b corr)) s = .next (settle s)) ∧ (readOpen s 0 = true →
    ((32 + 4 * leAt bs 6 2 ≠ leAt d 16 4 ∨ planOk bs = false) →
      exec (.planLoad (.data b corr)) s = .next (settle (complete v f 0x0012 0))) ∧
    (32 + 4 * leAt bs 6 2 = leAt d 16 4 → planOk bs = true → w.sa.state = .tracking → exec (.planLoad (.data b corr)) s =
      .next (settle (setJob { w with bg.pendPlan := some (parsePlan bs, f.key) } f .planLoad))) ∧
    (32 + 4 * leAt bs 6 2 = leAt d 16 4 → planOk bs = true → w.sa.state ≠ .tracking → exec (.planLoad (.data b corr)) s =
      .next (settle (switchPlan (setJob { w with bg.pendPlan := some (parsePlan bs, f.key) } f .planLoad)))) ∧
    ∀ st, exec (.planLoad (.fail st)) s = .next (settle (readFail u f (leAt d 8 8) (leAt d 16 4) 0 st.toNat)))) ∧
  (∀ s : State, exec .planSwitch s = .next (settle (switchPlan s)) ∧
    (s.bg.pendPlan = none ∨ released s 6 = false ∨ dutyRuns s 2 = false → switchPlan s = s)) ∧
  ∀ (s : State) (p : Plan) (key : Nat), s.bg.pendPlan = some (p, key) → released s 6 = true → dutyRuns s 2 = true →
    ∃ t, exec .planSwitch s = .next t ∧
    t.bg.plan = some p ∧ t.bg.pendPlan = none ∧ t.bg.planNow = planAt p s.sa.aX ∧ getF t Reg.BG_PLAN_ID.ID = p.id % 2 ^ 32 ∧
    (∀ x ∈ t.hr.flights, x.key ≠ key) ∧ t.sa.aX = s.sa.aX ∧ t.th = s.th ∧ t.be.loops = s.be.loops

/-- What a good Felt message does by TYPE, what a bad one does, and what an exchange period sends. A CREDIT that follows RECV_TOTAL
adds its AMOUNT to OWN and POOL together and owes an ACK, and those held behind it follow; one already counted, one of 0, and
one while SYNC_ANS is awaited adds nothing; one ahead is held as a gap, 8 at most. An ACK moves ACKED_TOTAL and ends the retries
it covers; one beyond SENT_TOTAL sets TOTAL_FAULT and synchronises the link. Any of these on a DOWN link synchronises it. DEMAND
and PACE of a child are recorded with their fields, VIEW from the parent is recorded in BG_VIEW while a core carries the power
core's duties, and STEP from the parent applies at its angle, or at once where that is not ahead. A bad message sets BAD_MSG and
changes nothing else of the budget; one that came back, or one before step 6, does nothing in these rows. An exchange period
comes PERIOD_US after the last, owes no ACK afterwards on a link that does not wait to answer, and without FELT_EN only moves
what OWN has above CEIL to POOL. (The model's readings: an AMOUNT of 0 adds nothing and each CREDIT is held once, log entry 57;
a STEP whose angle is not ahead applies at once, log entry 58.) (R276, R277, R278, R283, R285, R290, R291, R293, R296) -/
def Obligations.FeltMessagesTakeEffect : Prop :=
  (∀ (s : State) (m : FmpMsg) (c : Instr), c ∈ [.feltCredit m, .feltAck m, .feltDemand m, .feltPace m, .feltView m, .feltAudit m, .feltAuditReply m,
      .feltStep m, .feltSyncReq m, .feltSyncAns m] →
    (feltRuns s = false ∨ m.undeliv = true → exec c s = .next (settle s)) ∧
    (feltRuns s = true → m.undeliv = false → badFelt s m = true → exec c s = .next (settle (badMessage s m)))) ∧
  (∀ (s : State) (m : FmpMsg), (feltRuns s = true → badFelt s m = true →
    exec (.feltBadMessage m) s = .next (settle (badMessage s m))) ∧
    (feltRuns s = false ∨ badFelt s m = false → exec (.feltBadMessage m) s = .next (settle s)) ∧
    flagOn (badMessage s m) Reg.BG_ERR.BAD_MSG = true ∧ (badMessage s m).bg = s.bg ∧ (badMessage s m).be = s.be ∧
      (badMessage s m).th = s.th) ∧
  (∀ (s : State) (m : FmpMsg) (k : Nat) (l : Link) (c : Credit), FeltMsg s m 1 k l →
    c = ⟨bitsAt m.payload.toNat 80 32, bitsAt m.payload.toNat 56 24⟩ →
    ((l.st = .up ∨ l.st = .answering) → c.amt ≠ 0 → fits l c = true → l.ooo = [] → s.bg.ownFloor = false →
      ∃ t, exec (.feltCredit m) s = .next t ∧
      t.bg.own + t.bg.pool = s.bg.own + s.bg.pool + c.amt ∧ (k ≠ 0 → t.bg.own = s.bg.own) ∧
      link t k = some { l with heardAt := s.now, lost := false, recv := c.total, ackDue := true, gapAt := none } ∧
        t.regs = s.regs ∧ t.be = s.be) ∧
    (∀ u, (l.st = .up ∨ l.st = .answering) → c.amt ≠ 0 → fits l c = true → u = fillGap (applyCredit (heard s k l false) k c) k 9 →
      exec (.feltCredit m) s = .next (settle (if k = 0 ∧ policyOn u then ownStep u else u))) ∧
    ((l.st = .up ∨ l.st = .answering) → c.amt ≠ 0 → fits l c = false → 1 ≤ (c.total + 2 ^ 32 - l.recv) % 2 ^ 32 →
      (c.total + 2 ^ 32 - l.recv) % 2 ^ 32 < 2 ^ 31 → l.ooo.length < 8 → l.ooo.any (·.1 == c) = false →
      ∃ t, exec (.feltCredit m) s = .next t ∧ t.bg.own = s.bg.own ∧ t.bg.pool = s.bg.pool ∧
      link t k = some { l with heardAt := s.now, lost := false, ooo := l.ooo ++ [(c, s.now)], gapAt := some (l.gapAt.getD s.now) } ∧ t.regs = s.regs) ∧
    (l.st = .waiting ∨ c.amt = 0 ∧ l.st ≠ .down ∨ l.st ≠ .down ∧ fits l c = false ∧ (¬ (1 ≤ (c.total + 2 ^ 32 - l.recv) % 2 ^ 32 ∧
        (c.total + 2 ^ 32 - l.recv) % 2 ^ 32 < 2 ^ 31) ∨ 8 ≤ l.ooo.length ∨ l.ooo.any (·.1 == c) = true) →
      ∃ t, exec (.feltCredit m) s = .next t ∧ t.bg.own = s.bg.own ∧ t.bg.pool = s.bg.pool ∧
      link t k = some { l with heardAt := s.now, lost := false } ∧ t.regs = s.regs)) ∧
  (∀ (s : State) (k n : Nat) (l : Link), link s k = some l → (∀ p, l.ooo.find? (fun p => fits l p.1) = some p →
    fillGap s k (n + 1) =
      fillGap (applyCredit (modLink s k (fun l => { l with ooo := l.ooo.erase p })) k p.1) k n) ∧
    (l.ooo.find? (fun p => fits l p.1) = none → link (fillGap s k (n + 1)) k = some { l with gapAt := gapStart l })) ∧
  (∀ (s : State) (m : FmpMsg) (k v a : Nat) (l : Link), FeltMsg s m 2 k l → l.st ≠ .down → v = bitsAt m.payload.toNat 80 32 →
    a = (if (v + 2 ^ 32 - l.acked) % 2 ^ 32 < 2 ^ 31 then v else l.acked) →
    ((l.sent + 2 ^ 32 - a) % 2 ^ 32 < 2 ^ 31 → ∃ t, exec (.feltAck m) s = .next t ∧ t.bg.own = s.bg.own ∧ t.bg.pool = s.bg.pool ∧
      t.regs = s.regs ∧
      link t k = some { l with heardAt := s.now, lost := false, acked := a, retries := l.retries.filter (fun r => decide (2 ^ 31 ≤ (a + 2 ^ 32 - r.credit.total) % 2 ^ 32)) }) ∧
    (2 ^ 31 ≤ (l.sent + 2 ^ 32 - a) % 2 ^ 32 → ∃ t, exec (.feltAck m) s = .next t ∧ (link t k).map (·.st) = some .waiting ∧
      getF t Reg.BG_ERR.TOTAL_FAULT = 1 ∧ t.bg.own = s.bg.own ∧ t.bg.pool = s.bg.pool)) ∧
  (∀ (s : State) (m : FmpMsg) (k : Nat) (l : Link) (c : Instr), FeltMsg s m (bitsAt m.payload.toNat 124 4) k l → l.st = .down →
    (c, bitsAt m.payload.toNat 124 4) ∈ [(.feltCredit m, 1), (.feltAck m, 2), (.feltDemand m, 3), (.feltPace m, 4), (.feltSyncAns m, 10)] →
    ∃ t, exec c s = .next t ∧ (link t k).map (·.st) = some .waiting ∧ t.bg.own = s.bg.own ∧ t.bg.pool = s.bg.pool) ∧
  (∀ (s : State) (m : FmpMsg) (k p : Nat) (l : Link), FeltMsg s m 3 k l → l.st ≠ .down → p = m.payload.toNat →
    ∃ t, exec (.feltDemand m) s = .next t ∧
    (k ≠ 0 → link t k = some { l with heardAt := s.now, lost := false, demand := some ⟨bitsAt p 88 24, bitsAt p 86 2, bitAt p 85, bitAt p 84, bitsAt p 52 32⟩ }) ∧
    (k = 0 → link t k = some { l with heardAt := s.now, lost := false }) ∧ t.bg.own = s.bg.own ∧ t.bg.pool = s.bg.pool) ∧
  (∀ (s : State) (m : FmpMsg) (k : Nat) (l : Link), FeltMsg s m 4 k l → l.st ≠ .down → ∃ t, exec (.feltPace m) s = .next t ∧
    (k ≠ 0 → (parsePace m.payload.toNat).valid = true →
      link t k = some { l with heardAt := s.now, lost := false, pace := some (parsePace m.payload.toNat, s.now) }) ∧
    (k = 0 ∨ (parsePace m.payload.toNat).valid = false → link t k = some { l with heardAt := s.now, lost := false }) ∧
    t.regs = s.regs ∧ t.bg.own = s.bg.own ∧ t.bg.pool = s.bg.pool) ∧
  (∀ (s : State) (m : FmpMsg) (v : Pace) (k : Nat) (l : Link), FeltMsg s m 5 k l → l.st ≠ .down → v = parsePace m.payload.toNat →
    ∃ t, exec (.feltView m) s = .next t ∧ t.bg.own = s.bg.own ∧ (k ≠ 0 → t.bg.view = s.bg.view ∧ t.regs = s.regs) ∧
    (k = 0 → t.bg.orphan = false) ∧ (k = 0 → dutyRuns s 1 = false → t.bg.view = s.bg.view ∧ t.bg.named = s.bg.named) ∧
    (k = 0 → dutyRuns s 1 = true → t.bg.view = v ∧ getF t Reg.BG_VIEW_MIN.ANGLE = v.aMin.toNat ∧
      getF t Reg.BG_VIEW_MAX.ANGLE = v.aMax.toNat ∧
      getF t Reg.BG_VIEW_INFO.PEER = v.minPeer ∧ getF t Reg.BG_VIEW_INFO.CAUSE = v.cause ∧
        getF t Reg.BG_VIEW_INFO.LEVEL = v.minLevel ∧
      getF t Reg.BG_VIEW_INFO.VALID = b2n v.valid)) ∧
  (∀ (s : State) (m : FmpMsg) (x : StepMsg) (k : Nat) (l : Link), FeltMsg s m 8 k l → l.st ≠ .down →
    x = ⟨BitVec.ofNat 32 (bitsAt m.payload.toNat 80 32), bitsAt m.payload.toNat 76 4, bitsAt m.payload.toNat 60 16⟩ →
      ∃ t, exec (.feltStep m) s = .next t ∧
    (k = 0 → timerDue s ⟨x.angle, 0, .step x.down⟩ = true → t.bg.down = x.down ∧ t.bg.step = none) ∧
    (k = 0 → timerDue s ⟨x.angle, 0, .step x.down⟩ = false → t.bg.down = s.bg.down ∧ t.bg.step = some x) ∧
    (k = 0 → getF s Reg.BG_PLAN_ID.ID % 65536 ≠ x.plan → flagOn t Reg.BG_ERR.DET_PLAN = true) ∧
    (k ≠ 0 → t.bg.down = s.bg.down ∧ t.bg.step = s.bg.step ∧ t.regs = s.regs) ∧ t.bg.own = s.bg.own) ∧
  (∀ s : State, feltRuns s = false ∨ s.bg.formed = false → exec .exchangePeriod s = .next (settle s)) ∧
  ∀ s : State, feltRuns s = true → s.bg.formed = true → ∃ t, exec .exchangePeriod s = .next t ∧
    t.now = max s.now (s.bg.exAt + us (getF s Reg.BG_EXCH.PERIOD_US)) ∧ t.bg.exAt = t.now ∧ t.bg.acted = false ∧
    (∀ p ∈ t.bg.links, p.2.st ≠ .answering → p.2.ackDue = false) ∧
    (flagOn s Reg.BG_CFG.FELT_EN = false → t.bg.own = min s.bg.own s.bg.ceilC ∧ t.bg.own + t.bg.pool = s.bg.own + s.bg.pool) ∧
      t.be.loops = s.be.loops

/-- SYNC_REQ and SYNC_ANS, audits, retries, gaps and silent peers: what each leaves of the link and the totals. A SYNC_REQ makes a
link that does not wait ANSWERING; where both ends wait the side with the lower peer number answers with totals 0 and BOTH_RESET
is set. 10 µs later the answer goes out and the link is UP. A SYNC_ANS gives a waiting link its totals, makes it UP and
completes the FELT_SYNC that waits for it. An audit records its EPOCH and the contribution; the root takes a difference into
ADJUST and POOL; an abandoned audit ends. A CREDIT that came back is sent again after RETRY_US, and takes the link DOWN after
RETRY_MAX; on an ANSWERING link it is taken off the totals, unless they were zeroed; a gap of 8 × RETRY_US synchronises the
link; silence for PEER_TIMEOUT_US takes it DOWN, and that of the parent makes this member ORPHAN. Where a row finds nothing of
its kind, it does nothing. (That totals which were zeroed keep a CREDIT that came back off them, and the ACK owed after
SYNC_ANS, are readings of the model, log entry 57.) (R278, R279, R284, R286, R287, R288, R289, R335) -/
def Obligations.FeltLinksSynchroniseAndAudit : Prop :=
  (∀ (s : State) (m : FmpMsg) (k : Nat) (l : Link), FeltMsg s m 9 k l →
    (l.st ≠ .waiting → ∃ t, exec (.feltSyncReq m) s = .next t ∧
      link t k = some { l with heardAt := s.now, lost := false, st := .answering, ansAt := s.now, back := backSum l, zeroed := false, retries := [], ooo := [], gapAt := none } ∧ t.bg.own = s.bg.own ∧ t.bg.pool = s.bg.pool ∧ t.regs = s.regs) ∧
    (l.st = .waiting → ∃ t, exec (.feltSyncReq m) s = .next t ∧ flagOn t Reg.BG_ERR.BOTH_RESET = true ∧
      (ownPeer s < l.peer → link t k = some { l with heardAt := s.now, lost := false, sent := 0, recv := 0, acked := 0, back := 0, zeroed := true, ackDue := l.ackDue || l.recv != 0, retries := [], ooo := [], gapAt := none, st := .answering, ansAt := s.now } ∧ (s.bg.ownFloor = false → t.bg.pool = s.bg.pool - totDiff l.recv l.sent)) ∧ (l.peer ≤ ownPeer s → (link t k).map (·.st) = some .waiting ∧ t.bg.pool = s.bg.pool))) ∧
  (∀ (s : State) (k sent : Nat) (l : Link), link s k = some l → l.st = .answering →
    sent = (l.sent + 2 ^ 32 - l.back % 2 ^ 32) % 2 ^ 32 →
    ∃ t, exec (.syncWaitDone k) s = .next t ∧ t.now = max s.now (l.ansAt + us 10) ∧
      link t k = some { l with sent := sent, back := 0, zeroed := false, st := .up, lost := false } ∧
      (s.bg.ownFloor = false → t.bg.own = s.bg.own ∧ t.bg.pool = s.bg.pool + l.back)) ∧
  (∀ (s : State) (k : Nat), (∀ l, link s k = some l → l.st ≠ .answering) → exec (.syncWaitDone k) s = .next (settle s)) ∧
  (∀ (s : State) (m : FmpMsg) (k sent recv : Nat) (l : Link), FeltMsg s m 10 k l → sent = bitsAt m.payload.toNat 80 32 →
    recv = bitsAt m.payload.toNat 48 32 →
    (l.st = .waiting → ∃ t, exec (.feltSyncAns m) s = .next t ∧
      link t k = some { l with heardAt := s.now, lost := false, sent := sent, recv := recv, acked := sent, ackDue := l.ackDue || recv != l.recv, st := .up } ∧
      (s.bg.ownFloor = false → t.bg.own = s.bg.own ∧ t.bg.pool = s.bg.pool + (totDiff recv sent - totDiff l.recv l.sent)) ∧
      ∀ f ∈ t.hr.flights, f.job ≠ .feltSync l.peer) ∧
    (l.st = .up ∨ l.st = .answering → ∃ t, exec (.feltSyncAns m) s = .next t ∧
      link t k = some { l with heardAt := s.now, lost := false } ∧ t.bg.pool = s.bg.pool)) ∧
  (∀ (s u : State) (n : Nat) (d : List Byte) (f : Flight), Turn s n d → dOp d = 0x51 →
    Passes s n d .taken { target := feltTarget s d } →
    (u, f) = takeHead s n d .taken → (s.bg.formed = false → exec .feltSync s = .next (settle (complete u f 0x0008 0))) ∧
    (∀ k l, s.bg.formed = true → linkOf s (dTarget d % 2 ^ 24) = some (k, l) → exec .feltSync s =
      .next (settle (syncLink (setJob u f (.feltSync (dTarget d % 2 ^ 24))) k)) ∧
      (link s k = some l → (link (syncLink (setJob u f (.feltSync (dTarget d % 2 ^ 24))) k) k).map (·.st) = some .waiting))) ∧
  (∀ (s : State) (m : FmpMsg) (k : Nat) (l : Link), FeltMsg s m 6 k l → l.st ≠ .down → k ≠ 0 →
    ∃ t, exec (.feltAudit m) s = .next t ∧
    link t k = some { l with heardAt := s.now, lost := false } ∧ t.bg.epoch = s.bg.epoch ∧ t.bg.audit = s.bg.audit ∧
      t.bg.pool = s.bg.pool) ∧
  (∀ (s : State) (m : FmpMsg) (e : Nat) (l : Link), FeltMsg s m 6 0 l → e = bitsAt m.payload.toNat 96 16 →
    ∃ t, exec (.feltAudit m) s = .next t ∧
    t.bg.epoch = e ∧ getF t Reg.BG_AUDIT.EPOCH = e ∧ t.bg.auditOwn = contribution s ∧ t.be = s.be) ∧
  (∀ (s : State) (m : FmpMsg) (k : Nat) (l : Link), FeltMsg s m 7 k l → l.st ≠ .down →
    (k ≠ 0 → s.bg.audit.isSome = true → bitsAt m.payload.toNat 96 16 = s.bg.epoch → ∃ t, exec (.feltAuditReply m) s = .next t ∧
      (link t k).bind (·.reply) = some (toSigned 64 (bitsAt m.payload.toNat 32 64), bitAt m.payload.toNat 31)) ∧
    (k = 0 ∨ s.bg.audit = none ∨ bitsAt m.payload.toNat 96 16 ≠ s.bg.epoch → ∃ t, exec (.feltAuditReply m) s = .next t ∧
      link t k = some { l with heardAt := s.now, lost := false } ∧ t.bg.audit = s.bg.audit ∧ t.bg.pool = s.bg.pool)) ∧
  (∀ s : State, feltRuns s = true → s.bg.formed = true → isRoot s = true → getF s Reg.BG_AUDIT.PERIOD_MS ≠ 0 →
    ∃ t, exec .rootAuditStart s = .next t ∧
    t.now = max s.now (s.bg.auditAt + ms (getF s Reg.BG_AUDIT.PERIOD_MS)) ∧ t.bg.auditAt = t.now ∧
      t.bg.epoch = (s.bg.epoch + 1) % 65536 ∧
    getF t Reg.BG_AUDIT.EPOCH = (s.bg.epoch + 1) % 65536 ∧ t.be = s.be) ∧
  (∀ s : State, feltRuns s = false ∨ s.bg.formed = false ∨ isRoot s = false ∨ getF s Reg.BG_AUDIT.PERIOD_MS = 0 →
    exec .rootAuditStart s = .next (settle s)) ∧
  (∀ (s : State) (sum : Int), s.bg.issued - sum ≠ 0 → s.bg.ownFloor = false →
    (auditRoot s sum false).bg.adjust = s.bg.adjust + (s.bg.issued - sum) ∧
    (auditRoot s sum false).bg.pool = s.bg.pool + (s.bg.issued - sum) ∧ getF (auditRoot s sum false) Reg.BG_ERR.AUDIT = 1 ∧
      auditRoot s sum true = s) ∧
  (∀ (s : State) (b : Nat), s.bg.audit = some b → ∃ t, exec .auditAbandon s = .next t ∧ t.bg.audit = none ∧
    t.now = max s.now (b + us (4 * getF s Reg.BG_FELT.PEER_TIMEOUT_US)) ∧ t.bg.own = s.bg.own ∧ t.bg.pool = s.bg.pool ∧
      t.regs = s.regs) ∧
  (∀ s : State, s.bg.audit = none → exec .auditAbandon s = .next (settle s)) ∧
  (∀ (s : State) (m : FmpMsg), (feltRuns s = false ∨ m.undeliv = false ∨ badFelt s m = false ∧ bitsAt m.payload.toNat 124 4 ≠ 1 →
      exec (.feltUndelivered m) s = .next (settle s)) ∧
    (feltRuns s = true → m.undeliv = true → badFelt s m = true → exec (.feltUndelivered m) s = .next (settle (badMessage s m)))) ∧
  (∀ (s : State) (m : FmpMsg) (k : Nat) (l : Link), feltRuns s = true → m.undeliv = true → badFelt s m = false →
    bitsAt m.payload.toNat 124 4 = 1 →
    linkOf s m.peer.toNat = some (k, l) → (l.st = .waiting ∨ l.st = .answering ∧
      l.zeroed = true → exec (.feltUndelivered m) s = .next (settle s)) ∧
    (l.st = .answering → l.zeroed = false → exec (.feltUndelivered m) s =
      .next (settle (modLink s k (fun l => { l with back := l.back + bitsAt m.payload.toNat 56 24 }))))) ∧
  (∀ (s : State) (m : FmpMsg) (k : Nat) (l : Link) (c : Credit), feltRuns s = true → m.undeliv = true → badFelt s m = false →
    bitsAt m.payload.toNat 124 4 = 1 →
    linkOf s m.peer.toNat = some (k, l) → link s k = some l → l.st = .up ∨ l.st = .down →
      c = ⟨bitsAt m.payload.toNat 80 32, bitsAt m.payload.toNat 56 24⟩ →
    ∃ t n, n = ((l.retries.find? (·.credit == c)).map (·.tries)).getD 0 ∧ exec (.feltUndelivered m) s = .next t ∧
      (link t k).map (·.retries) = some (l.retries.filter (·.credit != c) ++ [⟨c, n, some (s.now + us (getF s Reg.BG_FELT.RETRY_US))⟩]) ∧
      (n < getF s Reg.BG_FELT.RETRY_MAX ∨ l.st = .down → (link t k).map (·.st) = some l.st ∧ t.bg.pool = s.bg.pool) ∧
      (l.st = .up → getF s Reg.BG_FELT.RETRY_MAX ≤ n → (link t k).map (·.st) = some .down ∧ flagOn t Reg.BG_ERR.LINK_DOWN = true)) ∧
  (∀ (s u : State) (k : Nat) (l : Link) (r : Retry), link s k = some l → l.st = .up → l.retries.find? (·.due.isSome) = some r →
    u = advanceTo s (r.due.getD 0) → exec (.feltRetry k) s = .next (settle (sendFelt (modLink u k (fun l => { l with retries := lmod (· == r) (fun r => { r with tries := r.tries + 1, due := none }) l.retries })) l.peer 1 (r.credit.total * 2 ^ 80 + r.credit.amt * 2 ^ 56)))) ∧
  (∀ (s : State) (k : Nat), (∀ l, link s k = some l → l.st ≠ .up ∨ l.retries.find? (·.due.isSome) = none) →
    exec (.feltRetry k) s = .next (settle s)) ∧
  (∀ (s : State) (k : Nat), (∀ l, link s k = some l → l.st ≠ .up ∨ l.gapAt = none) →
    exec (.feltGapTimeout k) s = .next (settle s)) ∧
  (∀ (s : State) (k : Nat), (∀ l, link s k = some l → feltRuns s = false ∨ l.lost = true) →
    exec (.peerTimeout k) s = .next (settle s)) ∧
  (∀ (s : State) (k b : Nat) (l : Link), link s k = some l → l.st = .up → l.gapAt = some b →
    ∃ t, exec (.feltGapTimeout k) s = .next t ∧
    t.now = max s.now (b + us (8 * getF s Reg.BG_FELT.RETRY_US)) ∧ (link t k).map (·.st) = some .waiting ∧
      (link t k).map (·.ooo) = some [] ∧
    flagOn t Reg.BG_ERR.LINK_DOWN = true) ∧
  ∀ (s : State) (k : Nat) (l : Link), link s k = some l → feltRuns s = true → l.lost = false →
    ∃ t, exec (.peerTimeout k) s = .next t ∧
    t.now = max s.now (l.heardAt + us (getF s Reg.BG_FELT.PEER_TIMEOUT_US)) ∧ link t k = some { l with lost := true, st := .down } ∧
    (k = 0 → t.bg.orphan = true ∧ t.bg.critical = false ∧ t.bg.giving = false ∧ t.bg.pacing = false ∧
      flagOn t Reg.BG_ERR.ORPHAN = true) ∧
    (k ≠ 0 → t.bg.orphan = s.bg.orphan ∧ flagOn t Reg.BG_ERR.PEER_LOST = true)

/-- Every Felt row, an exchange period and ENVELOPE_SET keep OWN plus POOL equal to HELD. In every state whose links have numbers of
their own and whose OWN and POOL make up HELD, in the 32 bits of the running totals, the same holds after every message of Felt,
every timeout of a link or an audit, every exchange period, ENVELOPE_SET and FELT_SYNC. It holds after reset. (R265, R278, R282,
R284, R286, R287) -/
def Obligations.FeltCreditsAreConserved : Prop :=
  (∀ (s t : State) (m : FmpMsg) (k : Nat) (c : Instr), FeltInv s → exec c s = .next t →
    c ∈ [.feltCredit m, .feltAck m, .feltDemand m, .feltPace m, .feltView m, .feltAudit m, .feltAuditReply m, .feltStep m, .feltSyncReq m, .feltSyncAns m,
      .feltBadMessage m, .feltUndelivered m, .syncWaitDone k, .feltRetry k, .feltGapTimeout k, .peerTimeout k, .rootAuditStart, .auditAbandon, .exchangePeriod,
      .envelopeSet, .feltSync] → FeltInv t) ∧ FeltInv State.reset

/-- Account records, their fetch and write-back, ACCOUNT_READ, ACCOUNT_FLUSH and REPORT_KEY_READ. The bytes of a record read back as
the account they were made from. A fetched record with a good CRC becomes resident, with every part that waited for it; a bad
one starts at 0 as CORRUPT and dirty and sets ACCT_CORRUPT; a failed fetch waits. The queue map binds a cluster to the account
of its queue, and an unmapped queue leaves the energy unattributed and sets UNMAPPED; an entry that crosses into the next beat
takes a second read; an answer for a queue that the cluster has left binds nothing, and settles what the cluster gathered under
it. A write-back, WB_MS after the last or by ACCOUNT_FLUSH, sends every dirty account that is not out; it stays dirty until
GOOD, which advances SEQ and lets the flush complete, once more where it changed meanwhile, and a failure sets ACCT_WB and
leaves a flush one write-back to wait for. ACCOUNT_READ and REPORT_KEY_READ write their bytes to DEST, in two requests where one
would cross a 4 KiB boundary; ACCOUNT_READ of an account that is not resident takes its backing record, completes with HAP_READ
where that read fails, and waits while it cannot be made. With nothing to take a row does nothing. (The model's readings: what
an answer for a queue that was left does, a failed map read taken as UNMAPPED, a flush that waits for two write-backs, and a
failed fetch that waits, log entry 55.) (R299, R300, R301, R302, R321, R333, R334) -/
def Obligations.AccountsAreFetchedAndWrittenBack : Prop :=
  (∀ (s : State) (f : Flight) (dest : Nat) (bytes : List Byte), (bytes.length ≤ toBoundary dest → writeResult s f dest bytes =
      hapReq (setJob s f .result) true dest (ceilDiv bytes.length 32) 0 (ringSec s f.ring) bytes (.result f.key)) ∧
    (toBoundary dest < bytes.length → writeResult s f dest bytes = hapReq (hapReq (setJob s f .results) true dest (ceilDiv (toBoundary dest) 32) 0
      (ringSec s f.ring) (bytes.take (toBoundary dest)) (.result f.key)) true (dest + toBoundary dest)
      (ceilDiv (bytes.length - toBoundary dest) 32) 0 (ringSec s f.ring) (bytes.drop (toBoundary dest)) (.result f.key))) ∧
  (∀ nj seq grants corrupt, nj / 1000 < 2 ^ 64 → seq < 2 ^ 32 → grants < 2 ^ 64 → (acctBytes nj corrupt seq grants).length = 32 ∧
    parseAcct (acctBytes nj corrupt seq grants) = ({ nj := nj, corrupt := corrupt, seq := seq, grants := grants }, true)) ∧
  (∀ (s u v : State) (n a : Nat) (d bs : List Byte) (f : Flight) (corr : Bool) (back : MemRead) (sp : OpSpec), Turn s n d →
    dOp d = 0x52 → a = dTarget d % 2 ^ 24 →
    sp = destSpec true (dTarget d / 2 ^ 24 == 10 && validUnit s (dTarget d)) d → Passes s n d .result sp →
      (u, f) = takeHead s n d .result →
    v = readDone corr u f (acctAddr s a) 32 2 → (resident s a = true →
      exec (.accountRead back) s = .next (settle (writeResult u f (leAt d 8 8)
      (acctBytes (acct s a).nj (acct s a).corrupt (acct s a).seq (acct s a).grants)))) ∧
    (∀ m, resident s a = false → readOpen s 2 = false → exec (.accountRead m) s = .next (settle s)) ∧
    (∀ x ok, resident s a = false → readOpen s 2 = true → parseAcct (bs.take 32) = (x, ok) → exec (.accountRead (.data bs corr)) s =
      .next (settle (writeResult (if ok then v else bgErrAlways v Reg.BG_ERR.ACCT_CORRUPT (acctUnit a) 0 0) f (leAt d 8 8)
        (acctBytes x.nj x.corrupt x.seq x.grants))) ∧ (ok = false → x = { corrupt := true })) ∧
    (∀ st, resident s a = false → readOpen s 2 = true →
      exec (.accountRead (.fail st)) s = .next (settle (readFail u f (acctAddr s a) 32 2 st.toNat)))) ∧
  (∀ (s u : State) (n : Nat) (d : List Byte) (f : Flight), Turn s n d → dOp d = 0x53 →
    Passes s n d .acctFlush { target := noTarget d } →
    (u, f) = takeHead s n d .acctFlush →
    ((∀ p ∈ s.bg.accts, p.2.dirty = false ∧ p.2.writing = false) → exec .accountFlush s = .next (settle (complete u f 0 0))) ∧
    ((∃ p ∈ s.bg.accts, p.2.dirty = true ∨ p.2.writing = true) → ∃ t, exec .accountFlush s = .next t ∧
      (∀ a, (acct s a).dirty = true → (acct s a).writing = false → acct t a = { acct s a with changed := false, writing := true }) ∧
      t.bg.flushes = s.bg.flushes ++ [(f.key, (s.bg.accts.filter (fun p => p.2.dirty || p.2.writing)).map
        (fun p => (p.1, if p.2.changed && p.2.writing then 2 else 1)))] ∧ (∃ x ∈ t.hr.flights, x.key = f.key ∧
          x.job = .acctFlush) ∧ t.regs = s.regs)) ∧
  (∀ s : State, hostOpen s = false ∨ s.mf.bind (·.accounts) = none ∨ dutyRuns s 2 = false →
    exec .accountWriteback s = .next (settle s)) ∧
  (∀ s : State, hostOpen s = true → (s.mf.bind (·.accounts)).isSome = true → dutyRuns s 2 = true →
    ∃ t, exec .accountWriteback s = .next t ∧
    t.now = max s.now (s.bg.wbAt + ms (getF s Reg.BG_ACCT_CFG.WB_MS)) ∧ t.bg.wbAt = t.now ∧
    (s.bg.fetchWait = [] → ∀ a, (acct s a).dirty = true → (acct s a).writing = false →
      acct t a = { acct s a with changed := false, writing := true }) ∧
    (∀ a, s.bg.fetchWait = [a] → (∀ p ∈ s.bg.accts, p.2.dirty = false) → resident s a = false → a ∉ s.bg.fetching →
      s.bg.accts.length + s.bg.fetching.length < 4096 → a ∈ t.bg.fetching ∧ t.bg.fetchWait = []) ∧ t.regs = s.regs ∧
        t.bg.binds = s.bg.binds ∧ t.be = s.be) ∧
  (∀ (s : State) (a st nj gr : Nat) (bs : List Byte) (x : Acct) (ok : Bool) (parts : List (Nat × Bind)),
    s.hap.done.find? (fun d => match d.purpose with | .qmap .. | .acctFetch _ => true | _ => false) = some ⟨.acctFetch a, st, bs⟩ → parseAcct bs = (x, ok) →
    parts = s.bg.binds.filter (fun p => p.2.acct == some a) →
      nj = parts.foldl (fun n p => n + p.2.nj) (tget (0, 0) s.bg.pendAcct a).1 →
    gr = parts.foldl (fun n p => n + p.2.grants) (tget ((0, 0) : Nat × Nat) s.bg.pendAcct a).2 →
    (st = 0 → ∃ t, exec .accountFetchDone s = .next t ∧
      acct t a = { x with nj := x.nj + nj, grants := x.grants + gr, used := s.now, dirty := nj != 0 || gr != 0 || !ok, changed := nj != 0 || gr != 0 || !ok } ∧ a ∉ t.bg.fetching ∧ tget (0, 0) t.bg.pendAcct a = ((0, 0) : Nat × Nat) ∧
      (∀ p ∈ parts, (bind t p.1).nj = 0 ∧ (bind t p.1).grants = 0) ∧ (ok = true → t.regs = s.regs) ∧
      (ok = false → x = { corrupt := true } ∧ getF t Reg.BG_ERR.ACCT_CORRUPT = 1)) ∧
    (st ≠ 0 → ∃ t, exec .accountFetchDone s = .next t ∧ t.bg.accts = s.bg.accts ∧ a ∈ t.bg.fetchWait ∧ a ∉ t.bg.fetching ∧
      t.regs = s.regs)) ∧
  (∀ s : State, (s.hap.done.find? (fun d => match d.purpose with | .qmap .. | .acctFetch _ => true | _ => false) = none →
      exec .accountFetchDone s = .next (settle s)) ∧
    (s.hap.done.find? (fun d => match d.purpose with | .acctWb _ => true | _ => false) = none →
      exec .accountWritebackDone s = .next (settle s))) ∧
  (∀ (s : State) (c q st e qm r : Nat) (got bs : List Byte), s.mf.bind (·.accounts) = some (qm, r) → s.bg.leftLook = [] →
    (st ≠ 0 ∨ got ≠ [] ∨ mapLen qm q = 32) →
      s.hap.done.find? (fun d => match d.purpose with | .qmap .. | .acctFetch _ => true | _ => false) = some ⟨.qmap c q got, st, bs⟩ →
    ((bind s c).look ≠ some q → ∃ t, exec .accountFetchDone s = .next t ∧ t.bg = s.bg ∧ t.regs = s.regs) ∧
      ((bind s c).look = some q →
    e = (if st ≠ 0 then 0 else if got = [] then leAt ((bs.take 32).drop ((qm + 4 * q) % 32)) 0 4 else leAt (got ++ bs) 0 4) →
    (bitAt e 31 = true → ∃ t, exec .accountFetchDone s = .next t ∧ (bind t c).acct = some (e % 2 ^ 18) ∧ (bind t c).look = none ∧
      t.regs = s.regs) ∧
    (bitAt e 31 = false → ∃ t, exec .accountFetchDone s = .next t ∧ bind t c = { want := (bind s c).want } ∧
      t.bg.unattrNj = s.bg.unattrNj + (bind s c).nj ∧
      flagOn t Reg.BG_ERR.UNMAPPED = true))) ∧
  (∀ (s : State) (c q qm r : Nat) (bs : List Byte), s.mf.bind (·.accounts) = some (qm, r) → mapLen qm q = 64 →
    s.hap.done.find? (fun d => match d.purpose with | .qmap .. | .acctFetch _ => true | _ => false) = some ⟨.qmap c q [], 0, bs⟩ →
    ∃ t, exec .accountFetchDone s = .next t ∧ t.bg = s.bg ∧ t.regs = s.regs ∧ ∃ x ∈ t.hap.out ++ t.hap.wait,
      x.purpose = .qmap c q ((bs.take 32).drop ((qm + 4 * q) % 32)) ∧ x.addr = mapBeat qm q + 32 ∧ x.beats = 1 ∧
        x.write = false ∧ x.cls = 2) ∧
  (∀ (s : State) (c q : Nat), (bind s c).acct = none → (bind s c).look = some q →
    bind (unbind s c) c = { want := (bind s c).want } ∧
    (unbind s c).bg.leftLook = s.bg.leftLook ++ [⟨c, q, (bind s c).nj, (bind s c).grants⟩] ∧
      (unbind s c).bg.unattrNj = s.bg.unattrNj) ∧
  (∀ (s : State) (c q nj gr e : Nat), s.bg.leftLook = [⟨c, q, nj, gr⟩] → (bind s c).look ≠ some q →
    (bindFound s c q e).bg.leftLook = [] ∧
    (bitAt e 31 = true → resident s (e % 2 ^ 18) = true →
      (acct (bindFound s c q e) (e % 2 ^ 18)).nj = (acct s (e % 2 ^ 18)).nj + nj ∧
      (acct (bindFound s c q e) (e % 2 ^ 18)).grants = (acct s (e % 2 ^ 18)).grants + gr ∧
        (bindFound s c q e).bg.unattrNj = s.bg.unattrNj) ∧
    (bitAt e 31 = false → (bindFound s c q e).bg.unattrNj = s.bg.unattrNj + nj ∧
      flagOn (bindFound s c q e) Reg.BG_ERR.UNMAPPED = true)) ∧
  (∀ (s : State) (a st : Nat) (bs : List Byte), s.hap.done.find? (fun d => match d.purpose with | .acctWb _ => true | _ => false) = some ⟨.acctWb a, st, bs⟩ →
    (st = 0 → s.bg.flushes = [] → ∃ t, exec .accountWritebackDone s = .next t ∧
      acct t a = { acct s a with dirty := (acct s a).changed, changed := false, writing := false, seq := ((acct s a).seq + 1) % 2 ^ 32 } ∧ t.regs = s.regs) ∧
    (∀ key, st = 0 → s.bg.flushes = [(key, [(a, 2)])] → ∃ t, exec .accountWritebackDone s = .next t ∧
      t.bg.flushes = [(key, [(a, 1)])] ∧
      ((acct s a).changed = true → acct t a = { acct s a with dirty := true, changed := false, writing := true, seq := ((acct s a).seq + 1) % 2 ^ 32 })) ∧
    (∀ key, st = 0 → s.bg.flushes = [(key, [(a, 1)])] → ∃ t, exec .accountWritebackDone s = .next t ∧ t.bg.flushes = [] ∧
      (∀ x ∈ t.hr.flights, x.key ≠ key) ∧ (acct t a).seq = ((acct s a).seq + 1) % 2 ^ 32) ∧
    (st ≠ 0 → ∃ t, exec .accountWritebackDone s = .next t ∧ acct t a = { acct s a with writing := false } ∧
      getF t Reg.BG_ERR.ACCT_WB = 1 ∧ t.bg.flushes = s.bg.flushes.map (fun f => (f.1, f.2.map (fun p => if p.1 = a then (p.1, 1) else p))))) ∧
  ∀ (s u : State) (n : Nat) (d : List Byte) (f : Flight), Turn s n d → dOp d = 0x54 →
    Passes s n d .result (destSpec false (noTarget d) d) →
    (u, f) = takeHead s n d .result → exec .reportKeyRead s = .next (settle (writeResult u f (leAt d 8 8)
      (reportKey u ++ zeros 31)))

/-- The doorbell page, descriptor fetches, the checks in their order, completion records and telemetry. A poll comes POLL_US after
the last and asks for the producer page, and for the consumer words where a ring is nearly full; what it brings reaches the
enabled rings, and a failure sets DB_READ. A fetched block joins the descriptors that wait, a failed one puts the ring in ERROR.
A reserved opcode completes with 0x0001 and the opcode; a NOP that passes every check completes OK, and otherwise with the first
failing check: tag in use, security, reserved bit, manifest, target, operand, or a sub-block in reset. So does any descriptor,
and where none of its opcode has the turn its row does nothing. A completion goes to its slot as the 16 bytes of R320 and its
descriptor is no longer in flight; in a duplex it waits for the mirror, on a ring in ERROR it is held, and with host access in
reset it is lost. SLOT is the consumer index modulo SIZE. GOOD for a record moves the producer word; a failure puts the ring in
ERROR. A telemetry sample comes PERIOD_US after the last and is written, or counted as dropped where telemetry is off or its
ring is full. With nothing to take a row does nothing. (The model's readings: ABANDONED as a descriptor is taken for a sub-block
in reset, log entry 20; words read reach enabled rings only, and an answer of an old life of a ring is ignored, log entry 19.)
(R313, R314, R317, R319, R320, R321, R323, R344, R365) -/
def Obligations.RingsFetchCheckAndComplete : Prop :=
  (∀ s : State, hostRuns s = true → dutyRuns s 2 = true → s.hap.stopped = false → flagOn s Reg.HR_DB_BASE_LO.EN = true →
    ∃ t, exec .doorbellPoll s = .next t ∧
    t.now = max s.now (s.hr.pollAt + us (getF s Reg.HR_DB_CFG.POLL_US)) ∧ t.hr.pollAt = t.now ∧ t.regs = s.regs ∧
    (∃ r ∈ t.hap.out ++ t.hap.wait, r.purpose = .dbProd ∧ r.addr = dbAddr s 0 ∧ r.beats = 8 ∧ r.write = false) ∧
    (anyLow s = true → (∃ r ∈ t.hap.out ++ t.hap.wait, r.purpose = .dbCplCons ∧ r.addr = dbAddr s 256 ∧ r.beats = 8 ∧
      r.write = false) ∧
      ∃ r ∈ t.hap.out ++ t.hap.wait, r.purpose = .dbEvCons ∧ r.addr = dbAddr s 512 ∧ r.beats = 1 ∧ r.write = false)) ∧
  (∀ s : State, hostRuns s = false ∨ dutyRuns s 2 = false ∨ s.hap.stopped = true ∨ flagOn s Reg.HR_DB_BASE_LO.EN = false →
    exec .doorbellPoll s = .next (settle s)) ∧
  (∀ s : State, (s.hap.done.find? (fun d => isDoorbell d.purpose) = none → exec .doorbellReadDone s = .next (settle s)) ∧
    (s.hap.done.find? (fun d => isFetch d.purpose) = none → exec .descriptorFetchDone s = .next (settle s)) ∧
    (s.hap.done.find? (fun d => isCpl d.purpose) = none → exec .completionWriteDone s = .next (settle s)) ∧
    (takeTurn s = none → exec .descriptorBadOpcode s = .next (settle s) ∧ exec .nop s = .next (settle s))) ∧
  (∀ (s u : State) (n : Nat) (d : List Byte) (f : Flight) (sel : List Byte → Bool) (job : Job) (sp : State → List Byte → OpSpec)
    (body : State → Flight → List Byte → State), (takeTurn s = none → runDesc s sel job sp body = s) ∧
    (Turn s n d → sel d = false → runDesc s sel job sp body = s) ∧
    (Turn s n d → sel d = true → (u, f) = takeHead s n d job →
      f.slot = (ring s n).cons % ringSize s n ∧ f.tag = dTag d ∧ f.ring = n ∧
      (∀ st det, checkDesc s f d (sp s d) = some (st, det) → runDesc s sel job sp body = complete u f st det) ∧
      (checkDesc s f d (sp s d) = none → runDesc s sel job sp body = body u f d))) ∧
  (∀ (s : State) (d : Done), s.hap.done.find? (fun d => isDoorbell d.purpose) = some d →
    (d.status ≠ 0 → ∃ t, exec .doorbellReadDone s = .next t ∧ getF t Reg.HR_ERR.DB_READ = 1 ∧ t.hr = s.hr) ∧
    (d.status = 0 → d.purpose = .dbProd → ∃ t, exec .doorbellReadDone s = .next t ∧ t.regs = s.regs ∧ ∀ n < 64,
      (ringEn s n = true → (ring t n).prod = leAt d.data (4 * n) 4 ∧ (ring t n).ready = (ring s n).ready) ∧
        (ringEn s n = false → ring t n = ring s n)) ∧
    (d.status = 0 → d.purpose = .dbCplCons → ∃ t, exec .doorbellReadDone s = .next t ∧ t.regs = s.regs ∧ ∀ n < 64,
      (ringEn s n = true → ring t n = { ring s n with cplCons := leAt d.data (4 * n) 4 }) ∧
        (ringEn s n = false → ring t n = ring s n)) ∧
    (d.status = 0 → d.purpose = .dbEvCons → ∃ t, exec .doorbellReadDone s = .next t ∧ t.hr.evCons = leAt d.data 0 4 ∧
      t.hr.telCons = leAt d.data 4 4 ∧
      t.hr.rings = s.hr.rings)) ∧
  (∀ (s : State) (n i k st : Nat) (bs : List Byte), s.hap.done.find? (fun d => isFetch d.purpose) = some ⟨.fetch n i k, st, bs⟩ →
    ((ring s n).fetching = true → (ring s n).fetchIdx = i → ringEn s n = true →
      (st = 0 → ∃ t, exec .descriptorFetchDone s = .next t ∧ (ring t n).ready = (ring s n).ready ++ splitDescs k bs ∧
        (ring t n).fetchIdx = (i + k) % 2 ^ 32 ∧ t.regs = s.regs ∧ t.hr.flights = s.hr.flights) ∧
      (st ≠ 0 → ∃ t, exec .descriptorFetchDone s = .next t ∧ (ring t n).error = true ∧ (ring t n).fetching = false ∧
        getF t Reg.HR_ERR.FETCH = 1)) ∧
    ((ring s n).fetching = true → (ring s n).fetchIdx = i → ringEn s n = false → ∃ t, exec .descriptorFetchDone s = .next t ∧
      ring t n = { ring s n with fetching := false } ∧ t.regs = s.regs) ∧
    (((ring s n).fetching = false ∨ (ring s n).fetchIdx ≠ i) → ∃ t, exec .descriptorFetchDone s = .next t ∧ t.hr = s.hr ∧
      t.regs = s.regs)) ∧
  (∀ (s u : State) (n : Nat) (d : List Byte) (f : Flight), Turn s n d → definedOp (dOp d) = false → (u, f) = takeHead s n d .taken →
    exec .descriptorBadOpcode s = .next (settle (complete u f 0x0001 (dOp d)))) ∧
  (∀ (s u : State) (n : Nat) (d : List Byte) (f : Flight) (sp : OpSpec), Turn s n d → dOp d = 0x01 →
    sp = { manifest := false, target := noTarget d } →
    (u, f) = takeHead s n d .taken → (checkDesc s f d sp = none → exec .nop s = .next (settle (complete u f 0 0))) ∧
    ∀ st det, checkDesc s f d sp = some (st, det) → exec .nop s = .next (settle (complete u f st det))) ∧
  (∀ (s : State) (f : Flight) (d : List Byte) (sp : OpSpec) (k j : Nat),
    ((s.hr.flights.any (fun x => x.ring == f.ring && x.tag == f.tag) = true ∨ s.hr.cplWait.any (fun x => x.ring == f.ring && x.tag == f.tag) = true) → checkDesc s f d sp = some (0x0002, 0)) ∧
    (s.hr.flights.any (fun x => x.ring == f.ring && x.tag == f.tag) = false →
      s.hr.cplWait.any (fun x => x.ring == f.ring && x.tag == f.tag) = false →
      (sp.secure = true → ringSec s f.ring = false → checkDesc s f d sp = some (0x0003, 0)) ∧
      ((sp.secure = false ∨ ringSec s f.ring = true) →
        (firstReserved sp d = some k → checkDesc s f d sp = some (0x0004, k)) ∧
        (firstReserved sp d = none → sp.manifest = true → s.hr.mfAccepted = false → checkDesc s f d sp = some (0x0005, 0)) ∧
        (firstReserved sp d = none → (sp.manifest = false ∨ s.hr.mfAccepted = true) → sp.target = false →
          checkDesc s f d sp = some (0x0006, 0)) ∧
        (firstReserved sp d = none → (sp.manifest = false ∨ s.hr.mfAccepted = true) → sp.target = true → sp.operand = some j →
          checkDesc s f d sp = some (0x0007, j)) ∧
        (firstReserved sp d = none → (sp.manifest = false ∨ s.hr.mfAccepted = true) → sp.target = true → sp.operand = none →
          checkDesc s f d sp = if subOf (dOp d) != 0 && subIn s (subOf (dOp d)) then some (0x001C, 0) else none)))) ∧
  (∀ (s : State) (f : Flight) (st det : Nat), (journalled s = true → (∀ x ∈ (complete s f st det).hr.flights, x.key ≠ f.key) ∧
      (complete s f st det).hr.cplWait = s.hr.cplWait ++ [⟨f.ring, f.slot, f.tag, st, det, 2⟩]) ∧
    (journalled s = false → hostRuns s = false → (complete s f st det).hr.cplLost = s.hr.cplLost + 1) ∧
    (journalled s = false → hostRuns s = true → (ring s f.ring).error = true → ringEn s f.ring = true →
      (ring (complete s f st det) f.ring).held =
      (ring s f.ring).held ++ [cplBytes f.tag st f.slot (phaseBit (ring s f.ring).cplProd (ringSize s f.ring)) det s.tb.time])) ∧
  (∀ (s : State) (f : Flight) (st det : Nat), hostRuns s = true → journalled s = false → (ring s f.ring).error = false →
    (∀ x ∈ (complete s f st det).hr.flights, x.key ≠ f.key) ∧
      (ring (complete s f st det) f.ring).cplProd = ((ring s f.ring).cplProd + 1) % 2 ^ 32 ∧
    ∃ r ∈ (complete s f st det).hap.out ++ (complete s f st det).hap.wait, r.purpose = .cpl f.ring (ring s f.ring).cplProd ∧
      r.write = true ∧
      r.addr = ringBase s f.ring + 64 * ringSize s f.ring + 16 * ((ring s f.ring).cplProd % ringSize s f.ring) ∧
      r.data = cplBytes f.tag st f.slot (phaseBit (ring s f.ring).cplProd (ringSize s f.ring)) det s.tb.time) ∧
  (∀ (s : State) (n i st : Nat) (bs : List Byte), s.hap.done.find? (fun d => isCpl d.purpose) = some ⟨.cpl n i, st, bs⟩ →
    s.rs.whole ≠ some (n, i) →
    (i ∉ (ring s n).cplOut → ∃ t, exec .completionWriteDone s = .next t ∧ t.hr = s.hr ∧ t.regs = s.regs) ∧
    (i ∈ (ring s n).cplOut → st = 0 → ∃ t, exec .completionWriteDone s = .next t ∧
      (ring t n).cplOut = (ring s n).cplOut.filter (· != i) ∧ t.regs = s.regs ∧
      (coverIdx ((ring s n).cplOut.filter (· != i)) (ring s n).cplProd ≠ coverIdx (ring s n).cplOut (ring s n).cplProd →
        ∃ r ∈ t.hap.out ++ t.hap.wait, r.addr = dbAddr s (2048 + 4 * n) ∧ r.write = true ∧
          r.data = leBytes 4 (coverIdx ((ring s n).cplOut.filter (· != i)) (ring s n).cplProd))) ∧
    (i ∈ (ring s n).cplOut → st ≠ 0 → ∃ t, exec .completionWriteDone s = .next t ∧
      (ringEn s n = true → (ring t n).error = true) ∧ getF t Reg.HR_ERR.CPL_WRITE = 1)) ∧
  (∀ s : State, hostRuns s = false ∨ getF s Reg.HR_TEL_CFG.PERIOD_US = 0 → exec .telemetrySample s = .next (settle s)) ∧
  ∀ s : State, hostRuns s = true → getF s Reg.HR_TEL_CFG.PERIOD_US ≠ 0 → ∃ t, exec .telemetrySample s = .next t ∧
    t.now = max s.now (s.hr.telAt + us (getF s Reg.HR_TEL_CFG.PERIOD_US)) ∧ t.hr.telAt = t.now ∧ t.hr.telN = 0 ∧ t.hr.telPf = 0 ∧
    (flagOn s Reg.HR_TEL_CFG.EN = true → ringRoom s.hr.telProd s.hr.telCons (telSize s) = true →
      t.hr.telProd = (s.hr.telProd + 1) % 2 ^ 32 ∧ t.regs = s.regs) ∧
    (flagOn s Reg.HR_TEL_CFG.EN = false ∨ ringRoom s.hr.telProd s.hr.telCons (telSize s) = false → t.hr.telProd = s.hr.telProd ∧
      getF t Reg.HR_TEL_DROP.COUNT = min (2 ^ Reg.HR_TEL_DROP.COUNT.w - 1) (getF s Reg.HR_TEL_DROP.COUNT + 1))

/-- CLUSTER_POWER up goes in waves of RS_WAVE.SIZE, each cluster waits 10 us, and ON = 0 acts on every named cluster at once. Before
ready, for ON = 1 outside RUN, with a named tile agent that is LOST, in reset or named already (the lowest is the DETAIL), or
with one on a rail that is not UP (DETAIL 0: the model’s reading, log 21), CLUSTER_POWER completes with the refusal. Otherwise
the named clusters that are off go in ascending order: the first SIZE drive CL_PWR_EN high at level 1, and the rest wait; none
off completes OK. WAVE_START comes GAP_US after the last CL_PWR_OK with the next SIZE. CL_PWR_OK starts the 10 us in which
nothing is granted, and the last of the last wave completes OK; the hold ends 10 us after. CL_PWR_OK missing OK_US after
CL_PWR_EN drives CL_PWR_EN low, and the command ends with STATE and the tile agent. ON = 0 turns every named cluster off, its
pool returned, and completes once every CL_PWR_OK has fallen. Where a row finds no wave, hold or level of its kind it does
nothing. (The order of the refusals, and that the refusal outside RUN is for ON = 1 alone, are the model's choice, log entry
21.) (R177, R248, R332, R394, R395, R396) -/
def Obligations.ClusterPowerGoesInWaves : Prop :=
  (∀ (s : State) (ts : List Nat) (bad : Nat →
    Bool), (∀ c, bad c = true ↔ (tile s c).lost = true ∨ tget none s.rs.tileRst c ≠ none ∨ powerNames s c = true) →
    (∀ c, ts.find? bad = some c → powerRefused s ts = some c) ∧
    ((∀ c ∈ ts, bad c = false) → (∃ c ∈ ts, (rail s (mfTile s c).rail).st ≠ .up) → powerRefused s ts = some 0) ∧
    ((∀ c ∈ ts, bad c = false ∧ (rail s (mfTile s c).rail).st = .up) → powerRefused s ts = none)) ∧
  (∀ (s : State) (c : Nat) (trips : List DetTrip),
    (s.rs.waves.find? (fun j => j.now.isEmpty && !j.left.isEmpty) = none → exec .waveStart s = .next (settle s)) ∧
    (tileRuns s c = false ∨ (mfTile s c).present = false ∨ (tile s c).pwrOk = true →
      exec (.clusterPowerOk c trips) s = .next (settle s)) ∧
    ((tile s c).pwrOk = false ∨ (tile s c).hold10 = false ∨ tileRuns s c = false → exec (.clPwrHoldExpiry c) s = .next (settle s)) ∧
    (s.rs.waves.find? (fun j => j.now.contains c) = none → exec (.clusterPowerOkTimeout c) s = .next (settle s)) ∧
    ((tile s c).pwrOk = false → exec (.clPwrOkFall c) s = .next (settle s))) ∧
  (∀ (s u : State) (n : Nat) (d : List Byte) (f : Flight) (off : List Nat), Turn s n d → dOp d = 0x05 → byteAt d 8 = 1 →
    Passes s n d .clusterUp (powerSpec s d) →
    (u, f) = takeHead s n d .clusterUp → off = (namedTiles d).filter (fun c => !(tile u c).pwrOk) →
    (isReady u = false → exec .clusterPowerUp s = .next (settle (complete u f 0x0008 (getF u Reg.RS_STATUS.PHASE)))) ∧
    (isReady u = true → u.th.sd ≠ .run → exec .clusterPowerUp s = .next (settle (complete u f 0x000C (sdCode u.th.sd)))) ∧
    (∀ c, isReady u = true → u.th.sd = .run → powerRefused u (namedTiles d) = some c →
      exec .clusterPowerUp s = .next (settle (complete u f 0x0008 c))) ∧
    (isReady u = true → u.th.sd = .run → powerRefused u (namedTiles d) = none →
      (off = [] → exec .clusterPowerUp s = .next (settle (complete u f 0 0))) ∧
      (off ≠ [] → ∃ t, exec .clusterPowerUp s = .next t ∧ (∃ j ∈ t.rs.waves, j.key = f.key ∧
        j.now = off.take (getF u Reg.RS_WAVE.SIZE) ∧
          j.left = off.drop (getF u Reg.RS_WAVE.SIZE) ∧ j.enAt = u.now ∧ j.failed = none) ∧
        (∀ c ∈ off.take (getF u Reg.RS_WAVE.SIZE), (tile t c).pwrEn = true ∧ (tile t c).applied = 1 ∧ (tile t c).levelOne = true) ∧
        (∀ c, c ∉ off.take (getF u Reg.RS_WAVE.SIZE) → tile t c = tile u c) ∧ t.regs = u.regs ∧ t.pc = u.pc ∧ t.be = u.be))) ∧
  (∀ (s u : State) (n : Nat) (d : List Byte) (f : Flight), Turn s n d → dOp d = 0x05 → byteAt d 8 = 0 →
    Passes s n d .taken (powerSpec s d) →
    (u, f) = takeHead s n d .taken →
    (isReady u = false → exec .clusterPowerDown s = .next (settle (complete u f 0x0008 (getF u Reg.RS_STATUS.PHASE)))) ∧
    (∀ c, isReady u = true → powerRefused u (namedTiles d) = some c →
      exec .clusterPowerDown s = .next (settle (complete u f 0x0008 c))) ∧
    (isReady u = true → powerRefused u (namedTiles d) = none →
      ∃ t, exec .clusterPowerDown s = .next t ∧ (∀ c ∈ namedTiles d, tile t c = clusterOff (tile u c) ∧ (tile t c).pool = 0 ∧
        ((tile t c).held = 0 → (tile t c).pwrEn = false)) ∧ (∀ c, c ∉ namedTiles d → tile t c = tile u c) ∧ t.regs = u.regs ∧
          t.pc = u.pc ∧
        ((∀ c ∈ namedTiles d, (clusterOff (tile u c)).pwrOk = false) → ∀ g ∈ t.hr.flights, g.key ≠ f.key))) ∧
  (∀ (s : State) (j : WaveJob), s.rs.waves.find? (fun j => j.now.isEmpty && !j.left.isEmpty) = some j →
    ∃ t, exec .waveStart s = .next t ∧
    t.now = max s.now (j.okAt + us (getF s Reg.RS_WAVE.GAP_US)) ∧ (∃ k ∈ t.rs.waves, k.key = j.key ∧ k.failed = j.failed ∧
      k.enAt = t.now ∧
      k.now = j.left.take (getF s Reg.RS_WAVE.SIZE) ∧ k.left = j.left.drop (getF s Reg.RS_WAVE.SIZE)) ∧
    (∀ c ∈ j.left.take (getF s Reg.RS_WAVE.SIZE), (tile t c).pwrEn = true ∧ (tile t c).applied = 1 ∧
      (tile t c).levelOne = true) ∧ t.regs = s.regs ∧ t.hr = s.hr) ∧
  (∀ (s : State) (c : Nat) (trips : List DetTrip), tileRuns s c = true → (mfTile s c).present = true → (tile s c).pwrOk = false →
    (∃ t, exec (.clusterPowerOk c trips) s = .next t ∧ (tile t c).pwrOk = true ∧ (tile t c).hold10 = true ∧
      (tile t c).okAt = s.now ∧
      grantBlocked t c = true ∧ (∀ e, e ≠ c → tile t e = tile s e) ∧ t.be = s.be ∧ t.pc = s.pc) ∧
    (∀ j, trips = [] → s.rs.waves.find? (fun j => j.now.contains c) = some j → j.now = [c] → j.left = [] → j.failed = none →
      ∃ v, exec (.clusterPowerOk c trips) s = .next (settle (completeKey v j.key 0 0)) ∧ v.hr = s.hr ∧ v.regs = s.regs ∧
        (tile v c).pwrOk = true)) ∧
  (∀ (s : State) (c : Nat), (tile s c).pwrOk = true → (tile s c).hold10 = true → tileRuns s c = true →
    ∃ t, exec (.clPwrHoldExpiry c) s = .next t ∧
    t.now = max s.now ((tile s c).okAt + us 10) ∧ (tile t c).hold10 = false ∧ (s.th.sd = .run → (tile t c).levelOne = false) ∧
      t.be = s.be) ∧
  (∀ (s : State) (c : Nat) (j : WaveJob), s.rs.waves.find? (fun j => j.now.contains c) = some j →
    (∃ t, exec (.clusterPowerOkTimeout c) s = .next t ∧ t.now = max s.now (j.enAt + us (getF s Reg.RS_WAVE.OK_US)) ∧
      (tile t c).pwrEn = false ∧
      t.regs = s.regs ∧ t.be = s.be) ∧
    (∀ f, j.now = [c] → j.left = [] → j.failed = none → s.hr.flights.find? (·.key == j.key) = some f →
      ∃ v, exec (.clusterPowerOkTimeout c) s = .next (settle (complete v f 0x0008 c)) ∧ v.hr = s.hr ∧ v.regs = s.regs)) ∧
  ∀ (s : State) (c : Nat), (tile s c).pwrOk = true → ∃ t, exec (.clPwrOkFall c) s = .next t ∧ (tile t c).pwrOk = false ∧
    (tile t c).grants = [] ∧
    (tile t c).hold10 = false ∧ (∀ e, e ≠ c → tile t e = tile s e) ∧ t.regs = s.regs ∧ t.be = s.be ∧
    ∀ f ∈ s.hr.flights, ∀ l, f.job = .clusterDown l → (∀ e ∈ l, e = c ∨ (tile s e).pwrOk = false) →
      ∀ g ∈ t.hr.flights, g.key ≠ f.key

/-- BLOCK_RESET of scopes 1 to 3: what a reset of an engine, a cluster and a partition does, step by step. Scope 1 returns the
engine's credits, clears its record and completes. A BLOCK_RESET whose check fails completes with that status. Scopes 2 and 3
end with STATE when a named tile agent is in reset already; otherwise each named tile agent enters the reset at once: its
engines and pool return to the hub, its cluster goes off, and no other tile agent changes; with none named the command
completes. When its returns are received, or 2 us after, the hub strands what it sent less what came back and sets LOST, and the
tile agent resets, its control core restarting. TILE_RESET_DONE moves the stranded credits to the reserve, zeroes both totals,
clears ORPHAN and LOST and raises Reset and spares code 1; 1 ms after step 1 the command completes with STATE and the tile agent
instead. Where no such reset runs a row does nothing. (The model's choices: STATE with DETAIL 0 for a tile agent in reset
already and OK for a scope 3 that names none, log entry 22; the tile agent's record as step 3 and the hub's as step 5 leave it,
and the restart of its control core without a fault, log entry 23.) (R187, R194, R331, R397, R398, R400) -/
def Obligations.TileResetsRunTheirSteps : Prop :=
  (∀ (x : Tile) (e : Nat), eng (resetEngine x e) e = {} ∧
    ((eng x e).running = true → (resetEngine x e).held = x.held - (eng x e).cost ∧
    (resetEngine x e).pool + min (eng x e).cost (recallOpen x) = x.pool + (eng x e).cost)) ∧
  (∀ (s u : State) (n i : Nat) (d : List Byte) (f : Flight), Turn s n d → dOp d = 0x04 → (u, f) = takeHead s n d .engReset →
    i = dTarget d % 2 ^ 24 →
    (∀ st det, byteAt d 8 ∉ [2, 3, 4, 5] → checkDesc s f d (engSpec s d) = some (st, det) →
      exec .blockResetEngine s = .next (settle (complete u f st det))) ∧
    (byteAt d 8 = 1 → checkDesc s f d (engSpec s d) = none → inRst u (i / 64) = true →
      exec .blockResetEngine s = .next (settle (complete u f 0x0008 0))) ∧
    (byteAt d 8 = 1 → checkDesc s f d (engSpec s d) = none → inRst u (i / 64) = false →
      exec .blockResetEngine s = .next (settle (complete (grantRun (modTile u (i / 64) (fun x => resetEngine x (i % 64))) (i / 64)) f 0 0)))) ∧
  (∀ (s u : State) (n k : Nat) (c : Instr) (d : List Byte) (f : Flight) (ts : List Nat) (sp : OpSpec), Turn s n d →
    dOp d = 0x04 → byteAt d 8 = k →
    (u, f) = takeHead s n d .taken → ((k = 2 ∧ c = .blockResetCluster ∧ ts = [dTarget d % 2 ^ 24] ∧ sp = clusterSpec s d) ∨
      (k = 3 ∧ c = .blockResetPartition ∧ ts = namedTiles d ∧ sp = partSpec s d)) →
    (∀ st det, checkDesc s f d sp = some (st, det) → exec c s = .next (settle (complete u f st det))) ∧
    (checkDesc s f d sp = none → (∃ t ∈ ts, inRst u t = true) → exec c s = .next (settle (complete u f 0x0008 0))) ∧
    (checkDesc s f d sp = none → (∀ t ∈ ts, inRst u t = false) → ts = [] → exec c s = .next (settle (complete u f 0 0))) ∧
    (checkDesc s f d sp = none → (∀ t ∈ ts, inRst u t = false) → ts ≠ [] → ∃ v, exec c s = .next v ∧ v.regs = u.regs ∧
      v.cc.reserve = u.cc.reserve ∧
      v.be = u.be ∧ v.pc = u.pc ∧ (∀ t ∈ ts, tget none v.rs.tileRst t = some { key := f.key, startedAt := u.now, scope := k } ∧
        (tile v t).pool = 0 ∧
        (tile v t).mark = (tile u t).retTot ∧ (∀ e < 64, (eng (tile v t) e).running = false) ∧
          ((tile v t).held = 0 → (tile v t).pwrEn = false)) ∧
      ∀ t, t ∉ ts → tile v t = tile u t ∧ tget none v.rs.tileRst t = tget none u.rs.tileRst t)) ∧
  (∀ (s : State) (c : Nat) (r : TileRst), tget none s.rs.tileRst c = some r → r.stranded = false →
    ∃ t, exec (.tileResetStrand c) s = .next t ∧
    t.now = (if (tile s c).up = [] then s.now else max s.now (r.startedAt + us 2)) ∧ (tile t c).lost = true ∧
      (tile t c).stranded = outAt (tile s c) ∧
    (tile t c).engs = [] ∧ (tile t c).pool = 0 ∧ (tile t c).held = 0 ∧ (tile t c).pwrEn = false ∧
      ((tcore s c).st ≠ 6 → (tcore t c).st = 5) ∧
    tget none t.rs.tileRst c = some { r with stranded := true } ∧ t.regs = s.regs ∧ t.hr = s.hr ∧ t.cc.reserve = s.cc.reserve) ∧
  (∀ (s : State) (c : Nat) (r : TileRst), tget none s.rs.tileRst c = some r → r.stranded = true →
    exec (.tileResetStrand c) s = .next (settle s) ∧
    ∃ v, exec (.tileResetDone c) s = .next (settle (tileRstLeft (raiseEvent v 0x0E 1 (tileUnit c) (leBytes 1 r.scope)) r.key c)) ∧
      v.cc.reserve = s.cc.reserve + (tile s c).stranded ∧ (tile v c).stranded = 0 ∧ (tile v c).lost = false ∧
        (tile v c).orphan = false ∧
      (tile v c).hSent = 0 ∧ (tile v c).hRet = 0 ∧ tget none v.rs.tileRst c = none ∧ (tile v c).portB = (s.du.active == 1) ∧
        v.regs = s.regs ∧ v.hr = s.hr ∧ ∀ e, e ≠ c → tile v e = tile s e) ∧
  (∀ (s : State) (c : Nat), ((∀ r, tget none s.rs.tileRst c = some r → r.stranded = false) →
    exec (.tileResetDone c) s = .next (settle s)) ∧
    (tget none s.rs.tileRst c = none → exec (.tileResetStrand c) s = .next (settle s) ∧
      exec (.tileResetTimeout c) s = .next (settle s))) ∧
  (∀ (s : State) (f : Flight) (key t : Nat) (l : List Nat), s.hr.flights.find? (·.key == key) = some f → f.job = .tileReset l →
    (l.filter (· != t) = [] → tileRstLeft s key t = complete s f 0 0) ∧
    (l.filter (· != t) ≠ [] → tileRstLeft s key t = setJob s f (.tileReset (l.filter (· != t))))) ∧
  ∀ (s : State) (c : Nat) (r : TileRst), tget none s.rs.tileRst c = some r →
    ∃ v, exec (.tileResetTimeout c) s = .next (settle (completeKey v r.key 0x0008 c)) ∧
    v.now = max s.now (r.startedAt + ms 1) ∧ tget none v.rs.tileRst c = none ∧ v.hr = s.hr ∧ v.regs = s.regs ∧
    (r.stranded = true → (tile v c).lost = (tile s c).lost ∧ (tile v c).stranded = (tile s c).stranded) ∧
    (r.stranded = false → (tile v c).lost = true ∧ (tile v c).stranded = outAt (tile s c))

/-- BLOCK_RESET of scopes 4 and 5: what a sub-block reset and a whole-block reset leave. A check that fails completes the command.
Scope 4 ends with STATE while the sub-block is in reset or its condition does not hold. A core sub-block 1 to 3 restarts its
core while a reserve core carries the duties; sub-block 4 restarts every reserve core; the command then stays in flight until
they run or stand by again, and completes OK. Sub-block 5 forgets its retries and target marks and sets its targets up again,
once a core carries the power core's duties; 6 leaves no loop, no model and no bins, every domain stopped; 7 leaves no port on;
each completes OK. Scope 5 completes OK and, unless the ring is in ERROR, resets once the record is answered GOOD and no tag is
outstanding; 10 ms after the drain began the reset takes effect with the outstanding tags quarantined until the window opens,
bring-up starts again, and RS_CAUSE shows BLOCK. (That a record which fails, or a ring in ERROR, leaves the block without its
reset is the model's choice, log entry 25; when a sub-block of cores has left its reset is log entry 22.) (R331, R379, R399,
R400) -/
def Obligations.HubResetsRunTheirScopes : Prop :=
  (∀ (s u : State) (n c : Nat) (d : List Byte) (f : Flight), Turn s n d → dOp d = 0x04 → byteAt d 8 = 4 → byteAt d 9 = c →
    (u, f) = takeHead s n d .taken →
    (∀ st det, checkDesc s f d (subSpec s d) = some (st, det) → exec .blockResetSubBlock s = .next (settle (complete u f st det))) ∧
    (checkDesc s f d (subSpec s d) = none → subIn u c = true ∨ subMay u c = false →
      exec .blockResetSubBlock s = .next (settle (complete u f 0x0008 0))) ∧
    (checkDesc s f d (subSpec s d) = none → subIn u c = false → subMay u c = true →
      (1 ≤ c → c ≤ 3 → (core u (c - 1)).st = 1 → ∃ t, exec .blockResetSubBlock s = .next t ∧ (core t (c - 1)).st = 5 ∧
        dutyRuns t (c - 1) = true ∧
        bitAt t.rs.subBlk c = true ∧ ((∀ g ∈ s.hr.flights, g.key ≠ s.hr.nextKey) → ∃ g ∈ t.hr.flights, g.key = f.key ∧
          g.job = .subReset c) ∧ t.be = u.be ∧ t.pc = u.pc) ∧
      (c = 4 → ∃ t, exec .blockResetSubBlock s = .next t ∧ (∀ r ∈ [4, 5, 6, 7], (core u r).st ≠ 6 → (core t r).st = 5) ∧
        (∀ r ∈ [4, 5, 6, 7], (core u r).st = 6 → (core t r).st = 6) ∧ ((∃ r ∈ [4, 5, 6, 7], (core u r).st ≠ 6) →
          ∃ g ∈ t.hr.flights, g.key = f.key ∧ g.job = .subReset 4) ∧ t.be = u.be ∧ t.pc = u.pc ∧ t.cc = u.cc) ∧
      (5 ≤ c → c ≤ 7 → ∃ v, exec .blockResetSubBlock s = .next (settle (complete v f 0 0)) ∧
        (c = 5 → v.bus.retry = [] ∧ v.bus.faulted = [] ∧ v.bus.absent = [] ∧
          (∀ m, u.mf = some m → dutyRuns u 1 = true → v.bus.i3c = (setupTargets { u with bus.absent := [] } m).bus.i3c) ∧
          (u.mf = none ∨ dutyRuns u 1 = false → v.bus.setupDue = true) ∧ v.be = u.be ∧ v.pc = u.pc) ∧
        (c = 6 → v.be.loops = [] ∧ v.be.stopped = 0xFFFF ∧ v.th.model = none ∧ v.pb.bins = [] ∧ v.pb.prog = none ∧
          v.obs.watches = []) ∧
        (c = 7 → (∀ p, portOn (port v p) = false) ∧ v.be.loops = u.be.loops ∧ v.cc = u.cc)))) ∧
  (∀ (s : State) (k c : Nat), c = coreSub k → bitAt s.rs.subBlk c = true →
    ((k < 3 ∧ (core s k).st = 5 ∨ 3 ≤ k ∧ ∃ r ∈ [4, 5, 6, 7], (core s r).st = 5) → coreLeft s k = s) ∧
    ((k < 3 → (core s k).st ≠ 5) → (3 ≤ k → ∀ r ∈ [4, 5, 6, 7], (core s r).st ≠ 5) → bitAt (coreLeft s k).rs.subBlk c = false ∧
      (∀ g ∈ (coreLeft s k).hr.flights, g.job ≠ .subReset c) ∧ ∀ f, s.hr.flights.filter (fun g => g.job == .subReset c) = [f] →
        coreLeft s k = complete { s with rs.subBlk := clrBit s.rs.subBlk c } f 0 0)) ∧
  (∀ (s u : State) (n : Nat) (d : List Byte) (f : Flight), Turn s n d → dOp d = 0x04 → byteAt d 8 = 5 →
    (u, f) = takeHead s n d .whole →
    (∀ st det, checkDesc s f d (wholeSpec s d) = some (st, det) → exec .blockResetWhole s = .next (settle (complete u f st det))) ∧
    (∀ v, checkDesc s f d (wholeSpec s d) = none → v = complete u f 0 0 →
      exec .blockResetWhole s = .next (settle (if (ring v f.ring).error then v else
        { v with rs.whole := some (f.ring, ((ring u f.ring).cplProd + ringWaits u f.ring) % 2 ^ 32) })))) ∧
  (∀ (s : State) (n i st : Nat) (bs : List Byte), s.hap.done.find? (fun d => isCpl d.purpose) = some ⟨.cpl n i, st, bs⟩ →
    s.rs.whole = some (n, i) →
    ∃ v, v = cplDone { s with hap.done := s.hap.done.erase ⟨.cpl n i, st, bs⟩ } n i st ∧
      (st ≠ 0 → exec .completionWriteDone s = .next (settle { v with rs.whole := none })) ∧
      (st = 0 → exec .completionWriteDone s = .next (settle (if v.hap.out = [] then
        wholeReset { v with hap.stopped := true, rs.whole := none, rs.draining := some v.now } else
        { v with hap.stopped := true, rs.whole := none, rs.draining := some v.now })))) ∧
  (∀ (s : State) (a : Nat), s.rs.draining = some a → ∃ t, exec .blockResetDrainTimeout s = .next t ∧ t.now = max s.now (a + ms 10) ∧
    t.hap.out = [] ∧ (∀ r ∈ s.hap.out, ⟨r.tag, .window⟩ ∈ t.hap.quar) ∧ (∀ q ∈ s.hap.quar, ⟨q.tag, .window⟩ ∈ t.hap.quar) ∧
      t.rs.step = 0 ∧
    t.rs.done = 0 ∧ getF t Reg.RS_CAUSE.BLOCK = 1 ∧ t.pins.gstop = true ∧ t.mf = none ∧ t.be.loops = [] ∧ t.hr.rings = [] ∧
      t.build = s.build) ∧
  ∀ s : State, s.rs.draining = none → exec .blockResetDrainTimeout s = .next (settle s)

/-- MANIFEST_LOAD: its checks in order, the agreement check, what comes into force, and READY. A check of R319 that fails completes
the command, a manifest accepted before completes it with STATE, a failed read with HAP_READ, a check of R339 with FORMAT and
the number of the first that fails: 1 the header, 2 the CRC, 3 FX_BUILD, 4 reserved bytes, 5 the directory, 6 units and records,
7 GROUP, 8 the memory regions. A step of R389 that fails leaves PHASE 8, RS_AGREE with that step, its index and FAILED,
HR_MF_UNIT with the unit, and no manifest, and completes the command with DISAGREE. While the read cannot be made, or while the
board buses that the agreement check uses do not work, the row waits with its descriptor. Otherwise the manifest is in force,
HR_MF_ID holds its ID, PHASE is 10 and the command completes OK. READY, once zeroing, the mirror's copy and Sizing have
finished, makes PHASE 11, records rack time and raises Reset and spares code 2; before that it does nothing. (That the targets
which fail steps 5 and 6 are marked, and that a wrong build, form or length is judged as given here, are readings of the model,
log entry 29; that the row stands for the end of its reads is log entry 8.) (R337, R338, R339, R388, R389, R390) -/
def Obligations.ManifestComesIntoForce : Prop :=
  (∀ (s : State) (bs : List Byte) (len : Nat), (leAt bs 0 4 ≠ 0x464E414D ∨ leAt bs 4 2 ≠ 1 ∨ leAt bs 6 2 < 4 ∨ 16 < leAt bs 6 2 ∨ leAt bs 16 4 ≠ len →
      manifestReason s bs len = 1) ∧
    (leAt bs 0 4 = 0x464E414D → leAt bs 4 2 = 1 → 4 ≤ leAt bs 6 2 → leAt bs 6 2 ≤ 16 → leAt bs 16 4 = len →
      (crc32 (bs.drop 64) ≠ leAt bs 12 4 → manifestReason s bs len = 2) ∧
      (crc32 (bs.drop 64) = leAt bs 12 4 → leAt bs 20 4 ≠ fxBuild s.build → manifestReason s bs len = 3) ∧
      (crc32 (bs.drop 64) = leAt bs 12 4 → leAt bs 20 4 = fxBuild s.build → manifestReason s bs len =
        if reservedBad bs then 4 else if directoryBad s bs then 5
        else if gridBad s.build (parseManifest bs) bs || pointBad s.build (parseManifest bs) bs then 6
        else if groupBad (parseManifest bs) bs then 7 else if regionBad (parseManifest bs) then 8 else 0))) ∧
  (∀ (s u v w : State) (n : Nat) (d bs b : List Byte) (f : Flight) (corr : Bool) (o : AgreeObs), Turn s n d → dOp d = 0x02 →
    (u, f) = takeHead s n d .taken →
    w = readDone corr u f (leAt d 8 8) (leAt d 16 4) 0 → v = setF w Reg.RS_STATUS.PHASE 9 → b = bs.take (leAt d 16 4) →
    (∀ mem st det, checkDesc s f d (loadSpec false d) = some (st, det) →
      exec (.manifestLoad mem o) s = .next (settle (complete u f st det))) ∧
    (∀ mem, checkDesc s f d (loadSpec false d) = none → u.hr.mfAccepted = true →
      exec (.manifestLoad mem o) s = .next (settle (complete u f 0x0008 0))) ∧
    (∀ mem, checkDesc s f d (loadSpec false d) = none → u.hr.mfAccepted = false → readOpen s 0 = false →
      exec (.manifestLoad mem o) s = .next (settle s)) ∧
    (checkDesc s f d (loadSpec false d) = none → u.hr.mfAccepted = false → readOpen s 0 = true →
      (∀ st, exec (.manifestLoad (.fail st) o) s = .next (settle (readFail u f (leAt d 8 8) (leAt d 16 4) 0 st.toNat))) ∧
      (manifestReason v b (leAt d 16 4) ≠ 0 →
        exec (.manifestLoad (.data bs corr) o) s = .next (settle (complete (setF v Reg.RS_STATUS.PHASE 8) f 0x0012 (manifestReason v b (leAt d 16 4))))) ∧
      (manifestReason v b (leAt d 16 4) = 0 → busWorks s = false → exec (.manifestLoad (.data bs corr) o) s = .next (settle s)) ∧
      (∀ x, manifestReason v b (leAt d 16 4) = 0 → busWorks s = true → agree v (parseManifest b) o = some x →
        ∃ t, exec (.manifestLoad (.data bs corr) o) s = .next (settle (complete t f 0x0019 0)) ∧
          getF t Reg.RS_AGREE.STEP = x.step % 2 ^ Reg.RS_AGREE.STEP.w ∧ getF t Reg.RS_AGREE.FAILED = 1 ∧
          getF t Reg.RS_AGREE.INDEX = x.index % 2 ^ Reg.RS_AGREE.INDEX.w ∧ getF t Reg.HR_MF_UNIT.UNIT = x.unit % 2 ^ 32 ∧
        getF t Reg.RS_STATUS.PHASE = 8 ∧ t.mf = s.mf ∧ t.hr.mfAccepted = false ∧ t.be = s.be ∧ t.pc = s.pc ∧ t.cc = s.cc ∧
          t.th = s.th) ∧
      (manifestReason v b (leAt d 16 4) = 0 → busWorks s = true → agree v (parseManifest b) o = none →
        ∃ t, exec (.manifestLoad (.data bs corr) o) s = .next (settle (complete t f 0 0)) ∧
        t.mf = some (parseManifest b) ∧ t.hr.mfAccepted = true ∧ getF t Reg.HR_MF_ID.ID = (parseManifest b).id % 2 ^ 32 ∧
        getF t Reg.RS_STATUS.PHASE = 10 ∧ getF t Reg.RS_AGREE.FAILED = 0 ∧
          getF t Reg.RS_AGREE.STEP = (if s.build.hubs = 2 then 7 else 6) ∧ t.be = s.be))) ∧
  (∀ s : State, hostOpen s = true → getF s Reg.RS_STATUS.PHASE = 10 → (s.du.mode = 1 → s.du.synced = true) → s.rs.zeroing = false →
    flagOn s Reg.TH_SIZE.DONE = true → ∃ v, exec .ready s = .next (settle (raiseEvent v 0x0E 2 (hubUnit v) (zeros 1))) ∧
      getF v Reg.RS_STATUS.PHASE = 11 ∧ getF v Reg.RS_READY_TS_LO.TS = s.tb.time % 2 ^ 32 ∧
      getF v Reg.RS_READY_TS_HI.TS = s.tb.time / 2 ^ 32 % 2 ^ 32 ∧ v.hr = s.hr ∧ v.mf = s.mf ∧ v.be = s.be ∧ v.pc = s.pc) ∧
  ∀ s : State, (hostOpen s = false ∨ getF s Reg.RS_STATUS.PHASE ≠ 10 ∨ (s.du.mode = 1 ∧ s.du.synced = false) ∨ s.rs.zeroing = true ∨
    flagOn s Reg.TH_SIZE.DONE = false) → exec .ready s = .next (settle s)

/-- FIRMWARE_LOAD and FX_LOAD judge an image; an accepted image starts by its KIND; a tile broadcast is sent again. With BOOT_SRC
other than 3 or the firmware lock FIRMWARE_LOAD completes with BOOT_POLICY, with STATE while an image of another KIND waits,
with HAP_READ where its read fails, with FORMAT when LEN is not 128 plus BODY_LEN, and with IMAGE_REJECTED, FW_REJECT set, at
the first failing reason; otherwise the image waits to start. The row waits while its read cannot be made, and the check of an
image waits while no core carries the security duties. The TAP takes an image only with BOOT_SRC 1, with no image of another
KIND waiting, and whole; it needs no signature. An image of KIND 1 to 3 starts with a reserve core in STANDBY, which covers
while the core is switched; KIND 4 is broadcast to every tile agent that runs, in frames of 12 bytes and a close with length and
CRC-32, which the frames as sent pass; KIND 5 switches the reserve cores one at a time. A send that failed at some tile agents
goes to them again, up to 3 times. (The order of STATE, HAP_READ and FORMAT, FORMAT for a wrong length, and what an image that
waits for its check does, are readings of the model, log entry 30.) (R328, R352, R353, R354, R355, R361, R392, R393) -/
def Obligations.FirmwareImagesAreJudgedAndStarted : Prop :=
  (∀ (s u v w : State) (n kind failed : Nat) (d b bs : List Byte) (f g : Flight) (corr : Bool), Turn s n d → dOp d = 0x03 →
    byteAt d 20 = kind →
    (u, f) = takeHead s n d (.firmware 0 []) → v = readDone corr u f (leAt d 8 8) (leAt d 16 4) 3 → bs = b.take (leAt d 16 4) →
    g = { f with job := .firmware kind bs } → w = setJob v f (.firmware kind bs) →
    (∀ mem st det, checkDesc s f d (firmwareSpec d) = some (st, det) →
      exec (.firmwareLoad mem failed) s = .next (settle (complete u f st det))) ∧
    (checkDesc s f d (firmwareSpec d) = none →
      (∀ mem, getF u Reg.RS_STRAPS.BOOT_SRC ≠ 3 ∨ u.hr.lockFw = true →
        exec (.firmwareLoad mem failed) s = .next (settle (complete u f 0x001A (getF u Reg.RS_STRAPS.BOOT_SRC)))) ∧
      (getF u Reg.RS_STRAPS.BOOT_SRC = 3 → u.hr.lockFw = false →
        (∀ mem i, u.du.image = some i → i.kind ≠ kind →
          exec (.firmwareLoad mem failed) s = .next (settle (complete u f 0x0008 i.kind))) ∧
        (∀ mem, (∀ i, u.du.image = some i → i.kind = kind) → readOpen s 3 = false →
          exec (.firmwareLoad mem failed) s = .next (settle s)) ∧
        ((∀ i, u.du.image = some i → i.kind = kind) → readOpen s 3 = true →
          (∀ st, exec (.firmwareLoad (.fail st) failed) s = .next (settle (readFailAt failed u f (leAt d 8 8) (leAt d 16 4) 3 st.toNat))) ∧
          (leAt d 16 4 ≠ 128 + leAt bs 12 4 →
            exec (.firmwareLoad (.data b corr) failed) s = .next (settle (complete v f 0x0012 0))) ∧
          (leAt d 16 4 = 128 + leAt bs 12 4 → dutyRuns v 0 = false →
            exec (.firmwareLoad (.data b corr) failed) s = .next (settle w)) ∧
          (leAt d 16 4 = 128 + leAt bs 12 4 → dutyRuns v 0 = true → exec (.firmwareLoad (.data b corr) failed) s =
            .next (settle (if imageReason w kind true bs = 0 then complete (acceptImage w bs) g 0 0
              else complete (rejectImage w (imageReason w kind true bs) kind) g 0x001B kind))))))) ∧
  (∀ (s : State) (kind : Nat) (sg : Bool) (bs : List Byte), (imageReason s kind sg bs = 0 ↔ leAt bs 0 4 = 0x57464C46 ∧
    leAt bs 4 2 = 1 ∧
      byteAt bs 6 = kind ∧ 1 ≤ kind ∧ kind ≤ 5 ∧ leAt bs 12 4 % 32 = 0 ∧ 0 < leAt bs 12 4 ∧ leAt bs 12 4 ≤ bodyLimit kind ∧
        byteAt bs 7 = 0 ∧
      leAt bs 8 4 ≠ 0 ∧ allZero bs 20 12 = true ∧ bitsAt (fuse s (59 + kind)) 0 16 ≤ leAt bs 16 4 ∧
        (sg = true → imageSigOk bs = true)) ∧
    (imageReason s kind sg bs = 6 → sg = true ∧ imageSigOk bs = false) ∧ imageReason s kind sg bs ≤ 6) ∧
  (∀ (s : State) (f : Flight) (kind : Nat) (bs : List Byte), f.job = .firmware kind bs → (dutyRuns s 0 = false →
    checkImage s f = s) ∧
    (dutyRuns s 0 = true → otherWaits s kind = none →
      checkImage s f = if imageReason s kind true bs = 0 then complete (acceptImage s bs) f 0 0
      else complete (rejectImage s (imageReason s kind true bs) kind) f 0x001B kind)) ∧
  (∀ (s v w : State) (bs : List Byte), v = tapEdge (tapScan { s with tap.dr := [] } 0x22 (bs.flatMap (fun b => bitsLsb b.toNat 8))) true false →
    w = { v with du.tapWait := none } → { v with tap := s.tap } = s ∧ v.tap.ir = 0x22 ∧
    (getF s Reg.RS_STRAPS.BOOT_SRC ≠ 1 ∨ released s 8 = false ∨ bs.length ≠ 128 + leAt bs 12 4 →
      exec (.tapFirmwareLoad bs) s = .next (settle v)) ∧
    (getF s Reg.RS_STRAPS.BOOT_SRC = 1 → released s 8 = true → bs.length = 128 + leAt bs 12 4 →
      (dutyRuns s 0 = false → exec (.tapFirmwareLoad bs) s = .next (settle { v with du.tapWait := some bs })) ∧
      (∀ i, dutyRuns s 0 = true → s.du.image = some i → i.kind ≠ byteAt bs 6 → exec (.tapFirmwareLoad bs) s = .next (settle w)) ∧
      (dutyRuns s 0 = true → (∀ i, s.du.image = some i → i.kind = byteAt bs 6) →
        (imageReason s (byteAt bs 6) false bs = 0 → exec (.tapFirmwareLoad bs) s = .next (settle (acceptImage w bs))) ∧
        (imageReason s (byteAt bs 6) false bs ≠ 0 →
          exec (.tapFirmwareLoad bs) s = .next (settle (rejectImage w (imageReason s (byteAt bs 6) false bs) (byteAt bs 6))))))) ∧
  (∀ bs : List Byte, bcastCheck (bcastFrames bs) = true) ∧
  (∀ s : State, (released s 8 = false → exec .firmwareImageStart s = .next (settle s)) ∧
    (released s 8 = true → s.du.image = none → exec .firmwareImageStart s = .next (settle (startReserve s)) ∧
      ((∃ q ∈ [4, 5, 6, 7], (core s q).st = 7) → startReserve s = s) ∧
      (∀ r, (∀ q ∈ [4, 5, 6, 7], (core s q).st ≠ 7) → s.du.left.find? (fun r => (core s r).st == 2) = some r →
        (core (startReserve s) r).st = 7 ∧ (startReserve s).du.left = s.du.left.filter (· != r) ∧
          ∀ q, q ≠ r → core (startReserve s) q = core s q))) ∧
  (∀ (s : State) (i : FwImage), released s 8 = true → s.du.image = some i →
    (∀ r, 1 ≤ i.kind → i.kind ≤ 3 → standby s = some r → (core s (i.kind - 1)).st = 1 → ∃ t, exec .firmwareImageStart s = .next t ∧
      ((∀ f ∈ s.hr.flights, ∀ k b, f.job ≠ .firmware k b) → s.du.tapWait = none → t.du.image = none) ∧
        getF t (Reg.FW_IMAGE.ID (i.kind - 1)) = i.id % 2 ^ 32 ∧ (core t (i.kind - 1)).st = 7 ∧ (core t r).st = 3 ∧
        (core t r).duty = some (i.kind - 1) ∧
      dutyRuns t (i.kind - 1) = true ∧ t.be = s.be ∧ t.pc = s.pc) ∧
    (1 ≤ i.kind → i.kind ≤ 3 → standby s = none ∨ (core s (i.kind - 1)).st ≠ 1 → exec .firmwareImageStart s = .next (settle s)) ∧
    (i.kind = 4 → s.rs.bcast ≠ none → exec .firmwareImageStart s = .next (settle s)) ∧
    (i.kind = 4 → s.rs.bcast = none → ∃ t, exec .firmwareImageStart s = .next t ∧ t.du.image = none ∧
      getF t (Reg.FW_IMAGE.ID 3) = i.id % 2 ^ 32 ∧
      t.rs.bcast = some ⟨false, bcastFrames i.body, (List.range s.build.tiles).filter (tileRuns s), 0⟩ ∧
        getF t Reg.RS_BCAST.BUSY = 1 ∧ t.du.cores = s.du.cores) ∧
    (∀ r, i.kind = 5 → standby s = some r → (∀ q ∈ [4, 5, 6, 7], (core s q).st ≠ 7) → ∃ t, exec .firmwareImageStart s = .next t ∧
      t.du.image = none ∧
      getF t (Reg.FW_IMAGE.ID 4) = i.id % 2 ^ 32 ∧ (core t r).st = 7 ∧ (∀ q, q ≠ r → core t q = core s q) ∧
      t.du.left = [4, 5, 6, 7].filter (fun q => (core s q).st != 6 && q != r)) ∧
    (i.kind = 5 → standby s = none ∨ (∃ q ∈ [4, 5, 6, 7], (core s q).st = 7) → ∃ t, exec .firmwareImageStart s = .next t ∧
      t.du.image = none ∧
      getF t (Reg.FW_IMAGE.ID 4) = i.id % 2 ^ 32 ∧ t.du.cores = s.du.cores ∧
        t.du.left = [4, 5, 6, 7].filter (fun q => (core s q).st != 6))) ∧
  (∀ (s : State) (taken : List (Nat × List RingFrame)) (fl : List Nat) (b : Bcast), s.rs.bcast = some b →
    fl = b.left.filter (fun t => framesTaken b taken t != b.frames && !bcastCheck (framesTaken b taken t)) →
    (fl = [] → ∃ t, exec (.tileBroadcastDone taken) s = .next t ∧ t.rs.bcast = none ∧ getF t Reg.RS_BCAST.BUSY = 0 ∧
      (b.bringUp = false → ∀ c ∈ b.left, (tcore s c).st = 1 → (tcore t c).st = 7) ∧ t.hr = s.hr) ∧
    (fl ≠ [] → b.tries < 3 → ∃ t, exec (.tileBroadcastDone taken) s = .next t ∧
      t.rs.bcast = some ⟨b.bringUp, b.frames, fl, b.tries + 1⟩ ∧
      getF t Reg.RS_BCAST.RESENDS = min (2 ^ Reg.RS_BCAST.RESENDS.w - 1) (getF s Reg.RS_BCAST.RESENDS + 1) % 2 ^ Reg.RS_BCAST.RESENDS.w ∧ t.hr = s.hr) ∧
    (fl ≠ [] → 3 ≤ b.tries → ∃ t, exec (.tileBroadcastDone taken) s = .next t ∧ t.rs.bcast = none ∧ getF t Reg.RS_BCAST.BUSY = 0 ∧
      (b.bringUp = true → ∀ c ∈ fl, (tcore t c).st = 6) ∧ (b.bringUp = false → ∀ c ∈ fl, tcore t c = tcore s c))) ∧
  ∀ (s : State) (taken : List (Nat × List RingFrame)), s.rs.bcast = none → exec (.tileBroadcastDone taken) s = .next (settle s)

/-- A freeze holds the visible observation values, each source of one acts as R430 says, and a thaw ends it. While one is in force a
freeze only adds to COUNT; otherwise every tile agent's increments and its counts of R198 are taken, the visible values are held
(which values, what an act on a freeze in force does and how TS is taken are the model's readings, log 62), FROZEN is set and
SETTLED clear, and the source, rack time, QUALITY, the watch and LATE are recorded; with SNAP_EN a snapshot falls due, unless a
scan is busy, which keeps the last. FREEZE with ACT 1 first disarms an armed one, which completes with SUPERSEDED, and then
freezes at once, freezes late, or arms at OBS_FRZ_AT, where the freeze comes and the command completes. ACT 0 and the TAP thaw;
the TAP freezes 32 ns after its update, and the FX_FREEZE register, captured first, shifts the status of R437 out. The marker's
last send sets SETTLED and the snapshot's end SNAP_VALID. Capture-DR and Exit set and clear SCAN_BUSY, and between them the
chain shifts out from word 0, each word from bit 0; which edges of TCK a row or an idle step stands for is the model's reading
(logs 61, 79). While the block is not alive the TAP only moves. OP_COUNT_TRANSFER adds a tile agent's increments to the chip
totals. (R422, R430, R431, R432, R434, R435, R436, R437) -/
def Obligations.FreezesHoldAndThaw : Prop :=
  (∀ (s t : State) (src w late : Nat), t = freezeNow s src w late →
    (flagOn s Reg.OBS_FRZ_STATUS.FROZEN = true → t = incSat s Reg.OBS_FRZ_STATUS.COUNT) ∧
    (flagOn s Reg.OBS_FRZ_STATUS.FROZEN = false → getF t Reg.OBS_FRZ_STATUS.FROZEN = 1 ∧ getF t Reg.OBS_FRZ_STATUS.SETTLED = 0 ∧
      getF t Reg.OBS_FRZ_STATUS.SOURCE = src % 2 ^ Reg.OBS_FRZ_STATUS.SOURCE.w ∧
        t.obs.held = some (heldNow (lwSend (opTransferAll s))) ∧ t.obs.marked = t.obs.held ∧
      t.cc.tiles = (lwSend (opTransferAll s)).cc.tiles ∧ t.obs.marker = true ∧
      getF t Reg.OBS_FRZ_STATUS.QUALITY = quality s % 2 ^ Reg.OBS_FRZ_STATUS.QUALITY.w ∧
        getF t Reg.OBS_FRZ_STATUS.WATCH = w % 2 ^ Reg.OBS_FRZ_STATUS.WATCH.w ∧
      getF t Reg.OBS_FRZ_STATUS.LATE = late % 2 ^ Reg.OBS_FRZ_STATUS.LATE.w ∧
        getF t Reg.OBS_FRZ_TS_HI.TS = s.tb.time / 2 ^ 32 % 2 ^ 32 ∧
      (flagOn s Reg.OBS_FRZ_CFG.SNAP_EN = true → flagOn s Reg.OBS_FRZ_STATUS.SCAN_BUSY = false → t.obs.snapDue = true ∧
        t.obs.snapCap = false ∧
        getF t Reg.OBS_FRZ_STATUS.SNAP_VALID = 0 ∧ getF t Reg.OBS_FRZ_STATUS.SNAP_KEPT = 0) ∧
      (flagOn s Reg.OBS_FRZ_CFG.SNAP_EN = true → flagOn s Reg.OBS_FRZ_STATUS.SCAN_BUSY = true → t.obs.snapDue = s.obs.snapDue ∧
        getF t Reg.OBS_FRZ_STATUS.SNAP_KEPT = 1) ∧
      (flagOn s Reg.OBS_FRZ_CFG.SNAP_EN = false → t.obs.snapDue = s.obs.snapDue ∧
        getF t Reg.OBS_FRZ_STATUS.SNAP_VALID = getF s Reg.OBS_FRZ_STATUS.SNAP_VALID) ∧
      getF t Reg.OBS_FRZ_TS_LO.TS = s.tb.time % 2 ^ 32 ∧ t.be = s.be ∧ t.hr = s.hr ∧ t.bg = s.bg)) ∧
  (∀ s : State, (thawNow s).obs.held = none ∧ (thawNow s).obs.marker = false ∧ getF (thawNow s) Reg.OBS_FRZ_STATUS.FROZEN = 0 ∧
    getF (thawNow s) Reg.OBS_FRZ_STATUS.ARMED = 0 ∧ (thawNow s).obs.timedKey = none) ∧
  (∀ (s u v : State) (n : Nat) (d : List Byte) (f : Flight), Turn s n d → dOp d = 0x61 → (u, f) = takeHead s n d .freeze →
    v = completeOpt (setF { u with obs.timedKey := none } Reg.OBS_FRZ_STATUS.ARMED 0) u.obs.timedKey 0x0013 0 →
    (∀ st det, checkDesc s f d (freezeSpec d) = some (st, det) → byteAt d 8 ≠ 0 →
      exec .freeze s = .next (settle (complete u f st det))) ∧
    (∀ st det, checkDesc s f d (freezeSpec d) = some (st, det) → byteAt d 8 = 0 →
      exec .thaw s = .next (grantTiles (settle (complete u f st det)))) ∧
    (checkDesc s f d (freezeSpec d) = none → byteAt d 8 = 0 →
      exec .thaw s = .next (grantTiles (settle (complete (thawNow u) f 0 0)))) ∧
    (checkDesc s f d (freezeSpec d) = none → byteAt d 8 ≠ 0 →
      (flagOn u Reg.OBS_FRZ_CFG.AT_EN = false → exec .freeze s = .next (settle (complete (freezeNow v 1 0 0) f 0 0))) ∧
      (flagOn u Reg.OBS_FRZ_CFG.AT_EN = true → frzAt u = u.tb.time →
        exec .freeze s = .next (settle (complete (freezeNow v 2 0 0) f 0 0))) ∧
      (flagOn u Reg.OBS_FRZ_CFG.AT_EN = true → frzAt u < u.tb.time →
        exec .freeze s = .next (settle (complete (freezeNow v 2 0 1) f 0 0))) ∧
      (flagOn u Reg.OBS_FRZ_CFG.AT_EN = true → u.tb.time < frzAt u →
        exec .freeze s = .next (settle (setF { v with obs.timedKey := some f.key } Reg.OBS_FRZ_STATUS.ARMED 1))))) ∧
  (∀ (s u : State) (k : Nat), s.obs.timedKey = some k → u = advanceTo s (s.now + ceilDiv (frzAt s - s.tb.time) 4) →
    (alive s = true → s.tb.running = true → s.tb.time < 2 ^ 64 - 4 → frzAt s < 2 ^ 64 - 4 → frzAt s ≤ u.tb.time) ∧
    (frzAt s ≤ u.tb.time → exec .freezeTimedInstant s =
      .next (settle (completeKey (freezeNow (setF { u with obs.timedKey := none } Reg.OBS_FRZ_STATUS.ARMED 0) 2 0 0) k 0 0))) ∧
    (u.tb.time < frzAt s → exec .freezeTimedInstant s = .next (settle u))) ∧
  (∀ s : State, (s.obs.timedKey = none → exec .freezeTimedInstant s = .next (settle s)) ∧
    (s.obs.marker = false → exec .freezeSettled s = .next (settle s)) ∧
      (s.obs.snapCap = false → exec .snapshotValid s = .next (settle s)) ∧
    (s.obs.marker = true → ∃ t, exec .freezeSettled s = .next t ∧ getF t Reg.OBS_FRZ_STATUS.SETTLED = 1 ∧
      t.obs = { s.obs with marker := false } ∧ t.hr = s.hr) ∧
    (s.obs.snapCap = true → ∃ t, exec .snapshotValid s = .next t ∧ getF t Reg.OBS_FRZ_STATUS.SNAP_VALID = 1 ∧
      t.obs = { s.obs with snapCap := false } ∧ t.hr = s.hr)) ∧
  (∀ (s : State) (b : Byte), ∃ x : Tap, x.ir = 0x20 ∧ x.st = .updateDr ∧ x.dr = bitsLsb b.toNat 8 ∧
    x.out = bitsLsb (freezeCapture s) 8 ∧ ∀ v, v = { s with tap := x } →
    (alive s = true → bitAt b.toNat 0 = true → bitAt b.toNat 1 = false →
      exec (.tapFreeze b) s = .next (settle (freezeNow (advanceTo v (s.now + 8)) 3 0 0))) ∧
    (alive s = true → bitAt b.toNat 1 = true → bitAt b.toNat 0 = false →
      exec (.tapThaw b) s = .next (grantTiles (settle (thawNow v)))) ∧
    (bitAt b.toNat 0 = bitAt b.toNat 1 ∨ bitAt b.toNat 0 = false ∨ alive s = false → exec (.tapFreeze b) s = .next (settle v)) ∧
    (bitAt b.toNat 0 = bitAt b.toNat 1 ∨ bitAt b.toNat 1 = false ∨ alive s = false →
      exec (.tapThaw b) s = .next (grantTiles (settle v)))) ∧
  (∀ s : State, (∃ t, exec .scanCapture s = .next t ∧ (alive s = true → getF t Reg.OBS_FRZ_STATUS.SCAN_BUSY = 1) ∧
    (alive s = false → t.regs = s.regs) ∧
      t.tap.ir = 0x21 ∧ t.tap.st = .shiftDr ∧ t.tap.scanWord = 0 ∧ t.tap.dr = bitsLsb (scanOut s 0) 32 ∧ t.tap.out = [] ∧
        t.obs = s.obs) ∧ scanOut s 0 = 0x4E414353 ∧ scanOut s 1 = 0x00040201 ∧
    (s.tap.st ≠ .shiftDr ∨ s.tap.ir ≠ 0x21 → exec .scanExit s = .next (settle s)) ∧
    (s.tap.st = .shiftDr → s.tap.ir = 0x21 → ∃ x : Tap, x.st = .exit1Dr ∧ x.ir = 0x21 ∧
      x.out = s.tap.out ++ [s.tap.dr.headD false] ∧
      exec .scanExit s = .next (settle (setF { s with tap := x } Reg.OBS_FRZ_STATUS.SCAN_BUSY 0))) ∧
    (s.tap.st = .shiftDr → s.tap.ir = 0x21 → s.tap.scanWord = 0 → s.tap.out = [] → s.tap.dr = bitsLsb (scanOut s 0) 32 →
      ∀ (n : Nat) (t : State), t = (List.range n).foldl (fun u _ => tapEdge u false false) s → scanning t = true ∧
        { t with tap := s.tap } = s ∧
        t.tap.out = (List.range n).map (fun k => bitAt (scanOut s (k / 32)) (k % 32)) ∧
          t.tap.dr.head? = some (bitAt (scanOut s (n / 32)) (n % 32)))) ∧
  ∀ (s : State) (c : Nat), (tileRuns s c = false → exec (.opCountTransfer c) s = .next (settle s)) ∧
    (tileRuns s c = true → TableOk ({} : OpInc) (tile s c).ops → ∃ t, exec (.opCountTransfer c) s = .next t ∧
      (∀ p ∈ (tile s c).ops, tget ((0, 0) : Nat × Nat) t.obs.ops p.1 =
        (((tget ((0, 0) : Nat × Nat) s.obs.ops p.1).1 + p.2.grants) % 2 ^ 64, ((tget ((0, 0) : Nat × Nat) s.obs.ops p.1).2 + p.2.nj) % 2 ^ 64)) ∧
      (∀ p ∈ (tile t c).ops, p.2.grants = 0 ∧ p.2.nj = 0) ∧ (∀ e, e ≠ c → tile t e = tile s e) ∧ t.regs = s.regs)

/-- FUSE_RECORD programs repairs into the list; rows and lanes move to spares; the wear index is formed. A check that fails
completes FUSE_RECORD; nothing to record completes with STATE 2; otherwise the records go, in order, to the lowest empty words:
one that reads back as intended stands in the list, one that does not becomes void and the record is tried once more in the next
empty word, and the command completes OK or with the DETAIL of the first failure: 1 with no empty word left, 3 where the second
try fails too; each programming is the seven handshakes of R415. Which units count as having a repair, that a list with no room
gives DETAIL 1 on the way, and that the read-back words are the row's operands are the model's readings (log 64). A hub that is
revoked or lost repairs nothing (the model's reading, log 64). In any other, a corrected error of a row counts, and at
SP_CFG.ROW_CE_LIMIT the row moves to a free spare row, an uncorrectable one at once, with Reset and spares code 3; with none
free OVERFLOW is set; a row that was mapped before is counted and mapped like any other (log 64). An uncorrectable word of a
resident account of the active hub makes that account corrupt, and one of an image that is in force outside a duplex clears its
ID, its core restarting from the boot ROM image, covered as any stopped core. A lane that fails goes out of service with code 3
while a spare lane is left, which takes its traffic, and 4 otherwise; the eighth corrected error within 1 ms fails it.
WEAR_UPDATE puts the index of the selected region into SP_WEAR. (R403, R407, R409, R411, R412, R414, R415, R416) -/
def Obligations.RepairsAreMappedAndRecorded : Prop :=
  (∀ (s u : State) (n kind : Nat) (c : Instr) (d : List Byte) (f : Flight) (rb : List Word32), Turn s n d → dOp d = 0x70 →
    byteAt d 8 = kind →
    (u, f) = takeHead s n d .fuse → ((kind ≠ 2 ∧ kind ≠ 3 ∧ c = .fuseRecordBad rb) ∨ (kind = 2 ∧
      c = .fuseRecordSpare rb) ∨ (kind = 3 ∧ c = .fuseRecordRetired rb)) →
    (∀ st det, checkDesc s f d (fuseSpec s d) = some (st, det) → exec c s = .next (settle (complete u f st det))) ∧
    (checkDesc s f d (fuseSpec s d) = none → toRecord u kind (dTarget d) = [] → exec c s = .next (settle (complete u f 0x0008 2))) ∧
    (∀ v w det, checkDesc s f d (fuseSpec s d) = none → toRecord u kind (dTarget d) ≠ [] →
      programAll u rb (toRecord u kind (dTarget d)) = (v, w, some det) → exec c s = .next (settle (complete v f 0x0008 det))) ∧
    (∀ v w, checkDesc s f d (fuseSpec s d) = none → toRecord u kind (dTarget d) ≠ [] →
      programAll u rb (toRecord u kind (dTarget d)) = (v, w, none) → exec c s = .next (settle (complete v f 0 0)))) ∧
  (∀ (s : State) (rb : List Word32) (r : Nat), (emptyWord s = none → programOne s rb r = (s, rb, some 1)) ∧
    (∀ w, emptyWord s = some w → (rb.headD (BitVec.ofNat 32 (fuseWord r))).toNat = fuseWord r →
      (programOne s rb r).2.2 = none ∧ listWord (programOne s rb r).1 w = fuseWord r ∧
        (programOne s rb r).1.sp.beats = s.sp.beats ++ [0x5A5, 0xA5A, w, bitsAt (fuseWord r) 0 12, bitsAt (fuseWord r) 12 12, bitsAt (fuseWord r) 24 8, w] ∧ repairBase ≤ w ∧ w < 4096 ∧ listWord s w = 0) ∧
    (∀ w, emptyWord s = some w → (rb.headD (BitVec.ofNat 32 (fuseWord r))).toNat ≠ fuseWord r →
      ∀ v, v = voidWord s w (fuseWord r) → v.sp.beats = s.sp.beats ++ fuseBeats w (fuseWord r) ++ fuseBeats w 0xFFFFFFFF ∧
      listWord v w = 0xFFFFFFFF ∧
      listWord (programOne s rb r).1 w = 0xFFFFFFFF ∧ (emptyWord v = none → programOne s rb r = (v, rb.tail, some 1)) ∧
      ∀ x, emptyWord v = some x → ((rb.tail.headD (BitVec.ofNat 32 (fuseWord r))).toNat = fuseWord r →
          (programOne s rb r).2.2 = none ∧ listWord (programOne s rb r).1 x = fuseWord r) ∧
        ((rb.tail.headD (BitVec.ofNat 32 (fuseWord r))).toNat ≠ fuseWord r →
          (programOne s rb r).2.2 = some 3 ∧ listWord (programOne s rb r).1 x = 0xFFFFFFFF))) ∧
  (∀ (s : State) (hub row kind k : Nat) (fw : Bool) (a : Option Nat), released s 3 = true → hub < s.build.hubs →
    hub = s.du.active ∨ s.du.mode = 1 → row < 2 ^ 14 → k = rowKey hub fw row →
    (tget 0 s.sp.ce k + 1 < getF s Reg.SP_CFG.ROW_CE_LIMIT →
      exec (.sramRowRepair hub fw row false kind a) s = .next (settle { s with sp.ce := tset 0 s.sp.ce k (tget 0 s.sp.ce k + 1) })) ∧
    (getF s Reg.SP_CFG.ROW_CE_LIMIT ≤ tget 0 s.sp.ce k + 1 → rowsFree s hub fw ≠ 0 →
      ∃ v, exec (.sramRowRepair hub fw row false kind a) s = .next (settle (spareEvent v 3 (unitId 8 hub) 0x06)) ∧
        v.sp.mapped = s.sp.mapped ++ [k] ∧ v.sp.rows = s.sp.rows ++ [k] ∧ tget 0 v.sp.ce k = 0 ∧ v.hr = s.hr ∧ v.bg = s.bg) ∧
    (getF s Reg.SP_CFG.ROW_CE_LIMIT ≤ tget 0 s.sp.ce k + 1 → rowsFree s hub fw = 0 →
      ∃ t, exec (.sramRowRepair hub fw row false kind a) s = .next t ∧ getF t Reg.SP_STATUS.OVERFLOW = 1 ∧ t.hr = s.hr ∧
        t.sp = { s.sp with ce := tset 0 s.sp.ce k (tget 0 s.sp.ce k + 1) }) ∧
    (rowsFree s hub fw ≠ 0 → ∃ v, exec (.sramRowRepair hub fw row true kind a) s = .next (settle (spareEvent v 3 (unitId 8 hub) 0x06)) ∧
      v.sp.mapped = s.sp.mapped ++ [k] ∧ v.sp.rows = s.sp.rows ++ [k]) ∧
    (rowsFree s hub fw = 0 → ∃ t, exec (.sramRowRepair hub fw row true kind a) s = .next t ∧ getF t Reg.SP_STATUS.OVERFLOW = 1 ∧
      t.sp = s.sp) ∧
    ∃ t, exec (.sramRowRepair hub fw row true kind a) s = .next t ∧ t.be = s.be ∧ t.pc = s.pc ∧
      ((∀ g ∈ s.hr.flights, ∀ i bs, g.job ≠ .firmware i bs) → s.du.tapWait = none → 1 ≤ kind → kind ≤ 5 → fw = true →
        s.du.mode ≠ 1 → getF t (Reg.FW_IMAGE.ID (kind - 1)) = 0 ∧
        (∀ r, kind ≤ 3 → getF s (Reg.FW_IMAGE.ID (kind - 1)) ≠ 0 → (core s (kind - 1)).st = 1 → standby s = some r →
          s.du.asked = false →
          (core t (kind - 1)).st = 5 ∧ (core t r).st = 3 ∧ (core t r).duty = some (kind - 1)) ∧
        (kind = 4 → getF s (Reg.FW_IMAGE.ID 3) ≠ 0 →
          t.rs.bcast = some { bringUp := false, frames := bcastFrames Config.bootImage, left := (List.range s.build.tiles).filter (tileRuns s) })) ∧
      ((∀ g ∈ s.hr.flights, ∀ i bs, g.job ≠ .firmware i bs) → s.du.tapWait = none → ∀ n, n < 5 →
        n + 1 ≠ kind ∨ fw = false ∨ s.du.mode = 1 → getF t (Reg.FW_IMAGE.ID n) = getF s (Reg.FW_IMAGE.ID n)) ∧
      (∀ n, a = some n → hub = s.du.active → s.bg.accts.any (·.1 == n) = true → (acct t n).corrupt = true ∧
        (acct t n).dirty = true ∧
        ∀ m, m ≠ n → acct t m = acct s m) ∧
      ((∀ n, a = some n → hub ≠ s.du.active ∨ s.bg.accts.any (·.1 == n) = false) → t.bg.accts = s.bg.accts)) ∧
  (∀ (s : State) (hub row kind : Nat) (fw un : Bool) (a : Option Nat), released s 3 = false ∨ s.build.hubs ≤ hub ∨ (hub ≠ s.du.active ∧ s.du.mode ≠ 1) →
    exec (.sramRowRepair hub fw row un kind a) s = .next (settle s)) ∧
  (∀ (s : State) (hub lane : Nat), s.du.mode ≠ 1 ∨ released s 3 = false ∨ 2 ≤ hub ∨ 18 ≤ lane →
    exec (.mirrorLaneFail hub lane) s = .next (settle s)) ∧
  (∀ (s : State) (hub lane : Nat), s.du.mode = 1 → released s 3 = true → hub < 2 → lane < 18 →
    (bitAt (getF s (laneFld hub)) lane = true → exec (.mirrorLaneFail hub lane) s = .next (settle s)) ∧
    (bitAt (getF s (laneFld hub)) lane = false → ∃ v, bitAt (getF v (laneFld hub)) lane = true ∧
      v.sp.lanes = s.sp.lanes ++ [32 * hub + lane] ∧ v.hr = s.hr ∧
      (∀ l, lane < 16 → s.sp.laneAt = [] → spareLane s hub = some l → v.sp.laneAt = [(32 * hub + lane, l)]) ∧
      exec (.mirrorLaneFail hub lane) s = .next (settle (raiseEvent v 0x0E (if lanesFailed s hub < 2 then 3 else 4) (unitId 8 hub) (leBytes 1 0x07))))) ∧
  (∀ (s : State) (hub lane k : Nat) (ts : List Nat), k = 32 * hub + lane →
    ts = s.now :: (tget [] s.sp.laneErrs k).filter (fun a => decide (s.now ≤ a + ms 1)) →
    laneError hub s lane = if 8 ≤ ts.length then laneFail hub lane { s with sp.laneErrs := tput s.sp.laneErrs k ts } else { s with sp.laneErrs := tput s.sp.laneErrs k ts }) ∧
  ∀ s : State, (released s 6 = false → exec .wearUpdate s = .next (settle s)) ∧
    (released s 6 = true → ∃ t, exec .wearUpdate s = .next t ∧ t.be = s.be ∧ t.hr = s.hr ∧
      getF t Reg.SP_WEAR_LO.WEAR + 2 ^ 32 * getF t Reg.SP_WEAR_HI.WEAR =
      if getF s Reg.SP_WEAR_SEL.REGION ≤ 128 then wearIndex s (getF s Reg.SP_WEAR_SEL.REGION) else 0)

/-- A core that traps or misses its deadline stops, is covered and restarts; its duties come back to it. A security, power or
scheduler core that runs stops at a trap or a missed deadline: it becomes RETIRED past RESTART_LIMIT faults in a second,
otherwise RESTARTING while AUTO_RESTART is on and STOPPED while it is off, and the lowest reserve core in STANDBY carries its
duties; with none, NO_COVER is set and a duplex asks for a takeover. The duties of a reserve core that stops pass to another,
and a control core stops and restarts alone. CORE_RESTARTED makes the core RUNNING, counts a restart after a fault and leaves no
cover of its duties; a reserve core stands by or covers the lowest duties that wait. A tile agent’s control core does the same
for its own agent. A core that does not run takes no fault, and one that cannot come back does not restart. Which core covers
which, the order of the events, the moment of a restart, and that work which waited for the duties goes on when they are carried
again are the model’s readings (log 31). (R356, R357, R358, R359, R360, R361) -/
def Obligations.CoresAreCoveredAndRestart : Prop :=
  (∀ (s : State) (k x : Nat) (c : Instr), c = .coreTrap (.hub k) ∨ c = .coreDeadlineExpiry (.hub k) → alive s = true →
    x = (if getF s Reg.FW_CFG.RESTART_LIMIT < (recentFaults s (core s k)).length then 6 else if flagOn s Reg.FW_CFG.AUTO_RESTART then 5 else 4) →
    (∀ r, k < 3 → (core s k).st = 1 → standby s = some r → ∃ t, exec c s = .next t ∧ (core t k).st = x ∧
      (core t k).faults = recentFaults s (core s k) ∧
      (core t k).stoppedAt = s.now ∧ (core t r).st = 3 ∧ (core t r).duty = some k ∧ dutyRuns t k = true ∧ t.be = s.be ∧
        t.pc = s.pc ∧ t.cc = s.cc) ∧
    (k < 3 → (core s k).st = 1 → standby s = none → ∃ t, exec c s = .next t ∧ (core t k).st = x ∧ getF t Reg.DU_FAULT.NO_COVER = 1 ∧
      (s.du.mode = 1 → t.du.asked = true) ∧ t.be = s.be ∧ t.pc = s.pc) ∧
    (4 ≤ k → k < 8 → (core s k).st = 2 ∨ (core s k).st = 3 → ∃ t, exec c s = .next t ∧ (core t k).st = x ∧
      (core t k).duty = none ∧ t.be = s.be ∧
      (∀ d r, (core s k).st = 3 → (core s k).duty = some d → standby s = some r → (core t r).st = 3 ∧ (core t r).duty = some d)) ∧
    (k < 3 → (core s k).st ≠ 1 → exec c s = .next (settle s)) ∧ (k = 3 ∨ 8 ≤ k → exec c s = .next (settle s)) ∧
      (4 ≤ k → k < 8 → (core s k).st ≠ 2 → (core s k).st ≠ 3 → exec c s = .next (settle s))) ∧
  (∀ (s : State) (k : Nat) (c : Instr), c = .coreTrap (.hub k) ∨ c = .coreDeadlineExpiry (.hub k) → alive s = false →
    exec c s = .next (settle s)) ∧
  (∀ (s : State) (k x : Nat) (c : Instr), c = .coreTrap (.tile k) ∨ c = .coreDeadlineExpiry (.tile k) →
    x = (if getF s Reg.FW_CFG.RESTART_LIMIT < (recentFaults s (tcore s k)).length then 6 else if flagOn s Reg.FW_CFG.AUTO_RESTART then 5 else 4) →
    (tileRuns s k = true → (tcore s k).st = 1 → ∃ t, exec c s = .next t ∧ (tcore t k).st = x ∧
      (∀ j, j ≠ k → tcore t j = tcore s j) ∧
      t.du.cores = s.du.cores ∧ t.cc = s.cc ∧ t.be = s.be) ∧
    (tileRuns s k = false ∨ (tcore s k).st ≠ 1 → exec c s = .next (settle s))) ∧
  (∀ (s : State) (k : Nat), (k = 3 ∨ 8 ≤ k → exec (.coreRestarted (.hub k)) s = .next (settle s)) ∧
    (alive s = false ∨ canRestart s (core s k) = false → exec (.coreRestarted (.hub k)) s = .next (settle s)) ∧
    (alive s = true → canRestart s (core s k) = true →
      (k < 3 → ∃ t, exec (.coreRestarted (.hub k)) s = .next t ∧ (core t k).st = 1 ∧ (∀ p ∈ t.du.cores, p.2.duty ≠ some k) ∧
        dutyRuns t k = true ∧ ((core s k).byFault = true → getF t (restartsFld k) =
          min (2 ^ (restartsFld k).w - 1) (getF s (restartsFld k) + 1) % 2 ^ (restartsFld k).w) ∧
        ((core s k).byFault = false → getF t (restartsFld k) = getF s (restartsFld k)) ∧ t.be = s.be ∧ t.pc = s.pc) ∧
      (4 ≤ k → k < 8 → (∀ j, j < 3 → needsCover s j = false) → ∃ t, exec (.coreRestarted (.hub k)) s = .next t ∧
        (core t k).st = 2 ∧ t.be = s.be ∧ t.pc = s.pc) ∧
      (4 ≤ k → k < 8 → standby s = none → ∀ j, j < 3 → needsCover s j = true → (∀ i, i < j → needsCover s i = false) →
        ∃ t, exec (.coreRestarted (.hub k)) s = .next t ∧ (core t k).st = 3 ∧
        (core t k).duty = some j ∧ dutyRuns t j = true))) ∧
  ∀ (s : State) (k : Nat), (tileRuns s k = true → canRestart s (tcore s k) = true →
    ∃ t, exec (.coreRestarted (.tile k)) s = .next t ∧ (tcore t k).st = 1 ∧
      ((tcore s k).byFault = true → getF t Reg.FW_RESTARTS.TILE = min (2 ^ Reg.FW_RESTARTS.TILE.w - 1) (getF s Reg.FW_RESTARTS.TILE + 1) % 2 ^ Reg.FW_RESTARTS.TILE.w) ∧
      ((tcore s k).byFault = false → getF t Reg.FW_RESTARTS.TILE = getF s Reg.FW_RESTARTS.TILE) ∧
      (∀ j, j ≠ k → tcore t j = tcore s j) ∧ t.du.cores = s.du.cores ∧ t.be = s.be) ∧
    (tileRuns s k = false ∨ canRestart s (tcore s k) = false → exec (.coreRestarted (.tile k)) s = .next (settle s))

/-- Hub faults, the journal, synchronisation, the heartbeat, takeover and the end of the duplex. A hub fault that is judged (from
step 6 on, and a loss of the RC oscillator from step 2 on) sets its bit and is counted; in a duplex a takeover is asked for, and
otherwise the hub is held, every domain and PC stopped. A journal frame records the lag and lets the waiting effects (messages,
requests, completions, the next descriptor, a signature) await its acknowledgement, which lets them take place; MIRROR_SYNCED
marks the copy whole. A request on the journal, or heartbeat and journal both silent, makes the mirror the active hub: MODE 3,
the other hub, its cores running from its own images, the outstanding tags quarantined, the slave requests answered TGTERR, the
actuators to start at the next frame boundary, a freeze ended. A heartbeat silent alone is a link fault, and it or a lost mirror
ends the duplex in MODE 2. The heartbeat absent lets the mirror hold GSTOP on brake, flow or power until it returns. When a
fault is judged, what a hub that is held does, and which fault a lane is are the model’s readings (log 32); so are what waits
for a journal entry, the first mirror copy, the silence of both taken as one row, what becomes of requests under way, and the
fields that a takeover keeps (log 33). (R362, R363, R365, R366, R367, R368, R369, R372) -/
def Obligations.DuplexFollowsTheJournal : Prop :=
  (∀ (s : State) (h : HubFault), (alive s = false → faultJudged s h = false → exec (.hubFault h) s = .next (settle s)) ∧
    (alive s = true → faultJudged s h = false → exec (.hubFault h) s = .next (settle (clockLost h s))) ∧
    (faultJudged s h = true → ∃ t, exec (.hubFault h) s = .next t ∧ getF t (hubFaultFld h) = 1 ∧
      (h = .rcLoss → t.tb.rcStable = false) ∧ (h = .lane → t.be.laneBad = true ∧ getF t Reg.BE_FAULT.LANE = 1) ∧
      getF t Reg.DU_CNT.HUB_FAULTS = min (2 ^ Reg.DU_CNT.HUB_FAULTS.w - 1) (getF s Reg.DU_CNT.HUB_FAULTS + 1) % 2 ^ Reg.DU_CNT.HUB_FAULTS.w ∧
      (s.du.mode = 1 → t.du.asked = true ∧ (h ≠ .lane → t.be = s.be) ∧ t.pc = s.pc) ∧
      (s.du.mode ≠ 1 → t.du.hold = true ∧ h ∈ t.du.holdFor ∧ t.be.pcStopped = true ∧ ∀ k, k < 16 → bitAt t.be.stopped k = true)) ∧
    faultJudged s h = (released s 6 || (h == .rcLoss && alive s && decide (2 ≤ s.rs.done)))) ∧
  (∀ (e : State) (lag lanes : Nat), e.du.mode = 1 → hostOpen e = true →
    ∀ s, s = ((bitList lanes 18).filter (fun l => !bitAt (getF e (laneFld e.du.active)) l)).foldl (laneError e.du.active) e →
    (lanes = 0 → s = e) ∧ ∃ t, exec (.journalFrame ⟨lag, lanes⟩) e = .next t ∧
    getF t Reg.DU_LAG.NOW_NS = min 0xFFFF lag ∧
      getF t Reg.DU_LAG.MAX_NS = max (getF s Reg.DU_LAG.MAX_NS) (min 0xFFFF lag) % 2 ^ 16 ∧
    t.du.waitTx = s.du.waitTx.map (fun p => (p.1, journalHeld p.2)) ∧
      t.hap.wait = s.hap.wait.map (fun (r : MReq) => { r with wait := journalHeld r.wait }) ∧
    t.hr.cplWait = s.hr.cplWait.map (fun (c : CplWait) => { c with wait := journalHeld c.wait }) ∧
    t.hr.turn = (if (turnOf s).isSome then journalHeld s.hr.turn else s.hr.turn) ∧
      t.hr.readTurn = (if (turnOf s).isSome && s.hr.turn == 0 then journalHeld s.hr.readTurn else s.hr.readTurn) ∧
    t.bg.signWait = journalHeld s.bg.signWait ∧
    (s.du.synced = true → t.du.mirror = imagesInForce s ∧ t.du.copied = s.du.image) ∧
    (s.du.synced = false → t.du.mirror = s.du.mirror ∧ t.du.copied = s.du.copied) ∧
    t.hap.out = s.hap.out ∧ t.bg.tx = s.bg.tx ∧ t.be = s.be ∧ t.hr.rings = s.hr.rings ∧ t.hr.flights = s.hr.flights) ∧
  (∀ s : State, s.du.mode = 1 → ∃ t, exec .journalAck s = .next t ∧
    t.bg.tx = s.bg.tx ++ (s.du.waitTx.filter (fun p => p.2 == 1)).map (·.1) ∧
    t.du.waitTx = s.du.waitTx.filter (fun p => p.2 != 1) ∧ (∀ r ∈ s.hap.out, r ∈ t.hap.out) ∧ (∀ r ∈ t.hap.wait, r.wait ≠ 1) ∧
    t.hr.turn = journalDone s.hr.turn ∧ t.hr.readTurn = (if s.hr.turn = 0 then journalDone s.hr.readTurn else s.hr.readTurn) ∧
      t.hr.cplWait = s.hr.cplWait.filter (·.wait != 1) ∧ t.bg.signWait = journalDone s.bg.signWait ∧
    (∀ c n, s.hr.cplWait.filter (·.wait == 1) = [c] → hostRuns s = true → n = c.ring → (ring s n).error = false →
      ringEn s n = true →
      (ring t n).cplProd = ((ring s n).cplProd + 1) % 2 ^ 32) ∧ t.be = s.be ∧ t.pc = s.pc) ∧
  (∀ s : State, s.du.mode = 1 → hostOpen s = true →
    exec .mirrorSynced s = .next (settle { s with du.synced := true, du.mirror := imagesInForce s, du.copied := s.du.image, hr.turn := 2, hr.readTurn := 2, bg.signWait := 2 })) ∧
  (∀ (s t : State), t = takeover s → t.du.mode = 3 ∧ t.du.active = 1 - s.du.active ∧ t.du.synced = false ∧
    t.pins.mirrorGstop = false ∧
    (∀ k, k < 3 → (core t k).st = 1) ∧ (∀ k, 4 ≤ k → k < 8 → (core t k).st = if reserveBad s (k - 4) then 6 else 2) ∧
    (∀ r ∈ s.hap.out, ∃ q ∈ t.hap.quar, q.tag = r.tag) ∧ (∀ g ∈ s.hap.iso, ∃ q ∈ t.hap.quar, q.tag = g) ∧
    (∀ r ∈ t.hap.ss, r.status = 1 ∧ r.data = 0) ∧ t.be = { s.be with takeover := true } ∧
    (∀ k, k < 5 → getF t (Reg.FW_IMAGE.ID k) = tget 0 s.du.mirror (k + 1) % 2 ^ 32) ∧ t.du.image = s.du.copied ∧
      getF t Reg.OBS_FRZ_STATUS.FROZEN = 0 ∧
    getF t Reg.DU_CNT.TAKEOVERS = min (2 ^ Reg.DU_CNT.TAKEOVERS.w - 1) (getF s Reg.DU_CNT.TAKEOVERS + 1) % 2 ^ Reg.DU_CNT.TAKEOVERS.w ∧
    t.du.waitTx = [] ∧ t.hr.cplWait = [] ∧ t.pc = s.pc) ∧
  (∀ s : State, s.du.mode = 1 → (s.du.asked = true →
    exec .takeoverRequest s = .next (grantTiles (settle (takeover (setF s Reg.DU_FAULT.HB_LOST 1))))) ∧
    (s.du.asked = false → exec .takeoverRequest s = .next (grantTiles (settle s))) ∧
    (hostOpen s = true → exec (.heartbeatLoss true) s = .next (grantTiles (settle (takeover (setF s Reg.DU_FAULT.HB_LOST 1)))) ∧
      exec (.heartbeatLoss false) s = .next (grantTiles (settle (leaveDuplex (setF s Reg.DU_FAULT.LINK 1)))) ∧
      (∀ c, c ≠ .lanes ∨ 2 < lanesOut s → exec (.mirrorLost c) s = .next (grantTiles (settle (leaveDuplex s)))) ∧
      (lanesOut s ≤ 2 → exec (.mirrorLost .lanes) s = .next (grantTiles (settle s)))) ∧
    (released s 6 = true → ∃ t, exec .heartbeatAbsent s = .next t ∧ t.du.hbAbsent = true ∧ t.regs = s.regs ∧ t.be = s.be ∧
      t.pins.mirrorGstop = (s.pins.mirrorGstop || s.pins.brake || !s.pins.flowOk || !s.pins.pwrgd)) ∧
    (released s 6 = false → exec .heartbeatAbsent s = .next (settle s))) ∧
  (∀ (s t : State), t = leaveDuplex s → t.du.mode = 2 ∧ t.du.active = s.du.active ∧ t.du.synced = false ∧
    getF t Reg.DU_FAULT.MIRROR_LOST = 1 ∧
    getF t Reg.DU_CNT.MIRROR_LOSSES = min (2 ^ Reg.DU_CNT.MIRROR_LOSSES.w - 1) (getF s Reg.DU_CNT.MIRROR_LOSSES + 1) % 2 ^ Reg.DU_CNT.MIRROR_LOSSES.w ∧
    t.bg.tx = s.bg.tx ++ s.du.waitTx.map (·.1) ∧ t.du.waitTx = [] ∧ t.hr.cplWait = [] ∧ t.hr.turn = 0 ∧ t.be = s.be ∧
      t.pc = s.pc ∧ t.cc = s.cc) ∧
  (∀ s : State, exec .heartbeatReturn s = .next (grantTiles (settle { s with du.hbAbsent := false, pins.mirrorGstop := false }))) ∧
  ∀ (s : State) (lag lanes : Nat) (b : Bool) (m : MirrorLoss),
    (s.du.mode ≠ 1 → ∀ c ∈ [Instr.journalFrame ⟨lag, lanes⟩, .journalAck, .mirrorSynced, .heartbeatAbsent], exec c s = .next (settle s)) ∧
    (s.du.mode ≠ 1 → exec .takeoverRequest s = .next (grantTiles (settle s))) ∧
    (s.du.mode ≠ 1 ∨ hostOpen s = false → exec (.journalFrame ⟨lag, lanes⟩) s = .next (settle s) ∧
      exec .mirrorSynced s = .next (settle s) ∧
      exec (.heartbeatLoss b) s = .next (grantTiles (settle s)) ∧ exec (.mirrorLost m) s = .next (grantTiles (settle s)))

/-- The mailboxes take whole messages and answer each TYPE; the board buses retry once and mark a target. A doorbell takes every
whole message, those of TYPE 0x80 and up unanswered (log 59); a header of TYPE 0 empties the queue and counts FRAME; one whose
words are missing waits, and after 10 us the queue is emptied and FRAME counted. The oldest message is answered, by the row of
its TYPE, with its TYPE plus 0x80, its SEQ and a status: ECHO repeats the payload, FW_INFO gives the images, CORE_STATE
FW_STATE, a lock is set on channels 2 and 3 only, an unknown TYPE gets status 1, and a wrong LEN 2. A reply with no room for 1
ms is dropped and counted. The alert response is read while the duties of the power core run. A PMBus transaction that fails is
sent again after 1 ms, but for a write whose data was acknowledged, which is reported as failed; a second failure marks the
target and raises Board bus code 1, and a retried read that ends well gives its value and its number. A record past the 32nd, or
a transaction that its command does not take, is none. One transaction goes at a time, so that the failure of any but the one
that was sent again says that that one ended well; which rows end a transaction, and that one waits while no core carries the
power duties, are readings too (log 60). An in-band interrupt is kept where the record allows one and the target’s interrupts
are enabled. (R55, R56, R57, R345, R346, R347, R348) -/
def Obligations.MailboxesAnswerAndBusesRetry : Prop :=
  (∀ (s : State) (c : BitVec 2), (mbRuns s c.toNat = false ∨ (mbox s c.toNat).db = false →
    exec (.mbDoorbell c) s = .next (settle s)) ∧
    (mbRuns s c.toNat = true → (mbox s c.toNat).db = true →
      ∀ (ms : List (List Nat)) (rest : List Nat), (mbox s c.toNat).h2f = ms.flatten ++ rest →
      ms.length ≤ 16 → (∀ m ∈ ms, ∃ h p, m = h :: p ∧ 1 ≤ hdrType h ∧ hdrLen h = p.length) →
      (rest = [] ∨ ∃ h ws, rest = h :: ws ∧ (hdrType h = 0 ∨ ws.length < hdrLen h)) → ∃ t, exec (.mbDoorbell c) s = .next t ∧
      (mbox t c.toNat).db = false ∧ (mbox t c.toNat).msgs = (mbox s c.toNat).msgs ++ ms.filter (fun m => decide (hdrType (m.headD 0) < 0x80)) ∧
      (rest = [] → (mbox t c.toNat).h2f = [] ∧ (mbox t c.toNat).partAt = none ∧ t.regs = s.regs) ∧
      ∀ h ws, rest = h :: ws →
        (hdrType h = 0 → (mbox t c.toNat).h2f = [] ∧ (mbox t c.toNat).partAt = none ∧
          getF t (Reg.MB_DROP.FRAME c.toNat) = min 255 (getF s (Reg.MB_DROP.FRAME c.toNat) + 1) % 256) ∧
        (1 ≤ hdrType h → (mbox t c.toNat).h2f = rest ∧ t.regs = s.regs ∧
          (mbox t c.toNat).partAt = some (if ms = [] then (mbox s c.toNat).partAt.getD s.now else s.now))) ∧
    ((mbox s c.toNat).partAt = none → exec (.mailboxFramingTimeout c) s = .next (settle s)) ∧
    (∀ a, (mbox s c.toNat).partAt = some a → ∃ t, exec (.mailboxFramingTimeout c) s = .next t ∧ t.now = max s.now (a + us 10) ∧
      (mbox t c.toNat).h2f = [] ∧
      (mbox t c.toNat).partAt = none ∧ getF t (Reg.MB_DROP.FRAME c.toNat) = min 255 (getF s (Reg.MB_DROP.FRAME c.toNat) + 1) % 256 ∧ t.hr = s.hr)) ∧
  (∀ (s : State) (c : BitVec 2) (h : Nat) (p body r : List Nat) (rest : List (List Nat)) (i : Instr), mbRuns s c.toNat = true →
    (mbox s c.toNat).msgs = (h :: p) :: rest → r = ((hdrType h + 0x80) * 2 ^ 24 + body.length * 2 ^ 20 + hdrSeq h) :: body →
    ((i = .mbEcho c ∧ hdrType h = 0x01 ∧ body = if p.length ≤ 14 then 0 :: p else [2]) ∨
      (i = .mbFwInfo c ∧ hdrType h = 0x02 ∧
        body = if p = [] then 0 :: (List.range 5).map (fun k => getF s (Reg.FW_IMAGE.ID k)) else [2]) ∨
      (i = .mbCoreState c ∧ hdrType h = 0x03 ∧ body = if p = [] then [0, fwState s] else [2]) ∨
      (i = .mbLockFirmware c ∧ hdrType h = 0x20 ∧ body = if c.toNat < 2 then [3] else if p = [] then [0] else [2]) ∨
      (i = .mbLockEnvelope c ∧ hdrType h = 0x21 ∧ body = if c.toNat < 2 then [3] else if p = [] then [0] else [2]) ∨
      (i = .mbUnknownType c ∧ mbKnown (hdrType h) = false ∧ body = [1])) →
    ∃ v, exec i s = .next (settle (mbPlace v c.toNat)) ∧ (mbox v c.toNat).replies = (mbox s c.toNat).replies ++ [(s.now, r)] ∧
      (mbox v c.toNat).f2h = (mbox s c.toNat).f2h ∧ (mbox v c.toNat).msgs = rest ∧
      ((mbox s c.toNat).replies = [] → (mbox s c.toNat).f2h.length + r.length ≤ 16 →
        (mbox (mbPlace v c.toNat) c.toNat).f2h = (mbox s c.toNat).f2h ++ r ∧
        (mbox (mbPlace v c.toNat) c.toNat).replies = [] ∧ bitAt (getF (mbPlace v c.toNat) (Reg.MB_F2H_DB.BITS c.toNat)) 0 = true) ∧
      ((mbox s c.toNat).replies = [] → 16 < (mbox s c.toNat).f2h.length + r.length → mbPlace v c.toNat = v) ∧
      (i = .mbLockFirmware c → 2 ≤ c.toNat → p = [] → v.hr.lockFw = true) ∧
        (i = .mbLockEnvelope c → 2 ≤ c.toNat → p = [] → v.hr.lockEnv = true) ∧
      (i ≠ .mbLockFirmware c ∨ c.toNat < 2 ∨ p ≠ [] → v.hr.lockFw = s.hr.lockFw) ∧
        (i ≠ .mbLockEnvelope c ∨ c.toNat < 2 ∨ p ≠ [] → v.hr.lockEnv = s.hr.lockEnv)) ∧
  (∀ (s : State) (c : BitVec 2) (h : Nat) (p : List Nat) (rest : List (List Nat)), (mbox s c.toNat).msgs = (h :: p) :: rest →
    (hdrType h ≠ 0x01 → exec (.mbEcho c) s = .next (settle s)) ∧ (hdrType h ≠ 0x02 → exec (.mbFwInfo c) s = .next (settle s)) ∧
    (hdrType h ≠ 0x03 → exec (.mbCoreState c) s = .next (settle s)) ∧
      (hdrType h ≠ 0x20 → exec (.mbLockFirmware c) s = .next (settle s)) ∧
    (hdrType h ≠ 0x21 → exec (.mbLockEnvelope c) s = .next (settle s)) ∧
      (mbKnown (hdrType h) = true → exec (.mbUnknownType c) s = .next (settle s))) ∧
  (∀ (s : State) (c : BitVec 2), mbRuns s c.toNat = false ∨ (mbox s c.toNat).msgs = [] →
    ∀ i ∈ [Instr.mbEcho c, .mbFwInfo c, .mbCoreState c, .mbLockFirmware c, .mbLockEnvelope c, .mbUnknownType c], exec i s = .next (settle s)) ∧
  (∀ (s : State) (c : BitVec 2), ((mbox s c.toNat).replies = [] → exec (.mbReplyTimeout c) s = .next (settle s)) ∧
    ∀ a r l, (mbox s c.toNat).replies = (a, r) :: l → ∃ v, exec (.mbReplyTimeout c) s = .next (settle (mbPlace v c.toNat)) ∧
      v.now = max s.now (a + ms 1) ∧
      (mbox v c.toNat).replies = l ∧ getF v (Reg.MB_DROP.F2H c.toNat) = min 255 (getF s (Reg.MB_DROP.F2H c.toNat) + 1) % 256 ∧
        v.hr = s.hr) ∧
  (∀ (s : State) (a : Option Byte), (released s 8 = true → busWorks s = true →
      exec (.pmbAlert a) s = .next (settle { s with bus.alert := a, pins.pmbAlert := false })) ∧
    (released s 8 = false ∨ busWorks s = false → exec (.pmbAlert a) s = .next (settle { s with pins.pmbAlert := true }))) ∧
  (∀ (s : State) (k : Nat) (x : PmbTxn) (b : Bool), (pmbusAddr s k = none →
    exec (.pmbusTransactionFail k ⟨x, b⟩) s = .next (settle s)) ∧
    ∀ a, pmbusAddr s k = some a →
      (pmbTxnOk x = false → exec (.pmbusTransactionFail k ⟨x, b⟩) s = .next (settle s)) ∧
      (pmbTxnOk x = true → s.bus.again = some (k, x) →
        ∃ v, exec (.pmbusTransactionFail k ⟨x, b⟩) s = .next (settle (raiseEvent v 0x0C 1 (hubUnit v) (leBytes 1 k ++ leBytes 1 a))) ∧
        v.bus.faulted = s.bus.faulted ++ [k] ∧ v.bus.again = none ∧ v.bus.retry = s.bus.retry ∧ v.hr = s.hr ∧ v.regs = s.regs) ∧
      (pmbTxnOk x = true → s.bus.again ≠ some (k, x) → b = true → pmbReads x.kind = false →
        exec (.pmbusTransactionFail k ⟨x, b⟩) s = .next (settle { s with bus.again := none, bus.failed := s.bus.failed ++ [(k, x)] })) ∧
      (pmbTxnOk x = true → s.bus.again ≠ some (k, x) → b = false ∨ pmbReads x.kind = true →
        exec (.pmbusTransactionFail k ⟨x, b⟩) s = .next (settle { s with bus.again := none, bus.retry := tput s.bus.retry k ⟨x, s.now⟩ }))) ∧
  (∀ (s : State) (k a : Nat), pmbusAddr s k = some a → k < 32) ∧
  (∀ (s : State) (k : Nat) (e : Option PmbEnd), (s.bus.retry.find? (·.1 == k) = none ∨ busWorks s = false →
    exec (.pmbusRetry k e) s = .next (settle s)) ∧
    ∀ p u, s.bus.retry.find? (·.1 == k) = some p → busWorks s = true → u = advanceTo s (p.2.failedAt + ms 1) →
      u.now = max s.now (p.2.failedAt + ms 1) ∧
      (e = none → ∀ a, pmbusAddr s k = some a → exec (.pmbusRetry k e) s =
        .next (settle { u with bus.retry := tdel s.bus.retry k, bus.again := some (k, p.2.txn), bus.sent := pmbFrame a p.2.txn })) ∧
      ∀ r a, e = some r → pmbusAddr s k = some a →
        (pmbGood a p.2.txn r = true → ∃ t, exec (.pmbusRetry k e) s = .next t ∧ t.bus.retry = tdel s.bus.retry k ∧
          t.bus.faulted = s.bus.faulted ∧
          t.bus.again = none ∧ t.bus.sent = pmbFrame a p.2.txn ∧ t.regs = s.regs ∧
          (∀ bs, r = .answer bs → pmbReads p.2.txn.kind = true → t.bus.value = some (k, p.2.txn.cmd, pmbData p.2.txn.kind bs) ∧
            (p.2.txn.cmd ≠ .voutMode → t.bus.number = pmbNumber (tget 0 s.bus.voutMode k) p.2.txn.cmd (leAt (pmbData p.2.txn.kind bs) 0 2))) ∧
          (pmbReads p.2.txn.kind = false → t.bus.value = s.bus.value)) ∧
        (pmbGood a p.2.txn r = false → exec (.pmbusRetry k e) s = .next (settle (pmbFaulted { u with bus.retry := tdel s.bus.retry k, bus.sent := pmbFrame a p.2.txn } k a)))) ∧
  ∀ (s : State) (k : Nat) (bs : List Byte), (s.mf.bind (fun m => m.i3c[k]?) = none → exec (.i3cIbi k bs) s = .next (settle s)) ∧
    ∀ r, s.mf.bind (fun m => m.i3c[k]?) = some r → (ibiNamed r = true → (i3cTarget s k).events = true → busWorks s = true →
        exec (.i3cIbi k bs) s = .next (settle { s with bus.ibi := some (k, bs.take 4) })) ∧
      (ibiNamed r = false ∨ (i3cTarget s k).events = false ∨ busWorks s = false → exec (.i3cIbi k bs) s = .next (settle s))
end

