-- ==== Sys2Proof/Laws/Table.lean ====
section
/-! SUPPORT. Tables: what a write leaves readable, and that it keeps the canonical form. -/

namespace Sys2Proof.Machine

variable {α : Type}

theorem tget_tput_same (d : α) (t : List (Nat × α)) (n : Nat) (x : α) : tget d (tput t n x) n = x := by
  induction t with
  | nil => simp [tput, tget]
  | cons p t ih =>
    obtain ⟨k, v⟩ := p
    unfold tput
    split
    · simp [tget]
    · split
      · simp [tget]
      · next h1 h2 => simp [tget, h2, ih]

theorem tget_tput_ne (d : α) (t : List (Nat × α)) {m n : Nat} (h : m ≠ n) (x : α) : tget d (tput t n x) m = tget d t m := by
  induction t with
  | nil => simp [tput, tget, h]
  | cons p t ih =>
    obtain ⟨k, v⟩ := p
    unfold tput
    split
    · simp [tget, h]
    · split
      · next h2 => subst h2; simp [tget, h]
      · simp only [tget]; split
        · rfl
        · exact ih

theorem tget_tdel_same (d : α) (t : List (Nat × α)) (n : Nat) : tget d (tdel t n) n = d := by
  induction t with
  | nil => rfl
  | cons p t ih =>
    obtain ⟨k, v⟩ := p
    by_cases h : k = n
    · simpa [tdel, h] using ih
    · have h' : n ≠ k := fun e => h e.symm
      simpa [tdel, h, h', tget] using ih

theorem tget_tdel_ne (d : α) (t : List (Nat × α)) {m n : Nat} (h : m ≠ n) : tget d (tdel t n) m = tget d t m := by
  induction t with
  | nil => rfl
  | cons p t ih =>
    obtain ⟨k, v⟩ := p
    by_cases hk : k = n
    · have h' : m ≠ k := fun e => h (e.trans hk)
      simp only [tdel, List.filter_cons, hk, bne_self_eq_false, Bool.false_eq_true, if_false, tget, h, if_false]
      exact ih
    · simp only [tdel, List.filter_cons, bne_iff_ne.mpr hk, if_true, tget]
      split
      · rfl
      · exact ih

theorem tput_mem {t : List (Nat × α)} {n : Nat} {x : α} {p : Nat × α} (h : p ∈ tput t n x) : p = (n, x) ∨ p ∈ t := by
  induction t with
  | nil => simpa [tput] using h
  | cons q t ih =>
    obtain ⟨k, v⟩ := q
    unfold tput at h
    split at h
    · simpa using h
    · split at h
      · simp only [List.mem_cons] at h ⊢
        rcases h with h | h
        · exact Or.inl h
        · exact Or.inr (Or.inr h)
      · simp only [List.mem_cons] at h ⊢
        rcases h with h | h
        · exact Or.inr (Or.inl h)
        · rcases ih h with h | h
          · exact Or.inl h
          · exact Or.inr (Or.inr h)

theorem tput_sorted {t : List (Nat × α)} (n : Nat) (x : α) (h : (t.map (·.1)).Pairwise (· < ·)) :
    ((tput t n x).map (·.1)).Pairwise (· < ·) := by
  induction t with
  | nil => simp [tput]
  | cons q t ih =>
    obtain ⟨k, v⟩ := q
    simp only [List.map_cons, List.pairwise_cons] at h
    unfold tput
    split
    · next hk =>
      simp only [List.map_cons, List.pairwise_cons, List.mem_cons]
      refine ⟨?_, h.1, h.2⟩
      intro a ha
      rcases ha with rfl | ha
      · exact hk
      · exact Nat.lt_trans hk (h.1 a ha)
    · split
      · next hk => subst hk; simpa only [List.map_cons, List.pairwise_cons] using h
      · next h1 h2 =>
        simp only [List.map_cons, List.pairwise_cons]
        refine ⟨?_, ih h.2⟩
        intro a ha
        obtain ⟨p, hp, rfl⟩ := List.mem_map.mp ha
        rcases tput_mem hp with rfl | hp
        · exact Nat.lt_of_le_of_ne (Nat.le_of_not_lt h1) (fun e => h2 e.symm)
        · exact h.1 _ (List.mem_map_of_mem hp)

variable [DecidableEq α]

/-- What was written is read back. -/
@[simp] theorem tget_tset_same (d : α) (t : List (Nat × α)) (n : Nat) (x : α) : tget d (tset d t n x) n = x := by
  unfold tset
  split
  · next h => rw [tget_tdel_same, h]
  · exact tget_tput_same d t n x

/-- A write leaves every other number's value, whatever the default it is read with. -/
theorem tget_tset_ne (d e : α) (t : List (Nat × α)) {m n : Nat} (h : m ≠ n) (x : α) : tget e (tset d t n x) m = tget e t m := by
  unfold tset
  split
  · exact tget_tdel_ne e t h
  · exact tget_tput_ne e t h x

/-- A write keeps the canonical form. -/
theorem tset_ok {d : α} {t : List (Nat × α)} (h : TableOk d t) (n : Nat) (x : α) : TableOk d (tset d t n x) := by
  unfold tset
  split
  · refine ⟨?_, fun p hp => h.2 p (List.mem_filter.mp hp).1⟩
    exact h.1.sublist (List.Sublist.map _ List.filter_sublist)
  · next hx =>
    refine ⟨tput_sorted n x h.1, fun p hp => ?_⟩
    rcases tput_mem hp with rfl | hp
    · exact hx
    · exact h.2 p hp

end Sys2Proof.Machine
end

