-- ==== Sys2Proof/Laws/State.lean ====
section
/-! SUPPORT. What each update of State leaves unchanged, one lemma per field, and what it can be read back as. -/

namespace Sys2Proof.Machine

variable (s : State)

/-! ## setF -/

@[simp] theorem setF_pending (f : Fld) (v : Nat) : (setF s f v).pending = s.pending := rfl
@[simp] theorem setF_build (f : Fld) (v : Nat) : (setF s f v).build = s.build := rfl
@[simp] theorem setF_now (f : Fld) (v : Nat) : (setF s f v).now = s.now := rfl
@[simp] theorem setF_free (f : Fld) (v : Nat) : (setF s f v).free = s.free := rfl
@[simp] theorem setF_captured (f : Fld) (v : Nat) : (setF s f v).captured = s.captured := rfl
@[simp] theorem setF_pins (f : Fld) (v : Nat) : (setF s f v).pins = s.pins := rfl
@[simp] theorem setF_rs (f : Fld) (v : Nat) : (setF s f v).rs = s.rs := rfl
@[simp] theorem setF_tap (f : Fld) (v : Nat) : (setF s f v).tap = s.tap := rfl
@[simp] theorem setF_hap (f : Fld) (v : Nat) : (setF s f v).hap = s.hap := rfl
@[simp] theorem setF_hr (f : Fld) (v : Nat) : (setF s f v).hr = s.hr := rfl
@[simp] theorem setF_mb (f : Fld) (v : Nat) : (setF s f v).mb = s.mb := rfl
@[simp] theorem setF_tb (f : Fld) (v : Nat) : (setF s f v).tb = s.tb := rfl
@[simp] theorem setF_vfs (f : Fld) (v : Nat) : (setF s f v).vfs = s.vfs := rfl
@[simp] theorem setF_sa (f : Fld) (v : Nat) : (setF s f v).sa = s.sa := rfl
@[simp] theorem setF_be (f : Fld) (v : Nat) : (setF s f v).be = s.be := rfl
@[simp] theorem setF_pc (f : Fld) (v : Nat) : (setF s f v).pc = s.pc := rfl
@[simp] theorem setF_cc (f : Fld) (v : Nat) : (setF s f v).cc = s.cc := rfl
@[simp] theorem setF_mf (f : Fld) (v : Nat) : (setF s f v).mf = s.mf := rfl
@[simp] theorem setF_pb (f : Fld) (v : Nat) : (setF s f v).pb = s.pb := rfl
@[simp] theorem setF_th (f : Fld) (v : Nat) : (setF s f v).th = s.th := rfl
@[simp] theorem setF_bg (f : Fld) (v : Nat) : (setF s f v).bg = s.bg := rfl
@[simp] theorem setF_du (f : Fld) (v : Nat) : (setF s f v).du = s.du := rfl
@[simp] theorem setF_sp (f : Fld) (v : Nat) : (setF s f v).sp = s.sp := rfl
@[simp] theorem setF_obs (f : Fld) (v : Nat) : (setF s f v).obs = s.obs := rfl
@[simp] theorem setF_bus (f : Fld) (v : Nat) : (setF s f v).bus = s.bus := rfl

/-! ## bumpFree -/

@[simp] theorem bumpFree_pending : (bumpFree s).pending = s.pending := rfl
@[simp] theorem bumpFree_build : (bumpFree s).build = s.build := rfl
@[simp] theorem bumpFree_now : (bumpFree s).now = s.now := rfl
@[simp] theorem bumpFree_regs : (bumpFree s).regs = s.regs := rfl
@[simp] theorem bumpFree_captured : (bumpFree s).captured = s.captured := rfl
@[simp] theorem bumpFree_pins : (bumpFree s).pins = s.pins := rfl
@[simp] theorem bumpFree_rs : (bumpFree s).rs = s.rs := rfl
@[simp] theorem bumpFree_tap : (bumpFree s).tap = s.tap := rfl
@[simp] theorem bumpFree_hap : (bumpFree s).hap = s.hap := rfl
@[simp] theorem bumpFree_hr : (bumpFree s).hr = s.hr := rfl
@[simp] theorem bumpFree_mb : (bumpFree s).mb = s.mb := rfl
@[simp] theorem bumpFree_tb : (bumpFree s).tb = s.tb := rfl
@[simp] theorem bumpFree_vfs : (bumpFree s).vfs = s.vfs := rfl
@[simp] theorem bumpFree_sa : (bumpFree s).sa = s.sa := rfl
@[simp] theorem bumpFree_be : (bumpFree s).be = s.be := rfl
@[simp] theorem bumpFree_pc : (bumpFree s).pc = s.pc := rfl
@[simp] theorem bumpFree_cc : (bumpFree s).cc = s.cc := rfl
@[simp] theorem bumpFree_mf : (bumpFree s).mf = s.mf := rfl
@[simp] theorem bumpFree_pb : (bumpFree s).pb = s.pb := rfl
@[simp] theorem bumpFree_th : (bumpFree s).th = s.th := rfl
@[simp] theorem bumpFree_bg : (bumpFree s).bg = s.bg := rfl
@[simp] theorem bumpFree_du : (bumpFree s).du = s.du := rfl
@[simp] theorem bumpFree_sp : (bumpFree s).sp = s.sp := rfl
@[simp] theorem bumpFree_obs : (bumpFree s).obs = s.obs := rfl
@[simp] theorem bumpFree_bus : (bumpFree s).bus = s.bus := rfl

/-! ## setVfs -/

@[simp] theorem setVfs_pending (r : Nat) (x : VfsRail) : (setVfs s r x).pending = s.pending := rfl
@[simp] theorem setVfs_build (r : Nat) (x : VfsRail) : (setVfs s r x).build = s.build := rfl
@[simp] theorem setVfs_now (r : Nat) (x : VfsRail) : (setVfs s r x).now = s.now := rfl
@[simp] theorem setVfs_free (r : Nat) (x : VfsRail) : (setVfs s r x).free = s.free := rfl
@[simp] theorem setVfs_regs (r : Nat) (x : VfsRail) : (setVfs s r x).regs = s.regs := rfl
@[simp] theorem setVfs_captured (r : Nat) (x : VfsRail) : (setVfs s r x).captured = s.captured := rfl
@[simp] theorem setVfs_pins (r : Nat) (x : VfsRail) : (setVfs s r x).pins = s.pins := rfl
@[simp] theorem setVfs_rs (r : Nat) (x : VfsRail) : (setVfs s r x).rs = s.rs := rfl
@[simp] theorem setVfs_tap (r : Nat) (x : VfsRail) : (setVfs s r x).tap = s.tap := rfl
@[simp] theorem setVfs_hap (r : Nat) (x : VfsRail) : (setVfs s r x).hap = s.hap := rfl
@[simp] theorem setVfs_hr (r : Nat) (x : VfsRail) : (setVfs s r x).hr = s.hr := rfl
@[simp] theorem setVfs_mb (r : Nat) (x : VfsRail) : (setVfs s r x).mb = s.mb := rfl
@[simp] theorem setVfs_tb (r : Nat) (x : VfsRail) : (setVfs s r x).tb = s.tb := rfl
@[simp] theorem setVfs_sa (r : Nat) (x : VfsRail) : (setVfs s r x).sa = s.sa := rfl
@[simp] theorem setVfs_be (r : Nat) (x : VfsRail) : (setVfs s r x).be = s.be := rfl
@[simp] theorem setVfs_pc (r : Nat) (x : VfsRail) : (setVfs s r x).pc = s.pc := rfl
@[simp] theorem setVfs_cc (r : Nat) (x : VfsRail) : (setVfs s r x).cc = s.cc := rfl
@[simp] theorem setVfs_mf (r : Nat) (x : VfsRail) : (setVfs s r x).mf = s.mf := rfl
@[simp] theorem setVfs_pb (r : Nat) (x : VfsRail) : (setVfs s r x).pb = s.pb := rfl
@[simp] theorem setVfs_th (r : Nat) (x : VfsRail) : (setVfs s r x).th = s.th := rfl
@[simp] theorem setVfs_bg (r : Nat) (x : VfsRail) : (setVfs s r x).bg = s.bg := rfl
@[simp] theorem setVfs_du (r : Nat) (x : VfsRail) : (setVfs s r x).du = s.du := rfl
@[simp] theorem setVfs_sp (r : Nat) (x : VfsRail) : (setVfs s r x).sp = s.sp := rfl
@[simp] theorem setVfs_obs (r : Nat) (x : VfsRail) : (setVfs s r x).obs = s.obs := rfl
@[simp] theorem setVfs_bus (r : Nat) (x : VfsRail) : (setVfs s r x).bus = s.bus := rfl

/-! ## setMbox -/

@[simp] theorem setMbox_pending (c : Nat) (x : Mbox) : (setMbox s c x).pending = s.pending := rfl
@[simp] theorem setMbox_build (c : Nat) (x : Mbox) : (setMbox s c x).build = s.build := rfl
@[simp] theorem setMbox_now (c : Nat) (x : Mbox) : (setMbox s c x).now = s.now := rfl
@[simp] theorem setMbox_free (c : Nat) (x : Mbox) : (setMbox s c x).free = s.free := rfl
@[simp] theorem setMbox_regs (c : Nat) (x : Mbox) : (setMbox s c x).regs = s.regs := rfl
@[simp] theorem setMbox_captured (c : Nat) (x : Mbox) : (setMbox s c x).captured = s.captured := rfl
@[simp] theorem setMbox_pins (c : Nat) (x : Mbox) : (setMbox s c x).pins = s.pins := rfl
@[simp] theorem setMbox_rs (c : Nat) (x : Mbox) : (setMbox s c x).rs = s.rs := rfl
@[simp] theorem setMbox_tap (c : Nat) (x : Mbox) : (setMbox s c x).tap = s.tap := rfl
@[simp] theorem setMbox_hap (c : Nat) (x : Mbox) : (setMbox s c x).hap = s.hap := rfl
@[simp] theorem setMbox_hr (c : Nat) (x : Mbox) : (setMbox s c x).hr = s.hr := rfl
@[simp] theorem setMbox_tb (c : Nat) (x : Mbox) : (setMbox s c x).tb = s.tb := rfl
@[simp] theorem setMbox_vfs (c : Nat) (x : Mbox) : (setMbox s c x).vfs = s.vfs := rfl
@[simp] theorem setMbox_sa (c : Nat) (x : Mbox) : (setMbox s c x).sa = s.sa := rfl
@[simp] theorem setMbox_be (c : Nat) (x : Mbox) : (setMbox s c x).be = s.be := rfl
@[simp] theorem setMbox_pc (c : Nat) (x : Mbox) : (setMbox s c x).pc = s.pc := rfl
@[simp] theorem setMbox_cc (c : Nat) (x : Mbox) : (setMbox s c x).cc = s.cc := rfl
@[simp] theorem setMbox_mf (c : Nat) (x : Mbox) : (setMbox s c x).mf = s.mf := rfl
@[simp] theorem setMbox_pb (c : Nat) (x : Mbox) : (setMbox s c x).pb = s.pb := rfl
@[simp] theorem setMbox_th (c : Nat) (x : Mbox) : (setMbox s c x).th = s.th := rfl
@[simp] theorem setMbox_bg (c : Nat) (x : Mbox) : (setMbox s c x).bg = s.bg := rfl
@[simp] theorem setMbox_du (c : Nat) (x : Mbox) : (setMbox s c x).du = s.du := rfl
@[simp] theorem setMbox_sp (c : Nat) (x : Mbox) : (setMbox s c x).sp = s.sp := rfl
@[simp] theorem setMbox_obs (c : Nat) (x : Mbox) : (setMbox s c x).obs = s.obs := rfl
@[simp] theorem setMbox_bus (c : Nat) (x : Mbox) : (setMbox s c x).bus = s.bus := rfl

/-! ## setTile -/

@[simp] theorem setTile_pending (t : Nat) (x : Tile) : (setTile s t x).pending = s.pending := rfl
@[simp] theorem setTile_build (t : Nat) (x : Tile) : (setTile s t x).build = s.build := rfl
@[simp] theorem setTile_now (t : Nat) (x : Tile) : (setTile s t x).now = s.now := rfl
@[simp] theorem setTile_free (t : Nat) (x : Tile) : (setTile s t x).free = s.free := rfl
@[simp] theorem setTile_regs (t : Nat) (x : Tile) : (setTile s t x).regs = s.regs := rfl
@[simp] theorem setTile_captured (t : Nat) (x : Tile) : (setTile s t x).captured = s.captured := rfl
@[simp] theorem setTile_pins (t : Nat) (x : Tile) : (setTile s t x).pins = s.pins := rfl
@[simp] theorem setTile_rs (t : Nat) (x : Tile) : (setTile s t x).rs = s.rs := rfl
@[simp] theorem setTile_tap (t : Nat) (x : Tile) : (setTile s t x).tap = s.tap := rfl
@[simp] theorem setTile_hap (t : Nat) (x : Tile) : (setTile s t x).hap = s.hap := rfl
@[simp] theorem setTile_hr (t : Nat) (x : Tile) : (setTile s t x).hr = s.hr := rfl
@[simp] theorem setTile_mb (t : Nat) (x : Tile) : (setTile s t x).mb = s.mb := rfl
@[simp] theorem setTile_tb (t : Nat) (x : Tile) : (setTile s t x).tb = s.tb := rfl
@[simp] theorem setTile_vfs (t : Nat) (x : Tile) : (setTile s t x).vfs = s.vfs := rfl
@[simp] theorem setTile_sa (t : Nat) (x : Tile) : (setTile s t x).sa = s.sa := rfl
@[simp] theorem setTile_be (t : Nat) (x : Tile) : (setTile s t x).be = s.be := rfl
@[simp] theorem setTile_pc (t : Nat) (x : Tile) : (setTile s t x).pc = s.pc := rfl
@[simp] theorem setTile_mf (t : Nat) (x : Tile) : (setTile s t x).mf = s.mf := rfl
@[simp] theorem setTile_pb (t : Nat) (x : Tile) : (setTile s t x).pb = s.pb := rfl
@[simp] theorem setTile_th (t : Nat) (x : Tile) : (setTile s t x).th = s.th := rfl
@[simp] theorem setTile_bg (t : Nat) (x : Tile) : (setTile s t x).bg = s.bg := rfl
@[simp] theorem setTile_du (t : Nat) (x : Tile) : (setTile s t x).du = s.du := rfl
@[simp] theorem setTile_sp (t : Nat) (x : Tile) : (setTile s t x).sp = s.sp := rfl
@[simp] theorem setTile_obs (t : Nat) (x : Tile) : (setTile s t x).obs = s.obs := rfl
@[simp] theorem setTile_bus (t : Nat) (x : Tile) : (setTile s t x).bus = s.bus := rfl
@[simp] theorem setTile_cc_total (t : Nat) (x : Tile) : (setTile s t x).cc.total = s.cc.total := rfl
@[simp] theorem setTile_cc_reserve (t : Nat) (x : Tile) : (setTile s t x).cc.reserve = s.cc.reserve := rfl
@[simp] theorem setTile_cc_lastOdd (t : Nat) (x : Tile) : (setTile s t x).cc.lastOdd = s.cc.lastOdd := rfl
@[simp] theorem setTile_cc_audit (t : Nat) (x : Tile) : (setTile s t x).cc.audit = s.cc.audit := rfl
@[simp] theorem setTile_cc_auditAt (t : Nat) (x : Tile) : (setTile s t x).cc.auditAt = s.cc.auditAt := rfl
@[simp] theorem setTile_cc_census (t : Nat) (x : Tile) : (setTile s t x).cc.census = s.cc.census := rfl
@[simp] theorem setTile_cc_censusSum (t : Nat) (x : Tile) : (setTile s t x).cc.censusSum = s.cc.censusSum := rfl

/-! ## setRail -/

@[simp] theorem setRail_pending (r : Nat) (x : Rail) : (setRail s r x).pending = s.pending := rfl
@[simp] theorem setRail_build (r : Nat) (x : Rail) : (setRail s r x).build = s.build := rfl
@[simp] theorem setRail_now (r : Nat) (x : Rail) : (setRail s r x).now = s.now := rfl
@[simp] theorem setRail_free (r : Nat) (x : Rail) : (setRail s r x).free = s.free := rfl
@[simp] theorem setRail_regs (r : Nat) (x : Rail) : (setRail s r x).regs = s.regs := rfl
@[simp] theorem setRail_captured (r : Nat) (x : Rail) : (setRail s r x).captured = s.captured := rfl
@[simp] theorem setRail_pins (r : Nat) (x : Rail) : (setRail s r x).pins = s.pins := rfl
@[simp] theorem setRail_rs (r : Nat) (x : Rail) : (setRail s r x).rs = s.rs := rfl
@[simp] theorem setRail_tap (r : Nat) (x : Rail) : (setRail s r x).tap = s.tap := rfl
@[simp] theorem setRail_hap (r : Nat) (x : Rail) : (setRail s r x).hap = s.hap := rfl
@[simp] theorem setRail_hr (r : Nat) (x : Rail) : (setRail s r x).hr = s.hr := rfl
@[simp] theorem setRail_mb (r : Nat) (x : Rail) : (setRail s r x).mb = s.mb := rfl
@[simp] theorem setRail_tb (r : Nat) (x : Rail) : (setRail s r x).tb = s.tb := rfl
@[simp] theorem setRail_vfs (r : Nat) (x : Rail) : (setRail s r x).vfs = s.vfs := rfl
@[simp] theorem setRail_sa (r : Nat) (x : Rail) : (setRail s r x).sa = s.sa := rfl
@[simp] theorem setRail_be (r : Nat) (x : Rail) : (setRail s r x).be = s.be := rfl
@[simp] theorem setRail_cc (r : Nat) (x : Rail) : (setRail s r x).cc = s.cc := rfl
@[simp] theorem setRail_mf (r : Nat) (x : Rail) : (setRail s r x).mf = s.mf := rfl
@[simp] theorem setRail_pb (r : Nat) (x : Rail) : (setRail s r x).pb = s.pb := rfl
@[simp] theorem setRail_th (r : Nat) (x : Rail) : (setRail s r x).th = s.th := rfl
@[simp] theorem setRail_bg (r : Nat) (x : Rail) : (setRail s r x).bg = s.bg := rfl
@[simp] theorem setRail_du (r : Nat) (x : Rail) : (setRail s r x).du = s.du := rfl
@[simp] theorem setRail_sp (r : Nat) (x : Rail) : (setRail s r x).sp = s.sp := rfl
@[simp] theorem setRail_obs (r : Nat) (x : Rail) : (setRail s r x).obs = s.obs := rfl
@[simp] theorem setRail_bus (r : Nat) (x : Rail) : (setRail s r x).bus = s.bus := rfl
@[simp] theorem setRail_pc_ports (r : Nat) (x : Rail) : (setRail s r x).pc.ports = s.pc.ports := rfl
@[simp] theorem setRail_pc_jobs (r : Nat) (x : Rail) : (setRail s r x).pc.jobs = s.pc.jobs := rfl
@[simp] theorem setRail_pc_compAt (r : Nat) (x : Rail) : (setRail s r x).pc.compAt = s.pc.compAt := rfl
@[simp] theorem setRail_pc_brake (r : Nat) (x : Rail) : (setRail s r x).pc.brake = s.pc.brake := rfl
@[simp] theorem setRail_pc_brakeGstop (r : Nat) (x : Rail) : (setRail s r x).pc.brakeGstop = s.pc.brakeGstop := rfl
@[simp] theorem setRail_pc_brakeAt (r : Nat) (x : Rail) : (setRail s r x).pc.brakeAt = s.pc.brakeAt := rfl
@[simp] theorem setRail_pc_escDone (r : Nat) (x : Rail) : (setRail s r x).pc.escDone = s.pc.escDone := rfl
@[simp] theorem setRail_pc_missDone (r : Nat) (x : Rail) : (setRail s r x).pc.missDone = s.pc.missDone := rfl
@[simp] theorem setRail_pc_escCounted (r : Nat) (x : Rail) : (setRail s r x).pc.escCounted = s.pc.escCounted := rfl
@[simp] theorem setRail_pc_lifting (r : Nat) (x : Rail) : (setRail s r x).pc.lifting = s.pc.lifting := rfl

/-! ## setPort -/

@[simp] theorem setPort_pending (p : Nat) (x : Port) : (setPort s p x).pending = s.pending := rfl
@[simp] theorem setPort_build (p : Nat) (x : Port) : (setPort s p x).build = s.build := rfl
@[simp] theorem setPort_now (p : Nat) (x : Port) : (setPort s p x).now = s.now := rfl
@[simp] theorem setPort_free (p : Nat) (x : Port) : (setPort s p x).free = s.free := rfl
@[simp] theorem setPort_regs (p : Nat) (x : Port) : (setPort s p x).regs = s.regs := rfl
@[simp] theorem setPort_captured (p : Nat) (x : Port) : (setPort s p x).captured = s.captured := rfl
@[simp] theorem setPort_pins (p : Nat) (x : Port) : (setPort s p x).pins = s.pins := rfl
@[simp] theorem setPort_rs (p : Nat) (x : Port) : (setPort s p x).rs = s.rs := rfl
@[simp] theorem setPort_tap (p : Nat) (x : Port) : (setPort s p x).tap = s.tap := rfl
@[simp] theorem setPort_hap (p : Nat) (x : Port) : (setPort s p x).hap = s.hap := rfl
@[simp] theorem setPort_hr (p : Nat) (x : Port) : (setPort s p x).hr = s.hr := rfl
@[simp] theorem setPort_mb (p : Nat) (x : Port) : (setPort s p x).mb = s.mb := rfl
@[simp] theorem setPort_tb (p : Nat) (x : Port) : (setPort s p x).tb = s.tb := rfl
@[simp] theorem setPort_vfs (p : Nat) (x : Port) : (setPort s p x).vfs = s.vfs := rfl
@[simp] theorem setPort_sa (p : Nat) (x : Port) : (setPort s p x).sa = s.sa := rfl
@[simp] theorem setPort_be (p : Nat) (x : Port) : (setPort s p x).be = s.be := rfl
@[simp] theorem setPort_cc (p : Nat) (x : Port) : (setPort s p x).cc = s.cc := rfl
@[simp] theorem setPort_mf (p : Nat) (x : Port) : (setPort s p x).mf = s.mf := rfl
@[simp] theorem setPort_pb (p : Nat) (x : Port) : (setPort s p x).pb = s.pb := rfl
@[simp] theorem setPort_th (p : Nat) (x : Port) : (setPort s p x).th = s.th := rfl
@[simp] theorem setPort_bg (p : Nat) (x : Port) : (setPort s p x).bg = s.bg := rfl
@[simp] theorem setPort_du (p : Nat) (x : Port) : (setPort s p x).du = s.du := rfl
@[simp] theorem setPort_sp (p : Nat) (x : Port) : (setPort s p x).sp = s.sp := rfl
@[simp] theorem setPort_obs (p : Nat) (x : Port) : (setPort s p x).obs = s.obs := rfl
@[simp] theorem setPort_bus (p : Nat) (x : Port) : (setPort s p x).bus = s.bus := rfl
@[simp] theorem setPort_pc_rails (p : Nat) (x : Port) : (setPort s p x).pc.rails = s.pc.rails := rfl
@[simp] theorem setPort_pc_jobs (p : Nat) (x : Port) : (setPort s p x).pc.jobs = s.pc.jobs := rfl
@[simp] theorem setPort_pc_compAt (p : Nat) (x : Port) : (setPort s p x).pc.compAt = s.pc.compAt := rfl
@[simp] theorem setPort_pc_brake (p : Nat) (x : Port) : (setPort s p x).pc.brake = s.pc.brake := rfl
@[simp] theorem setPort_pc_brakeGstop (p : Nat) (x : Port) : (setPort s p x).pc.brakeGstop = s.pc.brakeGstop := rfl
@[simp] theorem setPort_pc_brakeAt (p : Nat) (x : Port) : (setPort s p x).pc.brakeAt = s.pc.brakeAt := rfl
@[simp] theorem setPort_pc_escDone (p : Nat) (x : Port) : (setPort s p x).pc.escDone = s.pc.escDone := rfl
@[simp] theorem setPort_pc_missDone (p : Nat) (x : Port) : (setPort s p x).pc.missDone = s.pc.missDone := rfl
@[simp] theorem setPort_pc_escCounted (p : Nat) (x : Port) : (setPort s p x).pc.escCounted = s.pc.escCounted := rfl
@[simp] theorem setPort_pc_lifting (p : Nat) (x : Port) : (setPort s p x).pc.lifting = s.pc.lifting := rfl

/-! ## setLoop -/

@[simp] theorem setLoop_pending (l : Nat) (x : Loop) : (setLoop s l x).pending = s.pending := rfl
@[simp] theorem setLoop_build (l : Nat) (x : Loop) : (setLoop s l x).build = s.build := rfl
@[simp] theorem setLoop_now (l : Nat) (x : Loop) : (setLoop s l x).now = s.now := rfl
@[simp] theorem setLoop_free (l : Nat) (x : Loop) : (setLoop s l x).free = s.free := rfl
@[simp] theorem setLoop_regs (l : Nat) (x : Loop) : (setLoop s l x).regs = s.regs := rfl
@[simp] theorem setLoop_captured (l : Nat) (x : Loop) : (setLoop s l x).captured = s.captured := rfl
@[simp] theorem setLoop_pins (l : Nat) (x : Loop) : (setLoop s l x).pins = s.pins := rfl
@[simp] theorem setLoop_rs (l : Nat) (x : Loop) : (setLoop s l x).rs = s.rs := rfl
@[simp] theorem setLoop_tap (l : Nat) (x : Loop) : (setLoop s l x).tap = s.tap := rfl
@[simp] theorem setLoop_hap (l : Nat) (x : Loop) : (setLoop s l x).hap = s.hap := rfl
@[simp] theorem setLoop_hr (l : Nat) (x : Loop) : (setLoop s l x).hr = s.hr := rfl
@[simp] theorem setLoop_mb (l : Nat) (x : Loop) : (setLoop s l x).mb = s.mb := rfl
@[simp] theorem setLoop_tb (l : Nat) (x : Loop) : (setLoop s l x).tb = s.tb := rfl
@[simp] theorem setLoop_vfs (l : Nat) (x : Loop) : (setLoop s l x).vfs = s.vfs := rfl
@[simp] theorem setLoop_sa (l : Nat) (x : Loop) : (setLoop s l x).sa = s.sa := rfl
@[simp] theorem setLoop_pc (l : Nat) (x : Loop) : (setLoop s l x).pc = s.pc := rfl
@[simp] theorem setLoop_cc (l : Nat) (x : Loop) : (setLoop s l x).cc = s.cc := rfl
@[simp] theorem setLoop_mf (l : Nat) (x : Loop) : (setLoop s l x).mf = s.mf := rfl
@[simp] theorem setLoop_pb (l : Nat) (x : Loop) : (setLoop s l x).pb = s.pb := rfl
@[simp] theorem setLoop_th (l : Nat) (x : Loop) : (setLoop s l x).th = s.th := rfl
@[simp] theorem setLoop_bg (l : Nat) (x : Loop) : (setLoop s l x).bg = s.bg := rfl
@[simp] theorem setLoop_du (l : Nat) (x : Loop) : (setLoop s l x).du = s.du := rfl
@[simp] theorem setLoop_sp (l : Nat) (x : Loop) : (setLoop s l x).sp = s.sp := rfl
@[simp] theorem setLoop_obs (l : Nat) (x : Loop) : (setLoop s l x).obs = s.obs := rfl
@[simp] theorem setLoop_bus (l : Nat) (x : Loop) : (setLoop s l x).bus = s.bus := rfl
@[simp] theorem setLoop_be_stopped (l : Nat) (x : Loop) : (setLoop s l x).be.stopped = s.be.stopped := rfl
@[simp] theorem setLoop_be_pcStopped (l : Nat) (x : Loop) : (setLoop s l x).be.pcStopped = s.be.pcStopped := rfl
@[simp] theorem setLoop_be_reqs (l : Nat) (x : Loop) : (setLoop s l x).be.reqs = s.be.reqs := rfl
@[simp] theorem setLoop_be_words (l : Nat) (x : Loop) : (setLoop s l x).be.words = s.be.words := rfl
@[simp] theorem setLoop_be_arb (l : Nat) (x : Loop) : (setLoop s l x).be.arb = s.be.arb := rfl
@[simp] theorem setLoop_be_atStop (l : Nat) (x : Loop) : (setLoop s l x).be.atStop = s.be.atStop := rfl
@[simp] theorem setLoop_be_firstFrame (l : Nat) (x : Loop) : (setLoop s l x).be.firstFrame = s.be.firstFrame := rfl
@[simp] theorem setLoop_be_takeover (l : Nat) (x : Loop) : (setLoop s l x).be.takeover = s.be.takeover := rfl
@[simp] theorem setLoop_be_carried (l : Nat) (x : Loop) : (setLoop s l x).be.carried = s.be.carried := rfl
@[simp] theorem setLoop_be_laneBad (l : Nat) (x : Loop) : (setLoop s l x).be.laneBad = s.be.laneBad := rfl
@[simp] theorem setLoop_be_pgs (l : Nat) (x : Loop) : (setLoop s l x).be.pgs = s.be.pgs := rfl
@[simp] theorem setLoop_be_pcSnap (l : Nat) (x : Loop) : (setLoop s l x).be.pcSnap = s.be.pcSnap := rfl
@[simp] theorem setLoop_be_frameAt (l : Nat) (x : Loop) : (setLoop s l x).be.frameAt = s.be.frameAt := rfl
@[simp] theorem setLoop_be_tickAt (l : Nat) (x : Loop) : (setLoop s l x).be.tickAt = s.be.tickAt := rfl
@[simp] theorem setLoop_be_errStop (l : Nat) (x : Loop) : (setLoop s l x).be.errStop = s.be.errStop := rfl

/-! ## setPg -/

@[simp] theorem setPg_pending (p : Nat) (x : Pg) : (setPg s p x).pending = s.pending := rfl
@[simp] theorem setPg_build (p : Nat) (x : Pg) : (setPg s p x).build = s.build := rfl
@[simp] theorem setPg_now (p : Nat) (x : Pg) : (setPg s p x).now = s.now := rfl
@[simp] theorem setPg_free (p : Nat) (x : Pg) : (setPg s p x).free = s.free := rfl
@[simp] theorem setPg_regs (p : Nat) (x : Pg) : (setPg s p x).regs = s.regs := rfl
@[simp] theorem setPg_captured (p : Nat) (x : Pg) : (setPg s p x).captured = s.captured := rfl
@[simp] theorem setPg_pins (p : Nat) (x : Pg) : (setPg s p x).pins = s.pins := rfl
@[simp] theorem setPg_rs (p : Nat) (x : Pg) : (setPg s p x).rs = s.rs := rfl
@[simp] theorem setPg_tap (p : Nat) (x : Pg) : (setPg s p x).tap = s.tap := rfl
@[simp] theorem setPg_hap (p : Nat) (x : Pg) : (setPg s p x).hap = s.hap := rfl
@[simp] theorem setPg_hr (p : Nat) (x : Pg) : (setPg s p x).hr = s.hr := rfl
@[simp] theorem setPg_mb (p : Nat) (x : Pg) : (setPg s p x).mb = s.mb := rfl
@[simp] theorem setPg_tb (p : Nat) (x : Pg) : (setPg s p x).tb = s.tb := rfl
@[simp] theorem setPg_vfs (p : Nat) (x : Pg) : (setPg s p x).vfs = s.vfs := rfl
@[simp] theorem setPg_sa (p : Nat) (x : Pg) : (setPg s p x).sa = s.sa := rfl
@[simp] theorem setPg_pc (p : Nat) (x : Pg) : (setPg s p x).pc = s.pc := rfl
@[simp] theorem setPg_cc (p : Nat) (x : Pg) : (setPg s p x).cc = s.cc := rfl
@[simp] theorem setPg_mf (p : Nat) (x : Pg) : (setPg s p x).mf = s.mf := rfl
@[simp] theorem setPg_pb (p : Nat) (x : Pg) : (setPg s p x).pb = s.pb := rfl
@[simp] theorem setPg_th (p : Nat) (x : Pg) : (setPg s p x).th = s.th := rfl
@[simp] theorem setPg_bg (p : Nat) (x : Pg) : (setPg s p x).bg = s.bg := rfl
@[simp] theorem setPg_du (p : Nat) (x : Pg) : (setPg s p x).du = s.du := rfl
@[simp] theorem setPg_sp (p : Nat) (x : Pg) : (setPg s p x).sp = s.sp := rfl
@[simp] theorem setPg_obs (p : Nat) (x : Pg) : (setPg s p x).obs = s.obs := rfl
@[simp] theorem setPg_bus (p : Nat) (x : Pg) : (setPg s p x).bus = s.bus := rfl
@[simp] theorem setPg_be_loops (p : Nat) (x : Pg) : (setPg s p x).be.loops = s.be.loops := rfl
@[simp] theorem setPg_be_stopped (p : Nat) (x : Pg) : (setPg s p x).be.stopped = s.be.stopped := rfl
@[simp] theorem setPg_be_pcStopped (p : Nat) (x : Pg) : (setPg s p x).be.pcStopped = s.be.pcStopped := rfl
@[simp] theorem setPg_be_reqs (p : Nat) (x : Pg) : (setPg s p x).be.reqs = s.be.reqs := rfl
@[simp] theorem setPg_be_words (p : Nat) (x : Pg) : (setPg s p x).be.words = s.be.words := rfl
@[simp] theorem setPg_be_arb (p : Nat) (x : Pg) : (setPg s p x).be.arb = s.be.arb := rfl
@[simp] theorem setPg_be_atStop (p : Nat) (x : Pg) : (setPg s p x).be.atStop = s.be.atStop := rfl
@[simp] theorem setPg_be_firstFrame (p : Nat) (x : Pg) : (setPg s p x).be.firstFrame = s.be.firstFrame := rfl
@[simp] theorem setPg_be_takeover (p : Nat) (x : Pg) : (setPg s p x).be.takeover = s.be.takeover := rfl
@[simp] theorem setPg_be_carried (p : Nat) (x : Pg) : (setPg s p x).be.carried = s.be.carried := rfl
@[simp] theorem setPg_be_laneBad (p : Nat) (x : Pg) : (setPg s p x).be.laneBad = s.be.laneBad := rfl
@[simp] theorem setPg_be_pcSnap (p : Nat) (x : Pg) : (setPg s p x).be.pcSnap = s.be.pcSnap := rfl
@[simp] theorem setPg_be_frameAt (p : Nat) (x : Pg) : (setPg s p x).be.frameAt = s.be.frameAt := rfl
@[simp] theorem setPg_be_tickAt (p : Nat) (x : Pg) : (setPg s p x).be.tickAt = s.be.tickAt := rfl
@[simp] theorem setPg_be_errStop (p : Nat) (x : Pg) : (setPg s p x).be.errStop = s.be.errStop := rfl

/-! ## setRing -/

@[simp] theorem setRing_pending (n : Nat) (x : Ring) : (setRing s n x).pending = s.pending := rfl
@[simp] theorem setRing_build (n : Nat) (x : Ring) : (setRing s n x).build = s.build := rfl
@[simp] theorem setRing_now (n : Nat) (x : Ring) : (setRing s n x).now = s.now := rfl
@[simp] theorem setRing_free (n : Nat) (x : Ring) : (setRing s n x).free = s.free := rfl
@[simp] theorem setRing_regs (n : Nat) (x : Ring) : (setRing s n x).regs = s.regs := rfl
@[simp] theorem setRing_captured (n : Nat) (x : Ring) : (setRing s n x).captured = s.captured := rfl
@[simp] theorem setRing_pins (n : Nat) (x : Ring) : (setRing s n x).pins = s.pins := rfl
@[simp] theorem setRing_rs (n : Nat) (x : Ring) : (setRing s n x).rs = s.rs := rfl
@[simp] theorem setRing_tap (n : Nat) (x : Ring) : (setRing s n x).tap = s.tap := rfl
@[simp] theorem setRing_hap (n : Nat) (x : Ring) : (setRing s n x).hap = s.hap := rfl
@[simp] theorem setRing_mb (n : Nat) (x : Ring) : (setRing s n x).mb = s.mb := rfl
@[simp] theorem setRing_tb (n : Nat) (x : Ring) : (setRing s n x).tb = s.tb := rfl
@[simp] theorem setRing_vfs (n : Nat) (x : Ring) : (setRing s n x).vfs = s.vfs := rfl
@[simp] theorem setRing_sa (n : Nat) (x : Ring) : (setRing s n x).sa = s.sa := rfl
@[simp] theorem setRing_be (n : Nat) (x : Ring) : (setRing s n x).be = s.be := rfl
@[simp] theorem setRing_pc (n : Nat) (x : Ring) : (setRing s n x).pc = s.pc := rfl
@[simp] theorem setRing_cc (n : Nat) (x : Ring) : (setRing s n x).cc = s.cc := rfl
@[simp] theorem setRing_mf (n : Nat) (x : Ring) : (setRing s n x).mf = s.mf := rfl
@[simp] theorem setRing_pb (n : Nat) (x : Ring) : (setRing s n x).pb = s.pb := rfl
@[simp] theorem setRing_th (n : Nat) (x : Ring) : (setRing s n x).th = s.th := rfl
@[simp] theorem setRing_bg (n : Nat) (x : Ring) : (setRing s n x).bg = s.bg := rfl
@[simp] theorem setRing_du (n : Nat) (x : Ring) : (setRing s n x).du = s.du := rfl
@[simp] theorem setRing_sp (n : Nat) (x : Ring) : (setRing s n x).sp = s.sp := rfl
@[simp] theorem setRing_obs (n : Nat) (x : Ring) : (setRing s n x).obs = s.obs := rfl
@[simp] theorem setRing_bus (n : Nat) (x : Ring) : (setRing s n x).bus = s.bus := rfl
@[simp] theorem setRing_hr_flights (n : Nat) (x : Ring) : (setRing s n x).hr.flights = s.hr.flights := rfl
@[simp] theorem setRing_hr_turn (n : Nat) (x : Ring) : (setRing s n x).hr.turn = s.hr.turn := rfl
@[simp] theorem setRing_hr_readTurn (n : Nat) (x : Ring) : (setRing s n x).hr.readTurn = s.hr.readTurn := rfl
@[simp] theorem setRing_hr_cplWait (n : Nat) (x : Ring) : (setRing s n x).hr.cplWait = s.hr.cplWait := rfl
@[simp] theorem setRing_hr_nextKey (n : Nat) (x : Ring) : (setRing s n x).hr.nextKey = s.hr.nextKey := rfl
@[simp] theorem setRing_hr_lastHi (n : Nat) (x : Ring) : (setRing s n x).hr.lastHi = s.hr.lastHi := rfl
@[simp] theorem setRing_hr_lastLo (n : Nat) (x : Ring) : (setRing s n x).hr.lastLo = s.hr.lastLo := rfl
@[simp] theorem setRing_hr_evHeld (n : Nat) (x : Ring) : (setRing s n x).hr.evHeld = s.hr.evHeld := rfl
@[simp] theorem setRing_hr_evProd (n : Nat) (x : Ring) : (setRing s n x).hr.evProd = s.hr.evProd := rfl
@[simp] theorem setRing_hr_evCons (n : Nat) (x : Ring) : (setRing s n x).hr.evCons = s.hr.evCons := rfl
@[simp] theorem setRing_hr_evLost (n : Nat) (x : Ring) : (setRing s n x).hr.evLost = s.hr.evLost := rfl
@[simp] theorem setRing_hr_evOut (n : Nat) (x : Ring) : (setRing s n x).hr.evOut = s.hr.evOut := rfl
@[simp] theorem setRing_hr_telProd (n : Nat) (x : Ring) : (setRing s n x).hr.telProd = s.hr.telProd := rfl
@[simp] theorem setRing_hr_telCons (n : Nat) (x : Ring) : (setRing s n x).hr.telCons = s.hr.telCons := rfl
@[simp] theorem setRing_hr_telOut (n : Nat) (x : Ring) : (setRing s n x).hr.telOut = s.hr.telOut := rfl
@[simp] theorem setRing_hr_telRun (n : Nat) (x : Ring) : (setRing s n x).hr.telRun = s.hr.telRun := rfl
@[simp] theorem setRing_hr_mfAccepted (n : Nat) (x : Ring) : (setRing s n x).hr.mfAccepted = s.hr.mfAccepted := rfl
@[simp] theorem setRing_hr_cplLost (n : Nat) (x : Ring) : (setRing s n x).hr.cplLost = s.hr.cplLost := rfl
@[simp] theorem setRing_hr_lockFw (n : Nat) (x : Ring) : (setRing s n x).hr.lockFw = s.hr.lockFw := rfl
@[simp] theorem setRing_hr_lockEnv (n : Nat) (x : Ring) : (setRing s n x).hr.lockEnv = s.hr.lockEnv := rfl
@[simp] theorem setRing_hr_pollAt (n : Nat) (x : Ring) : (setRing s n x).hr.pollAt = s.hr.pollAt := rfl
@[simp] theorem setRing_hr_telAt (n : Nat) (x : Ring) : (setRing s n x).hr.telAt = s.hr.telAt := rfl
@[simp] theorem setRing_hr_telPf (n : Nat) (x : Ring) : (setRing s n x).hr.telPf = s.hr.telPf := rfl
@[simp] theorem setRing_hr_telN (n : Nat) (x : Ring) : (setRing s n x).hr.telN = s.hr.telN := rfl

/-! ## setTimer -/

@[simp] theorem setTimer_pending (k : Nat) (x : Option Timer) : (setTimer s k x).pending = s.pending := rfl
@[simp] theorem setTimer_build (k : Nat) (x : Option Timer) : (setTimer s k x).build = s.build := rfl
@[simp] theorem setTimer_now (k : Nat) (x : Option Timer) : (setTimer s k x).now = s.now := rfl
@[simp] theorem setTimer_free (k : Nat) (x : Option Timer) : (setTimer s k x).free = s.free := rfl
@[simp] theorem setTimer_regs (k : Nat) (x : Option Timer) : (setTimer s k x).regs = s.regs := rfl
@[simp] theorem setTimer_captured (k : Nat) (x : Option Timer) : (setTimer s k x).captured = s.captured := rfl
@[simp] theorem setTimer_pins (k : Nat) (x : Option Timer) : (setTimer s k x).pins = s.pins := rfl
@[simp] theorem setTimer_rs (k : Nat) (x : Option Timer) : (setTimer s k x).rs = s.rs := rfl
@[simp] theorem setTimer_tap (k : Nat) (x : Option Timer) : (setTimer s k x).tap = s.tap := rfl
@[simp] theorem setTimer_hap (k : Nat) (x : Option Timer) : (setTimer s k x).hap = s.hap := rfl
@[simp] theorem setTimer_hr (k : Nat) (x : Option Timer) : (setTimer s k x).hr = s.hr := rfl
@[simp] theorem setTimer_mb (k : Nat) (x : Option Timer) : (setTimer s k x).mb = s.mb := rfl
@[simp] theorem setTimer_tb (k : Nat) (x : Option Timer) : (setTimer s k x).tb = s.tb := rfl
@[simp] theorem setTimer_vfs (k : Nat) (x : Option Timer) : (setTimer s k x).vfs = s.vfs := rfl
@[simp] theorem setTimer_be (k : Nat) (x : Option Timer) : (setTimer s k x).be = s.be := rfl
@[simp] theorem setTimer_pc (k : Nat) (x : Option Timer) : (setTimer s k x).pc = s.pc := rfl
@[simp] theorem setTimer_cc (k : Nat) (x : Option Timer) : (setTimer s k x).cc = s.cc := rfl
@[simp] theorem setTimer_mf (k : Nat) (x : Option Timer) : (setTimer s k x).mf = s.mf := rfl
@[simp] theorem setTimer_pb (k : Nat) (x : Option Timer) : (setTimer s k x).pb = s.pb := rfl
@[simp] theorem setTimer_th (k : Nat) (x : Option Timer) : (setTimer s k x).th = s.th := rfl
@[simp] theorem setTimer_bg (k : Nat) (x : Option Timer) : (setTimer s k x).bg = s.bg := rfl
@[simp] theorem setTimer_du (k : Nat) (x : Option Timer) : (setTimer s k x).du = s.du := rfl
@[simp] theorem setTimer_sp (k : Nat) (x : Option Timer) : (setTimer s k x).sp = s.sp := rfl
@[simp] theorem setTimer_obs (k : Nat) (x : Option Timer) : (setTimer s k x).obs = s.obs := rfl
@[simp] theorem setTimer_bus (k : Nat) (x : Option Timer) : (setTimer s k x).bus = s.bus := rfl
@[simp] theorem setTimer_sa_state (k : Nat) (x : Option Timer) : (setTimer s k x).sa.state = s.sa.state := rfl
@[simp] theorem setTimer_sa_first (k : Nat) (x : Option Timer) : (setTimer s k x).sa.first = s.sa.first := rfl
@[simp] theorem setTimer_sa_aR (k : Nat) (x : Option Timer) : (setTimer s k x).sa.aR = s.sa.aR := rfl
@[simp] theorem setTimer_sa_tR (k : Nat) (x : Option Timer) : (setTimer s k x).sa.tR = s.sa.tR := rfl
@[simp] theorem setTimer_sa_cR (k : Nat) (x : Option Timer) : (setTimer s k x).sa.cR = s.sa.cR := rfl
@[simp] theorem setTimer_sa_rate (k : Nat) (x : Option Timer) : (setTimer s k x).sa.rate = s.sa.rate := rfl
@[simp] theorem setTimer_sa_aX (k : Nat) (x : Option Timer) : (setTimer s k x).sa.aX = s.sa.aX := rfl
@[simp] theorem setTimer_sa_behind (k : Nat) (x : Option Timer) : (setTimer s k x).sa.behind = s.sa.behind := rfl
@[simp] theorem setTimer_sa_limited (k : Nat) (x : Option Timer) : (setTimer s k x).sa.limited = s.sa.limited := rfl
@[simp] theorem setTimer_sa_toggleAt (k : Nat) (x : Option Timer) : (setTimer s k x).sa.toggleAt = s.sa.toggleAt := rfl
@[simp] theorem setTimer_sa_exAt (k : Nat) (x : Option Timer) : (setTimer s k x).sa.exAt = s.sa.exAt := rfl
@[simp] theorem setTimer_sa_acceptedAt (k : Nat) (x : Option Timer) : (setTimer s k x).sa.acceptedAt = s.sa.acceptedAt := rfl
@[simp] theorem setTimer_sa_firedAt (k : Nat) (x : Option Timer) : (setTimer s k x).sa.firedAt = s.sa.firedAt := rfl

/-! ## setCore -/

@[simp] theorem setCore_pending (k : Nat) (c : FwCore) : (setCore s k c).pending = s.pending := rfl
@[simp] theorem setCore_build (k : Nat) (c : FwCore) : (setCore s k c).build = s.build := rfl
@[simp] theorem setCore_now (k : Nat) (c : FwCore) : (setCore s k c).now = s.now := rfl
@[simp] theorem setCore_free (k : Nat) (c : FwCore) : (setCore s k c).free = s.free := rfl
@[simp] theorem setCore_regs (k : Nat) (c : FwCore) : (setCore s k c).regs = s.regs := rfl
@[simp] theorem setCore_captured (k : Nat) (c : FwCore) : (setCore s k c).captured = s.captured := rfl
@[simp] theorem setCore_pins (k : Nat) (c : FwCore) : (setCore s k c).pins = s.pins := rfl
@[simp] theorem setCore_rs (k : Nat) (c : FwCore) : (setCore s k c).rs = s.rs := rfl
@[simp] theorem setCore_tap (k : Nat) (c : FwCore) : (setCore s k c).tap = s.tap := rfl
@[simp] theorem setCore_hap (k : Nat) (c : FwCore) : (setCore s k c).hap = s.hap := rfl
@[simp] theorem setCore_hr (k : Nat) (c : FwCore) : (setCore s k c).hr = s.hr := rfl
@[simp] theorem setCore_mb (k : Nat) (c : FwCore) : (setCore s k c).mb = s.mb := rfl
@[simp] theorem setCore_tb (k : Nat) (c : FwCore) : (setCore s k c).tb = s.tb := rfl
@[simp] theorem setCore_vfs (k : Nat) (c : FwCore) : (setCore s k c).vfs = s.vfs := rfl
@[simp] theorem setCore_sa (k : Nat) (c : FwCore) : (setCore s k c).sa = s.sa := rfl
@[simp] theorem setCore_be (k : Nat) (c : FwCore) : (setCore s k c).be = s.be := rfl
@[simp] theorem setCore_pc (k : Nat) (c : FwCore) : (setCore s k c).pc = s.pc := rfl
@[simp] theorem setCore_cc (k : Nat) (c : FwCore) : (setCore s k c).cc = s.cc := rfl
@[simp] theorem setCore_mf (k : Nat) (c : FwCore) : (setCore s k c).mf = s.mf := rfl
@[simp] theorem setCore_pb (k : Nat) (c : FwCore) : (setCore s k c).pb = s.pb := rfl
@[simp] theorem setCore_th (k : Nat) (c : FwCore) : (setCore s k c).th = s.th := rfl
@[simp] theorem setCore_bg (k : Nat) (c : FwCore) : (setCore s k c).bg = s.bg := rfl
@[simp] theorem setCore_sp (k : Nat) (c : FwCore) : (setCore s k c).sp = s.sp := rfl
@[simp] theorem setCore_obs (k : Nat) (c : FwCore) : (setCore s k c).obs = s.obs := rfl
@[simp] theorem setCore_bus (k : Nat) (c : FwCore) : (setCore s k c).bus = s.bus := rfl
@[simp] theorem setCore_du_mode (k : Nat) (c : FwCore) : (setCore s k c).du.mode = s.du.mode := rfl
@[simp] theorem setCore_du_active (k : Nat) (c : FwCore) : (setCore s k c).du.active = s.du.active := rfl
@[simp] theorem setCore_du_synced (k : Nat) (c : FwCore) : (setCore s k c).du.synced = s.du.synced := rfl
@[simp] theorem setCore_du_hold (k : Nat) (c : FwCore) : (setCore s k c).du.hold = s.du.hold := rfl
@[simp] theorem setCore_du_holdFor (k : Nat) (c : FwCore) : (setCore s k c).du.holdFor = s.du.holdFor := rfl
@[simp] theorem setCore_du_tcores (k : Nat) (c : FwCore) : (setCore s k c).du.tcores = s.du.tcores := rfl
@[simp] theorem setCore_du_image (k : Nat) (c : FwCore) : (setCore s k c).du.image = s.du.image := rfl
@[simp] theorem setCore_du_left (k : Nat) (c : FwCore) : (setCore s k c).du.left = s.du.left := rfl
@[simp] theorem setCore_du_mirror (k : Nat) (c : FwCore) : (setCore s k c).du.mirror = s.du.mirror := rfl
@[simp] theorem setCore_du_copied (k : Nat) (c : FwCore) : (setCore s k c).du.copied = s.du.copied := rfl
@[simp] theorem setCore_du_tapWait (k : Nat) (c : FwCore) : (setCore s k c).du.tapWait = s.du.tapWait := rfl
@[simp] theorem setCore_du_hbAbsent (k : Nat) (c : FwCore) : (setCore s k c).du.hbAbsent = s.du.hbAbsent := rfl
@[simp] theorem setCore_du_asked (k : Nat) (c : FwCore) : (setCore s k c).du.asked = s.du.asked := rfl
@[simp] theorem setCore_du_waitTx (k : Nat) (c : FwCore) : (setCore s k c).du.waitTx = s.du.waitTx := rfl

/-! ## setTcore -/

@[simp] theorem setTcore_pending (t : Nat) (c : FwCore) : (setTcore s t c).pending = s.pending := rfl
@[simp] theorem setTcore_build (t : Nat) (c : FwCore) : (setTcore s t c).build = s.build := rfl
@[simp] theorem setTcore_now (t : Nat) (c : FwCore) : (setTcore s t c).now = s.now := rfl
@[simp] theorem setTcore_free (t : Nat) (c : FwCore) : (setTcore s t c).free = s.free := rfl
@[simp] theorem setTcore_regs (t : Nat) (c : FwCore) : (setTcore s t c).regs = s.regs := rfl
@[simp] theorem setTcore_captured (t : Nat) (c : FwCore) : (setTcore s t c).captured = s.captured := rfl
@[simp] theorem setTcore_pins (t : Nat) (c : FwCore) : (setTcore s t c).pins = s.pins := rfl
@[simp] theorem setTcore_rs (t : Nat) (c : FwCore) : (setTcore s t c).rs = s.rs := rfl
@[simp] theorem setTcore_tap (t : Nat) (c : FwCore) : (setTcore s t c).tap = s.tap := rfl
@[simp] theorem setTcore_hap (t : Nat) (c : FwCore) : (setTcore s t c).hap = s.hap := rfl
@[simp] theorem setTcore_hr (t : Nat) (c : FwCore) : (setTcore s t c).hr = s.hr := rfl
@[simp] theorem setTcore_mb (t : Nat) (c : FwCore) : (setTcore s t c).mb = s.mb := rfl
@[simp] theorem setTcore_tb (t : Nat) (c : FwCore) : (setTcore s t c).tb = s.tb := rfl
@[simp] theorem setTcore_vfs (t : Nat) (c : FwCore) : (setTcore s t c).vfs = s.vfs := rfl
@[simp] theorem setTcore_sa (t : Nat) (c : FwCore) : (setTcore s t c).sa = s.sa := rfl
@[simp] theorem setTcore_be (t : Nat) (c : FwCore) : (setTcore s t c).be = s.be := rfl
@[simp] theorem setTcore_pc (t : Nat) (c : FwCore) : (setTcore s t c).pc = s.pc := rfl
@[simp] theorem setTcore_cc (t : Nat) (c : FwCore) : (setTcore s t c).cc = s.cc := rfl
@[simp] theorem setTcore_mf (t : Nat) (c : FwCore) : (setTcore s t c).mf = s.mf := rfl
@[simp] theorem setTcore_pb (t : Nat) (c : FwCore) : (setTcore s t c).pb = s.pb := rfl
@[simp] theorem setTcore_th (t : Nat) (c : FwCore) : (setTcore s t c).th = s.th := rfl
@[simp] theorem setTcore_bg (t : Nat) (c : FwCore) : (setTcore s t c).bg = s.bg := rfl
@[simp] theorem setTcore_sp (t : Nat) (c : FwCore) : (setTcore s t c).sp = s.sp := rfl
@[simp] theorem setTcore_obs (t : Nat) (c : FwCore) : (setTcore s t c).obs = s.obs := rfl
@[simp] theorem setTcore_bus (t : Nat) (c : FwCore) : (setTcore s t c).bus = s.bus := rfl
@[simp] theorem setTcore_du_mode (t : Nat) (c : FwCore) : (setTcore s t c).du.mode = s.du.mode := rfl
@[simp] theorem setTcore_du_active (t : Nat) (c : FwCore) : (setTcore s t c).du.active = s.du.active := rfl
@[simp] theorem setTcore_du_synced (t : Nat) (c : FwCore) : (setTcore s t c).du.synced = s.du.synced := rfl
@[simp] theorem setTcore_du_hold (t : Nat) (c : FwCore) : (setTcore s t c).du.hold = s.du.hold := rfl
@[simp] theorem setTcore_du_holdFor (t : Nat) (c : FwCore) : (setTcore s t c).du.holdFor = s.du.holdFor := rfl
@[simp] theorem setTcore_du_cores (t : Nat) (c : FwCore) : (setTcore s t c).du.cores = s.du.cores := rfl
@[simp] theorem setTcore_du_image (t : Nat) (c : FwCore) : (setTcore s t c).du.image = s.du.image := rfl
@[simp] theorem setTcore_du_left (t : Nat) (c : FwCore) : (setTcore s t c).du.left = s.du.left := rfl
@[simp] theorem setTcore_du_mirror (t : Nat) (c : FwCore) : (setTcore s t c).du.mirror = s.du.mirror := rfl
@[simp] theorem setTcore_du_copied (t : Nat) (c : FwCore) : (setTcore s t c).du.copied = s.du.copied := rfl
@[simp] theorem setTcore_du_tapWait (t : Nat) (c : FwCore) : (setTcore s t c).du.tapWait = s.du.tapWait := rfl
@[simp] theorem setTcore_du_hbAbsent (t : Nat) (c : FwCore) : (setTcore s t c).du.hbAbsent = s.du.hbAbsent := rfl
@[simp] theorem setTcore_du_asked (t : Nat) (c : FwCore) : (setTcore s t c).du.asked = s.du.asked := rfl
@[simp] theorem setTcore_du_waitTx (t : Nat) (c : FwCore) : (setTcore s t c).du.waitTx = s.du.waitTx := rfl

/-! ## setSns -/

@[simp] theorem setSns_pending (n : Nat) (x : Sns) : (setSns s n x).pending = s.pending := rfl
@[simp] theorem setSns_build (n : Nat) (x : Sns) : (setSns s n x).build = s.build := rfl
@[simp] theorem setSns_now (n : Nat) (x : Sns) : (setSns s n x).now = s.now := rfl
@[simp] theorem setSns_free (n : Nat) (x : Sns) : (setSns s n x).free = s.free := rfl
@[simp] theorem setSns_regs (n : Nat) (x : Sns) : (setSns s n x).regs = s.regs := rfl
@[simp] theorem setSns_captured (n : Nat) (x : Sns) : (setSns s n x).captured = s.captured := rfl
@[simp] theorem setSns_pins (n : Nat) (x : Sns) : (setSns s n x).pins = s.pins := rfl
@[simp] theorem setSns_rs (n : Nat) (x : Sns) : (setSns s n x).rs = s.rs := rfl
@[simp] theorem setSns_tap (n : Nat) (x : Sns) : (setSns s n x).tap = s.tap := rfl
@[simp] theorem setSns_hap (n : Nat) (x : Sns) : (setSns s n x).hap = s.hap := rfl
@[simp] theorem setSns_hr (n : Nat) (x : Sns) : (setSns s n x).hr = s.hr := rfl
@[simp] theorem setSns_mb (n : Nat) (x : Sns) : (setSns s n x).mb = s.mb := rfl
@[simp] theorem setSns_tb (n : Nat) (x : Sns) : (setSns s n x).tb = s.tb := rfl
@[simp] theorem setSns_vfs (n : Nat) (x : Sns) : (setSns s n x).vfs = s.vfs := rfl
@[simp] theorem setSns_sa (n : Nat) (x : Sns) : (setSns s n x).sa = s.sa := rfl
@[simp] theorem setSns_be (n : Nat) (x : Sns) : (setSns s n x).be = s.be := rfl
@[simp] theorem setSns_pc (n : Nat) (x : Sns) : (setSns s n x).pc = s.pc := rfl
@[simp] theorem setSns_cc (n : Nat) (x : Sns) : (setSns s n x).cc = s.cc := rfl
@[simp] theorem setSns_mf (n : Nat) (x : Sns) : (setSns s n x).mf = s.mf := rfl
@[simp] theorem setSns_pb (n : Nat) (x : Sns) : (setSns s n x).pb = s.pb := rfl
@[simp] theorem setSns_bg (n : Nat) (x : Sns) : (setSns s n x).bg = s.bg := rfl
@[simp] theorem setSns_du (n : Nat) (x : Sns) : (setSns s n x).du = s.du := rfl
@[simp] theorem setSns_sp (n : Nat) (x : Sns) : (setSns s n x).sp = s.sp := rfl
@[simp] theorem setSns_obs (n : Nat) (x : Sns) : (setSns s n x).obs = s.obs := rfl
@[simp] theorem setSns_bus (n : Nat) (x : Sns) : (setSns s n x).bus = s.bus := rfl
@[simp] theorem setSns_th_sd (n : Nat) (x : Sns) : (setSns s n x).th.sd = s.th.sd := rfl
@[simp] theorem setSns_th_ordStep (n : Nat) (x : Sns) : (setSns s n x).th.ordStep = s.th.ordStep := rfl
@[simp] theorem setSns_th_cause (n : Nat) (x : Sns) : (setSns s n x).th.cause = s.th.cause := rfl
@[simp] theorem setSns_th_sdAt (n : Nat) (x : Sns) : (setSns s n x).th.sdAt = s.th.sdAt := rfl
@[simp] theorem setSns_th_stepAt (n : Nat) (x : Sns) : (setSns s n x).th.stepAt = s.th.stepAt := rfl
@[simp] theorem setSns_th_model (n : Nat) (x : Sns) : (setSns s n x).th.model = s.th.model := rfl
@[simp] theorem setSns_th_pend (n : Nat) (x : Sns) : (setSns s n x).th.pend = s.th.pend := rfl
@[simp] theorem setSns_th_nodes (n : Nat) (x : Sns) : (setSns s n x).th.nodes = s.th.nodes := rfl
@[simp] theorem setSns_th_settling (n : Nat) (x : Sns) : (setSns s n x).th.settling = s.th.settling := rfl
@[simp] theorem setSns_th_solves (n : Nat) (x : Sns) : (setSns s n x).th.solves = s.th.solves := rfl
@[simp] theorem setSns_th_f (n : Nat) (x : Sns) : (setSns s n x).th.f = s.th.f := rfl
@[simp] theorem setSns_th_missed (n : Nat) (x : Sns) : (setSns s n x).th.missed = s.th.missed := rfl
@[simp] theorem setSns_th_polling (n : Nat) (x : Sns) : (setSns s n x).th.polling = s.th.polling := rfl
@[simp] theorem setSns_th_belowMin (n : Nat) (x : Sns) : (setSns s n x).th.belowMin = s.th.belowMin := rfl
@[simp] theorem setSns_th_cool (n : Nat) (x : Sns) : (setSns s n x).th.cool = s.th.cool := rfl
@[simp] theorem setSns_th_ceils (n : Nat) (x : Sns) : (setSns s n x).th.ceils = s.th.ceils := rfl
@[simp] theorem setSns_th_sizing (n : Nat) (x : Sns) : (setSns s n x).th.sizing = s.th.sizing := rfl
@[simp] theorem setSns_th_judge (n : Nat) (x : Sns) : (setSns s n x).th.judge = s.th.judge := rfl
@[simp] theorem setSns_th_rf (n : Nat) (x : Sns) : (setSns s n x).th.rf = s.th.rf := rfl
@[simp] theorem setSns_th_rfCnt (n : Nat) (x : Sns) : (setSns s n x).th.rfCnt = s.th.rfCnt := rfl
@[simp] theorem setSns_th_sampleAt (n : Nat) (x : Sns) : (setSns s n x).th.sampleAt = s.th.sampleAt := rfl
@[simp] theorem setSns_th_solveAt (n : Nat) (x : Sns) : (setSns s n x).th.solveAt = s.th.solveAt := rfl
@[simp] theorem setSns_th_pollAt (n : Nat) (x : Sns) : (setSns s n x).th.pollAt = s.th.pollAt := rfl
@[simp] theorem setSns_th_rfAt (n : Nat) (x : Sns) : (setSns s n x).th.rfAt = s.th.rfAt := rfl

/-! ## setThCeil -/

@[simp] theorem setThCeil_pending (t : Nat) (c : ThCeil) : (setThCeil s t c).pending = s.pending := rfl
@[simp] theorem setThCeil_build (t : Nat) (c : ThCeil) : (setThCeil s t c).build = s.build := rfl
@[simp] theorem setThCeil_now (t : Nat) (c : ThCeil) : (setThCeil s t c).now = s.now := rfl
@[simp] theorem setThCeil_free (t : Nat) (c : ThCeil) : (setThCeil s t c).free = s.free := rfl
@[simp] theorem setThCeil_regs (t : Nat) (c : ThCeil) : (setThCeil s t c).regs = s.regs := rfl
@[simp] theorem setThCeil_captured (t : Nat) (c : ThCeil) : (setThCeil s t c).captured = s.captured := rfl
@[simp] theorem setThCeil_pins (t : Nat) (c : ThCeil) : (setThCeil s t c).pins = s.pins := rfl
@[simp] theorem setThCeil_rs (t : Nat) (c : ThCeil) : (setThCeil s t c).rs = s.rs := rfl
@[simp] theorem setThCeil_tap (t : Nat) (c : ThCeil) : (setThCeil s t c).tap = s.tap := rfl
@[simp] theorem setThCeil_hap (t : Nat) (c : ThCeil) : (setThCeil s t c).hap = s.hap := rfl
@[simp] theorem setThCeil_hr (t : Nat) (c : ThCeil) : (setThCeil s t c).hr = s.hr := rfl
@[simp] theorem setThCeil_mb (t : Nat) (c : ThCeil) : (setThCeil s t c).mb = s.mb := rfl
@[simp] theorem setThCeil_tb (t : Nat) (c : ThCeil) : (setThCeil s t c).tb = s.tb := rfl
@[simp] theorem setThCeil_vfs (t : Nat) (c : ThCeil) : (setThCeil s t c).vfs = s.vfs := rfl
@[simp] theorem setThCeil_sa (t : Nat) (c : ThCeil) : (setThCeil s t c).sa = s.sa := rfl
@[simp] theorem setThCeil_be (t : Nat) (c : ThCeil) : (setThCeil s t c).be = s.be := rfl
@[simp] theorem setThCeil_pc (t : Nat) (c : ThCeil) : (setThCeil s t c).pc = s.pc := rfl
@[simp] theorem setThCeil_cc (t : Nat) (c : ThCeil) : (setThCeil s t c).cc = s.cc := rfl
@[simp] theorem setThCeil_mf (t : Nat) (c : ThCeil) : (setThCeil s t c).mf = s.mf := rfl
@[simp] theorem setThCeil_pb (t : Nat) (c : ThCeil) : (setThCeil s t c).pb = s.pb := rfl
@[simp] theorem setThCeil_bg (t : Nat) (c : ThCeil) : (setThCeil s t c).bg = s.bg := rfl
@[simp] theorem setThCeil_du (t : Nat) (c : ThCeil) : (setThCeil s t c).du = s.du := rfl
@[simp] theorem setThCeil_sp (t : Nat) (c : ThCeil) : (setThCeil s t c).sp = s.sp := rfl
@[simp] theorem setThCeil_obs (t : Nat) (c : ThCeil) : (setThCeil s t c).obs = s.obs := rfl
@[simp] theorem setThCeil_bus (t : Nat) (c : ThCeil) : (setThCeil s t c).bus = s.bus := rfl
@[simp] theorem setThCeil_th_sd (t : Nat) (c : ThCeil) : (setThCeil s t c).th.sd = s.th.sd := rfl
@[simp] theorem setThCeil_th_ordStep (t : Nat) (c : ThCeil) : (setThCeil s t c).th.ordStep = s.th.ordStep := rfl
@[simp] theorem setThCeil_th_cause (t : Nat) (c : ThCeil) : (setThCeil s t c).th.cause = s.th.cause := rfl
@[simp] theorem setThCeil_th_sdAt (t : Nat) (c : ThCeil) : (setThCeil s t c).th.sdAt = s.th.sdAt := rfl
@[simp] theorem setThCeil_th_stepAt (t : Nat) (c : ThCeil) : (setThCeil s t c).th.stepAt = s.th.stepAt := rfl
@[simp] theorem setThCeil_th_sns (t : Nat) (c : ThCeil) : (setThCeil s t c).th.sns = s.th.sns := rfl
@[simp] theorem setThCeil_th_model (t : Nat) (c : ThCeil) : (setThCeil s t c).th.model = s.th.model := rfl
@[simp] theorem setThCeil_th_pend (t : Nat) (c : ThCeil) : (setThCeil s t c).th.pend = s.th.pend := rfl
@[simp] theorem setThCeil_th_nodes (t : Nat) (c : ThCeil) : (setThCeil s t c).th.nodes = s.th.nodes := rfl
@[simp] theorem setThCeil_th_settling (t : Nat) (c : ThCeil) : (setThCeil s t c).th.settling = s.th.settling := rfl
@[simp] theorem setThCeil_th_solves (t : Nat) (c : ThCeil) : (setThCeil s t c).th.solves = s.th.solves := rfl
@[simp] theorem setThCeil_th_f (t : Nat) (c : ThCeil) : (setThCeil s t c).th.f = s.th.f := rfl
@[simp] theorem setThCeil_th_missed (t : Nat) (c : ThCeil) : (setThCeil s t c).th.missed = s.th.missed := rfl
@[simp] theorem setThCeil_th_polling (t : Nat) (c : ThCeil) : (setThCeil s t c).th.polling = s.th.polling := rfl
@[simp] theorem setThCeil_th_belowMin (t : Nat) (c : ThCeil) : (setThCeil s t c).th.belowMin = s.th.belowMin := rfl
@[simp] theorem setThCeil_th_cool (t : Nat) (c : ThCeil) : (setThCeil s t c).th.cool = s.th.cool := rfl
@[simp] theorem setThCeil_th_sizing (t : Nat) (c : ThCeil) : (setThCeil s t c).th.sizing = s.th.sizing := rfl
@[simp] theorem setThCeil_th_judge (t : Nat) (c : ThCeil) : (setThCeil s t c).th.judge = s.th.judge := rfl
@[simp] theorem setThCeil_th_rf (t : Nat) (c : ThCeil) : (setThCeil s t c).th.rf = s.th.rf := rfl
@[simp] theorem setThCeil_th_rfCnt (t : Nat) (c : ThCeil) : (setThCeil s t c).th.rfCnt = s.th.rfCnt := rfl
@[simp] theorem setThCeil_th_sampleAt (t : Nat) (c : ThCeil) : (setThCeil s t c).th.sampleAt = s.th.sampleAt := rfl
@[simp] theorem setThCeil_th_solveAt (t : Nat) (c : ThCeil) : (setThCeil s t c).th.solveAt = s.th.solveAt := rfl
@[simp] theorem setThCeil_th_pollAt (t : Nat) (c : ThCeil) : (setThCeil s t c).th.pollAt = s.th.pollAt := rfl
@[simp] theorem setThCeil_th_rfAt (t : Nat) (c : ThCeil) : (setThCeil s t c).th.rfAt = s.th.rfAt := rfl

/-! ## setBin -/

@[simp] theorem setBin_pending (k : Nat) (b : Bin) : (setBin s k b).pending = s.pending := rfl
@[simp] theorem setBin_build (k : Nat) (b : Bin) : (setBin s k b).build = s.build := rfl
@[simp] theorem setBin_now (k : Nat) (b : Bin) : (setBin s k b).now = s.now := rfl
@[simp] theorem setBin_free (k : Nat) (b : Bin) : (setBin s k b).free = s.free := rfl
@[simp] theorem setBin_regs (k : Nat) (b : Bin) : (setBin s k b).regs = s.regs := rfl
@[simp] theorem setBin_captured (k : Nat) (b : Bin) : (setBin s k b).captured = s.captured := rfl
@[simp] theorem setBin_pins (k : Nat) (b : Bin) : (setBin s k b).pins = s.pins := rfl
@[simp] theorem setBin_rs (k : Nat) (b : Bin) : (setBin s k b).rs = s.rs := rfl
@[simp] theorem setBin_tap (k : Nat) (b : Bin) : (setBin s k b).tap = s.tap := rfl
@[simp] theorem setBin_hap (k : Nat) (b : Bin) : (setBin s k b).hap = s.hap := rfl
@[simp] theorem setBin_hr (k : Nat) (b : Bin) : (setBin s k b).hr = s.hr := rfl
@[simp] theorem setBin_mb (k : Nat) (b : Bin) : (setBin s k b).mb = s.mb := rfl
@[simp] theorem setBin_tb (k : Nat) (b : Bin) : (setBin s k b).tb = s.tb := rfl
@[simp] theorem setBin_vfs (k : Nat) (b : Bin) : (setBin s k b).vfs = s.vfs := rfl
@[simp] theorem setBin_sa (k : Nat) (b : Bin) : (setBin s k b).sa = s.sa := rfl
@[simp] theorem setBin_be (k : Nat) (b : Bin) : (setBin s k b).be = s.be := rfl
@[simp] theorem setBin_pc (k : Nat) (b : Bin) : (setBin s k b).pc = s.pc := rfl
@[simp] theorem setBin_cc (k : Nat) (b : Bin) : (setBin s k b).cc = s.cc := rfl
@[simp] theorem setBin_mf (k : Nat) (b : Bin) : (setBin s k b).mf = s.mf := rfl
@[simp] theorem setBin_th (k : Nat) (b : Bin) : (setBin s k b).th = s.th := rfl
@[simp] theorem setBin_bg (k : Nat) (b : Bin) : (setBin s k b).bg = s.bg := rfl
@[simp] theorem setBin_du (k : Nat) (b : Bin) : (setBin s k b).du = s.du := rfl
@[simp] theorem setBin_sp (k : Nat) (b : Bin) : (setBin s k b).sp = s.sp := rfl
@[simp] theorem setBin_obs (k : Nat) (b : Bin) : (setBin s k b).obs = s.obs := rfl
@[simp] theorem setBin_bus (k : Nat) (b : Bin) : (setBin s k b).bus = s.bus := rfl
@[simp] theorem setBin_pb_meas (k : Nat) (b : Bin) : (setBin s k b).pb.meas = s.pb.meas := rfl
@[simp] theorem setBin_pb_excluded (k : Nat) (b : Bin) : (setBin s k b).pb.excluded = s.pb.excluded := rfl
@[simp] theorem setBin_pb_prog (k : Nat) (b : Bin) : (setBin s k b).pb.prog = s.pb.prog := rfl
@[simp] theorem setBin_pb_pend (k : Nat) (b : Bin) : (setBin s k b).pb.pend = s.pb.pend := rfl
@[simp] theorem setBin_pb_unload (k : Nat) (b : Bin) : (setBin s k b).pb.unload = s.pb.unload := rfl
@[simp] theorem setBin_pb_inst (k : Nat) (b : Bin) : (setBin s k b).pb.inst = s.pb.inst := rfl
@[simp] theorem setBin_pb_late (k : Nat) (b : Bin) : (setBin s k b).pb.late = s.pb.late := rfl
@[simp] theorem setBin_pb_active (k : Nat) (b : Bin) : (setBin s k b).pb.active = s.pb.active := rfl
@[simp] theorem setBin_pb_fcs (k : Nat) (b : Bin) : (setBin s k b).pb.fcs = s.pb.fcs := rfl
@[simp] theorem setBin_pb_autoPre (k : Nat) (b : Bin) : (setBin s k b).pb.autoPre = s.pb.autoPre := rfl
@[simp] theorem setBin_pb_autoBoost (k : Nat) (b : Bin) : (setBin s k b).pb.autoBoost = s.pb.autoBoost := rfl

/-! ## setRailJob -/

@[simp] theorem setRailJob_pending (old new : RailJob) : (setRailJob s old new).pending = s.pending := rfl
@[simp] theorem setRailJob_build (old new : RailJob) : (setRailJob s old new).build = s.build := rfl
@[simp] theorem setRailJob_now (old new : RailJob) : (setRailJob s old new).now = s.now := rfl
@[simp] theorem setRailJob_free (old new : RailJob) : (setRailJob s old new).free = s.free := rfl
@[simp] theorem setRailJob_regs (old new : RailJob) : (setRailJob s old new).regs = s.regs := rfl
@[simp] theorem setRailJob_captured (old new : RailJob) : (setRailJob s old new).captured = s.captured := rfl
@[simp] theorem setRailJob_pins (old new : RailJob) : (setRailJob s old new).pins = s.pins := rfl
@[simp] theorem setRailJob_rs (old new : RailJob) : (setRailJob s old new).rs = s.rs := rfl
@[simp] theorem setRailJob_tap (old new : RailJob) : (setRailJob s old new).tap = s.tap := rfl
@[simp] theorem setRailJob_hap (old new : RailJob) : (setRailJob s old new).hap = s.hap := rfl
@[simp] theorem setRailJob_hr (old new : RailJob) : (setRailJob s old new).hr = s.hr := rfl
@[simp] theorem setRailJob_mb (old new : RailJob) : (setRailJob s old new).mb = s.mb := rfl
@[simp] theorem setRailJob_tb (old new : RailJob) : (setRailJob s old new).tb = s.tb := rfl
@[simp] theorem setRailJob_vfs (old new : RailJob) : (setRailJob s old new).vfs = s.vfs := rfl
@[simp] theorem setRailJob_sa (old new : RailJob) : (setRailJob s old new).sa = s.sa := rfl
@[simp] theorem setRailJob_be (old new : RailJob) : (setRailJob s old new).be = s.be := rfl
@[simp] theorem setRailJob_cc (old new : RailJob) : (setRailJob s old new).cc = s.cc := rfl
@[simp] theorem setRailJob_mf (old new : RailJob) : (setRailJob s old new).mf = s.mf := rfl
@[simp] theorem setRailJob_pb (old new : RailJob) : (setRailJob s old new).pb = s.pb := rfl
@[simp] theorem setRailJob_th (old new : RailJob) : (setRailJob s old new).th = s.th := rfl
@[simp] theorem setRailJob_bg (old new : RailJob) : (setRailJob s old new).bg = s.bg := rfl
@[simp] theorem setRailJob_du (old new : RailJob) : (setRailJob s old new).du = s.du := rfl
@[simp] theorem setRailJob_sp (old new : RailJob) : (setRailJob s old new).sp = s.sp := rfl
@[simp] theorem setRailJob_obs (old new : RailJob) : (setRailJob s old new).obs = s.obs := rfl
@[simp] theorem setRailJob_bus (old new : RailJob) : (setRailJob s old new).bus = s.bus := rfl
@[simp] theorem setRailJob_pc_rails (old new : RailJob) : (setRailJob s old new).pc.rails = s.pc.rails := rfl
@[simp] theorem setRailJob_pc_ports (old new : RailJob) : (setRailJob s old new).pc.ports = s.pc.ports := rfl
@[simp] theorem setRailJob_pc_compAt (old new : RailJob) : (setRailJob s old new).pc.compAt = s.pc.compAt := rfl
@[simp] theorem setRailJob_pc_brake (old new : RailJob) : (setRailJob s old new).pc.brake = s.pc.brake := rfl
@[simp] theorem setRailJob_pc_brakeGstop (old new : RailJob) : (setRailJob s old new).pc.brakeGstop = s.pc.brakeGstop := rfl
@[simp] theorem setRailJob_pc_brakeAt (old new : RailJob) : (setRailJob s old new).pc.brakeAt = s.pc.brakeAt := rfl
@[simp] theorem setRailJob_pc_escDone (old new : RailJob) : (setRailJob s old new).pc.escDone = s.pc.escDone := rfl
@[simp] theorem setRailJob_pc_missDone (old new : RailJob) : (setRailJob s old new).pc.missDone = s.pc.missDone := rfl
@[simp] theorem setRailJob_pc_escCounted (old new : RailJob) : (setRailJob s old new).pc.escCounted = s.pc.escCounted := rfl
@[simp] theorem setRailJob_pc_lifting (old new : RailJob) : (setRailJob s old new).pc.lifting = s.pc.lifting := rfl

/-! ## setRst -/

@[simp] theorem setRst_pending (t : Nat) (x : Option TileRst) : (setRst s t x).pending = s.pending := rfl
@[simp] theorem setRst_build (t : Nat) (x : Option TileRst) : (setRst s t x).build = s.build := rfl
@[simp] theorem setRst_now (t : Nat) (x : Option TileRst) : (setRst s t x).now = s.now := rfl
@[simp] theorem setRst_free (t : Nat) (x : Option TileRst) : (setRst s t x).free = s.free := rfl
@[simp] theorem setRst_regs (t : Nat) (x : Option TileRst) : (setRst s t x).regs = s.regs := rfl
@[simp] theorem setRst_captured (t : Nat) (x : Option TileRst) : (setRst s t x).captured = s.captured := rfl
@[simp] theorem setRst_pins (t : Nat) (x : Option TileRst) : (setRst s t x).pins = s.pins := rfl
@[simp] theorem setRst_tap (t : Nat) (x : Option TileRst) : (setRst s t x).tap = s.tap := rfl
@[simp] theorem setRst_hap (t : Nat) (x : Option TileRst) : (setRst s t x).hap = s.hap := rfl
@[simp] theorem setRst_hr (t : Nat) (x : Option TileRst) : (setRst s t x).hr = s.hr := rfl
@[simp] theorem setRst_mb (t : Nat) (x : Option TileRst) : (setRst s t x).mb = s.mb := rfl
@[simp] theorem setRst_tb (t : Nat) (x : Option TileRst) : (setRst s t x).tb = s.tb := rfl
@[simp] theorem setRst_vfs (t : Nat) (x : Option TileRst) : (setRst s t x).vfs = s.vfs := rfl
@[simp] theorem setRst_sa (t : Nat) (x : Option TileRst) : (setRst s t x).sa = s.sa := rfl
@[simp] theorem setRst_be (t : Nat) (x : Option TileRst) : (setRst s t x).be = s.be := rfl
@[simp] theorem setRst_pc (t : Nat) (x : Option TileRst) : (setRst s t x).pc = s.pc := rfl
@[simp] theorem setRst_cc (t : Nat) (x : Option TileRst) : (setRst s t x).cc = s.cc := rfl
@[simp] theorem setRst_mf (t : Nat) (x : Option TileRst) : (setRst s t x).mf = s.mf := rfl
@[simp] theorem setRst_pb (t : Nat) (x : Option TileRst) : (setRst s t x).pb = s.pb := rfl
@[simp] theorem setRst_th (t : Nat) (x : Option TileRst) : (setRst s t x).th = s.th := rfl
@[simp] theorem setRst_bg (t : Nat) (x : Option TileRst) : (setRst s t x).bg = s.bg := rfl
@[simp] theorem setRst_du (t : Nat) (x : Option TileRst) : (setRst s t x).du = s.du := rfl
@[simp] theorem setRst_sp (t : Nat) (x : Option TileRst) : (setRst s t x).sp = s.sp := rfl
@[simp] theorem setRst_obs (t : Nat) (x : Option TileRst) : (setRst s t x).obs = s.obs := rfl
@[simp] theorem setRst_bus (t : Nat) (x : Option TileRst) : (setRst s t x).bus = s.bus := rfl
@[simp] theorem setRst_rs_held (t : Nat) (x : Option TileRst) : (setRst s t x).rs.held = s.rs.held := rfl
@[simp] theorem setRst_rs_loading (t : Nat) (x : Option TileRst) : (setRst s t x).rs.loading = s.rs.loading := rfl
@[simp] theorem setRst_rs_step (t : Nat) (x : Option TileRst) : (setRst s t x).rs.step = s.rs.step := rfl
@[simp] theorem setRst_rs_done (t : Nat) (x : Option TileRst) : (setRst s t x).rs.done = s.rs.done := rfl
@[simp] theorem setRst_rs_stepAt (t : Nat) (x : Option TileRst) : (setRst s t x).rs.stepAt = s.rs.stepAt := rfl
@[simp] theorem setRst_rs_endAt (t : Nat) (x : Option TileRst) : (setRst s t x).rs.endAt = s.rs.endAt := rfl
@[simp] theorem setRst_rs_stopped (t : Nat) (x : Option TileRst) : (setRst s t x).rs.stopped = s.rs.stopped := rfl
@[simp] theorem setRst_rs_straps (t : Nat) (x : Option TileRst) : (setRst s t x).rs.straps = s.rs.straps := rfl
@[simp] theorem setRst_rs_fzReq (t : Nat) (x : Option TileRst) : (setRst s t x).rs.fzReq = s.rs.fzReq := rfl
@[simp] theorem setRst_rs_fzAddr (t : Nat) (x : Option TileRst) : (setRst s t x).rs.fzAddr = s.rs.fzAddr := rfl
@[simp] theorem setRst_rs_fzAt (t : Nat) (x : Option TileRst) : (setRst s t x).rs.fzAt = s.rs.fzAt := rfl
@[simp] theorem setRst_rs_shadow (t : Nat) (x : Option TileRst) : (setRst s t x).rs.shadow = s.rs.shadow := rfl
@[simp] theorem setRst_rs_fuses (t : Nat) (x : Option TileRst) : (setRst s t x).rs.fuses = s.rs.fuses := rfl
@[simp] theorem setRst_rs_committed (t : Nat) (x : Option TileRst) : (setRst s t x).rs.committed = s.rs.committed := rfl
@[simp] theorem setRst_rs_subBlk (t : Nat) (x : Option TileRst) : (setRst s t x).rs.subBlk = s.rs.subBlk := rfl
@[simp] theorem setRst_rs_waves (t : Nat) (x : Option TileRst) : (setRst s t x).rs.waves = s.rs.waves := rfl
@[simp] theorem setRst_rs_bcast (t : Nat) (x : Option TileRst) : (setRst s t x).rs.bcast = s.rs.bcast := rfl
@[simp] theorem setRst_rs_whole (t : Nat) (x : Option TileRst) : (setRst s t x).rs.whole = s.rs.whole := rfl
@[simp] theorem setRst_rs_draining (t : Nat) (x : Option TileRst) : (setRst s t x).rs.draining = s.rs.draining := rfl
@[simp] theorem setRst_rs_openAt (t : Nat) (x : Option TileRst) : (setRst s t x).rs.openAt = s.rs.openAt := rfl
@[simp] theorem setRst_rs_census0 (t : Nat) (x : Option TileRst) : (setRst s t x).rs.census0 = s.rs.census0 := rfl
@[simp] theorem setRst_rs_census1 (t : Nat) (x : Option TileRst) : (setRst s t x).rs.census1 = s.rs.census1 := rfl
@[simp] theorem setRst_rs_lat0 (t : Nat) (x : Option TileRst) : (setRst s t x).rs.lat0 = s.rs.lat0 := rfl
@[simp] theorem setRst_rs_lat1 (t : Nat) (x : Option TileRst) : (setRst s t x).rs.lat1 = s.rs.lat1 := rfl
@[simp] theorem setRst_rs_zeroing (t : Nat) (x : Option TileRst) : (setRst s t x).rs.zeroing = s.rs.zeroing := rfl

/-! ## setWave -/

@[simp] theorem setWave_pending (old new : WaveJob) : (setWave s old new).pending = s.pending := rfl
@[simp] theorem setWave_build (old new : WaveJob) : (setWave s old new).build = s.build := rfl
@[simp] theorem setWave_now (old new : WaveJob) : (setWave s old new).now = s.now := rfl
@[simp] theorem setWave_free (old new : WaveJob) : (setWave s old new).free = s.free := rfl
@[simp] theorem setWave_regs (old new : WaveJob) : (setWave s old new).regs = s.regs := rfl
@[simp] theorem setWave_captured (old new : WaveJob) : (setWave s old new).captured = s.captured := rfl
@[simp] theorem setWave_pins (old new : WaveJob) : (setWave s old new).pins = s.pins := rfl
@[simp] theorem setWave_tap (old new : WaveJob) : (setWave s old new).tap = s.tap := rfl
@[simp] theorem setWave_hap (old new : WaveJob) : (setWave s old new).hap = s.hap := rfl
@[simp] theorem setWave_hr (old new : WaveJob) : (setWave s old new).hr = s.hr := rfl
@[simp] theorem setWave_mb (old new : WaveJob) : (setWave s old new).mb = s.mb := rfl
@[simp] theorem setWave_tb (old new : WaveJob) : (setWave s old new).tb = s.tb := rfl
@[simp] theorem setWave_vfs (old new : WaveJob) : (setWave s old new).vfs = s.vfs := rfl
@[simp] theorem setWave_sa (old new : WaveJob) : (setWave s old new).sa = s.sa := rfl
@[simp] theorem setWave_be (old new : WaveJob) : (setWave s old new).be = s.be := rfl
@[simp] theorem setWave_pc (old new : WaveJob) : (setWave s old new).pc = s.pc := rfl
@[simp] theorem setWave_cc (old new : WaveJob) : (setWave s old new).cc = s.cc := rfl
@[simp] theorem setWave_mf (old new : WaveJob) : (setWave s old new).mf = s.mf := rfl
@[simp] theorem setWave_pb (old new : WaveJob) : (setWave s old new).pb = s.pb := rfl
@[simp] theorem setWave_th (old new : WaveJob) : (setWave s old new).th = s.th := rfl
@[simp] theorem setWave_bg (old new : WaveJob) : (setWave s old new).bg = s.bg := rfl
@[simp] theorem setWave_du (old new : WaveJob) : (setWave s old new).du = s.du := rfl
@[simp] theorem setWave_sp (old new : WaveJob) : (setWave s old new).sp = s.sp := rfl
@[simp] theorem setWave_obs (old new : WaveJob) : (setWave s old new).obs = s.obs := rfl
@[simp] theorem setWave_bus (old new : WaveJob) : (setWave s old new).bus = s.bus := rfl
@[simp] theorem setWave_rs_held (old new : WaveJob) : (setWave s old new).rs.held = s.rs.held := rfl
@[simp] theorem setWave_rs_loading (old new : WaveJob) : (setWave s old new).rs.loading = s.rs.loading := rfl
@[simp] theorem setWave_rs_step (old new : WaveJob) : (setWave s old new).rs.step = s.rs.step := rfl
@[simp] theorem setWave_rs_done (old new : WaveJob) : (setWave s old new).rs.done = s.rs.done := rfl
@[simp] theorem setWave_rs_stepAt (old new : WaveJob) : (setWave s old new).rs.stepAt = s.rs.stepAt := rfl
@[simp] theorem setWave_rs_endAt (old new : WaveJob) : (setWave s old new).rs.endAt = s.rs.endAt := rfl
@[simp] theorem setWave_rs_stopped (old new : WaveJob) : (setWave s old new).rs.stopped = s.rs.stopped := rfl
@[simp] theorem setWave_rs_straps (old new : WaveJob) : (setWave s old new).rs.straps = s.rs.straps := rfl
@[simp] theorem setWave_rs_fzReq (old new : WaveJob) : (setWave s old new).rs.fzReq = s.rs.fzReq := rfl
@[simp] theorem setWave_rs_fzAddr (old new : WaveJob) : (setWave s old new).rs.fzAddr = s.rs.fzAddr := rfl
@[simp] theorem setWave_rs_fzAt (old new : WaveJob) : (setWave s old new).rs.fzAt = s.rs.fzAt := rfl
@[simp] theorem setWave_rs_shadow (old new : WaveJob) : (setWave s old new).rs.shadow = s.rs.shadow := rfl
@[simp] theorem setWave_rs_fuses (old new : WaveJob) : (setWave s old new).rs.fuses = s.rs.fuses := rfl
@[simp] theorem setWave_rs_committed (old new : WaveJob) : (setWave s old new).rs.committed = s.rs.committed := rfl
@[simp] theorem setWave_rs_subBlk (old new : WaveJob) : (setWave s old new).rs.subBlk = s.rs.subBlk := rfl
@[simp] theorem setWave_rs_tileRst (old new : WaveJob) : (setWave s old new).rs.tileRst = s.rs.tileRst := rfl
@[simp] theorem setWave_rs_bcast (old new : WaveJob) : (setWave s old new).rs.bcast = s.rs.bcast := rfl
@[simp] theorem setWave_rs_whole (old new : WaveJob) : (setWave s old new).rs.whole = s.rs.whole := rfl
@[simp] theorem setWave_rs_draining (old new : WaveJob) : (setWave s old new).rs.draining = s.rs.draining := rfl
@[simp] theorem setWave_rs_openAt (old new : WaveJob) : (setWave s old new).rs.openAt = s.rs.openAt := rfl
@[simp] theorem setWave_rs_census0 (old new : WaveJob) : (setWave s old new).rs.census0 = s.rs.census0 := rfl
@[simp] theorem setWave_rs_census1 (old new : WaveJob) : (setWave s old new).rs.census1 = s.rs.census1 := rfl
@[simp] theorem setWave_rs_lat0 (old new : WaveJob) : (setWave s old new).rs.lat0 = s.rs.lat0 := rfl
@[simp] theorem setWave_rs_lat1 (old new : WaveJob) : (setWave s old new).rs.lat1 = s.rs.lat1 := rfl
@[simp] theorem setWave_rs_zeroing (old new : WaveJob) : (setWave s old new).rs.zeroing = s.rs.zeroing := rfl

/-! ## setBind -/

@[simp] theorem setBind_pending (t : Nat) (b : Bind) : (setBind s t b).pending = s.pending := rfl
@[simp] theorem setBind_build (t : Nat) (b : Bind) : (setBind s t b).build = s.build := rfl
@[simp] theorem setBind_now (t : Nat) (b : Bind) : (setBind s t b).now = s.now := rfl
@[simp] theorem setBind_free (t : Nat) (b : Bind) : (setBind s t b).free = s.free := rfl
@[simp] theorem setBind_regs (t : Nat) (b : Bind) : (setBind s t b).regs = s.regs := rfl
@[simp] theorem setBind_captured (t : Nat) (b : Bind) : (setBind s t b).captured = s.captured := rfl
@[simp] theorem setBind_pins (t : Nat) (b : Bind) : (setBind s t b).pins = s.pins := rfl
@[simp] theorem setBind_rs (t : Nat) (b : Bind) : (setBind s t b).rs = s.rs := rfl
@[simp] theorem setBind_tap (t : Nat) (b : Bind) : (setBind s t b).tap = s.tap := rfl
@[simp] theorem setBind_hap (t : Nat) (b : Bind) : (setBind s t b).hap = s.hap := rfl
@[simp] theorem setBind_hr (t : Nat) (b : Bind) : (setBind s t b).hr = s.hr := rfl
@[simp] theorem setBind_mb (t : Nat) (b : Bind) : (setBind s t b).mb = s.mb := rfl
@[simp] theorem setBind_tb (t : Nat) (b : Bind) : (setBind s t b).tb = s.tb := rfl
@[simp] theorem setBind_vfs (t : Nat) (b : Bind) : (setBind s t b).vfs = s.vfs := rfl
@[simp] theorem setBind_sa (t : Nat) (b : Bind) : (setBind s t b).sa = s.sa := rfl
@[simp] theorem setBind_be (t : Nat) (b : Bind) : (setBind s t b).be = s.be := rfl
@[simp] theorem setBind_pc (t : Nat) (b : Bind) : (setBind s t b).pc = s.pc := rfl
@[simp] theorem setBind_cc (t : Nat) (b : Bind) : (setBind s t b).cc = s.cc := rfl
@[simp] theorem setBind_mf (t : Nat) (b : Bind) : (setBind s t b).mf = s.mf := rfl
@[simp] theorem setBind_pb (t : Nat) (b : Bind) : (setBind s t b).pb = s.pb := rfl
@[simp] theorem setBind_th (t : Nat) (b : Bind) : (setBind s t b).th = s.th := rfl
@[simp] theorem setBind_du (t : Nat) (b : Bind) : (setBind s t b).du = s.du := rfl
@[simp] theorem setBind_sp (t : Nat) (b : Bind) : (setBind s t b).sp = s.sp := rfl
@[simp] theorem setBind_obs (t : Nat) (b : Bind) : (setBind s t b).obs = s.obs := rfl
@[simp] theorem setBind_bus (t : Nat) (b : Bind) : (setBind s t b).bus = s.bus := rfl
@[simp] theorem setBind_bg_formed (t : Nat) (b : Bind) : (setBind s t b).bg.formed = s.bg.formed := rfl
@[simp] theorem setBind_bg_orphan (t : Nat) (b : Bind) : (setBind s t b).bg.orphan = s.bg.orphan := rfl
@[simp] theorem setBind_bg_syncing (t : Nat) (b : Bind) : (setBind s t b).bg.syncing = s.bg.syncing := rfl
@[simp] theorem setBind_bg_ownFloor (t : Nat) (b : Bind) : (setBind s t b).bg.ownFloor = s.bg.ownFloor := rfl
@[simp] theorem setBind_bg_initial (t : Nat) (b : Bind) : (setBind s t b).bg.initial = s.bg.initial := rfl
@[simp] theorem setBind_bg_floor (t : Nat) (b : Bind) : (setBind s t b).bg.floor = s.bg.floor := rfl
@[simp] theorem setBind_bg_ceilC (t : Nat) (b : Bind) : (setBind s t b).bg.ceilC = s.bg.ceilC := rfl
@[simp] theorem setBind_bg_issued (t : Nat) (b : Bind) : (setBind s t b).bg.issued = s.bg.issued := rfl
@[simp] theorem setBind_bg_adjust (t : Nat) (b : Bind) : (setBind s t b).bg.adjust = s.bg.adjust := rfl
@[simp] theorem setBind_bg_own (t : Nat) (b : Bind) : (setBind s t b).bg.own = s.bg.own := rfl
@[simp] theorem setBind_bg_pool (t : Nat) (b : Bind) : (setBind s t b).bg.pool = s.bg.pool := rfl
@[simp] theorem setBind_bg_links (t : Nat) (b : Bind) : (setBind s t b).bg.links = s.bg.links := rfl
@[simp] theorem setBind_bg_epoch (t : Nat) (b : Bind) : (setBind s t b).bg.epoch = s.bg.epoch := rfl
@[simp] theorem setBind_bg_audit (t : Nat) (b : Bind) : (setBind s t b).bg.audit = s.bg.audit := rfl
@[simp] theorem setBind_bg_auditOwn (t : Nat) (b : Bind) : (setBind s t b).bg.auditOwn = s.bg.auditOwn := rfl
@[simp] theorem setBind_bg_pf (t : Nat) (b : Bind) : (setBind s t b).bg.pf = s.bg.pf := rfl
@[simp] theorem setBind_bg_pfSum (t : Nat) (b : Bind) : (setBind s t b).bg.pfSum = s.bg.pfSum := rfl
@[simp] theorem setBind_bg_ir (t : Nat) (b : Bind) : (setBind s t b).bg.ir = s.bg.ir := rfl
@[simp] theorem setBind_bg_blkN (t : Nat) (b : Bind) : (setBind s t b).bg.blkN = s.bg.blkN := rfl
@[simp] theorem setBind_bg_blkP (t : Nat) (b : Bind) : (setBind s t b).bg.blkP = s.bg.blkP := rfl
@[simp] theorem setBind_bg_blkOwn (t : Nat) (b : Bind) : (setBind s t b).bg.blkOwn = s.bg.blkOwn := rfl
@[simp] theorem setBind_bg_blks (t : Nat) (b : Bind) : (setBind s t b).bg.blks = s.bg.blks := rfl
@[simp] theorem setBind_bg_ceil (t : Nat) (b : Bind) : (setBind s t b).bg.ceil = s.bg.ceil := rfl
@[simp] theorem setBind_bg_ceilAt (t : Nat) (b : Bind) : (setBind s t b).bg.ceilAt = s.bg.ceilAt := rfl
@[simp] theorem setBind_bg_stop (t : Nat) (b : Bind) : (setBind s t b).bg.stop = s.bg.stop := rfl
@[simp] theorem setBind_bg_usedNj (t : Nat) (b : Bind) : (setBind s t b).bg.usedNj = s.bg.usedNj := rfl
@[simp] theorem setBind_bg_allowNj (t : Nat) (b : Bind) : (setBind s t b).bg.allowNj = s.bg.allowNj := rfl
@[simp] theorem setBind_bg_minuteFrames (t : Nat) (b : Bind) : (setBind s t b).bg.minuteFrames = s.bg.minuteFrames := rfl
@[simp] theorem setBind_bg_minuteAt (t : Nat) (b : Bind) : (setBind s t b).bg.minuteAt = s.bg.minuteAt := rfl
@[simp] theorem setBind_bg_cap (t : Nat) (b : Bind) : (setBind s t b).bg.cap = s.bg.cap := rfl
@[simp] theorem setBind_bg_i10 (t : Nat) (b : Bind) : (setBind s t b).bg.i10 = s.bg.i10 := rfl
@[simp] theorem setBind_bg_edcSum (t : Nat) (b : Bind) : (setBind s t b).bg.edcSum = s.bg.edcSum := rfl
@[simp] theorem setBind_bg_edcW (t : Nat) (b : Bind) : (setBind s t b).bg.edcW = s.bg.edcW := rfl
@[simp] theorem setBind_bg_lw (t : Nat) (b : Bind) : (setBind s t b).bg.lw = s.bg.lw := rfl
@[simp] theorem setBind_bg_tod (t : Nat) (b : Bind) : (setBind s t b).bg.tod = s.bg.tod := rfl
@[simp] theorem setBind_bg_signWait (t : Nat) (b : Bind) : (setBind s t b).bg.signWait = s.bg.signWait := rfl
@[simp] theorem setBind_bg_energyNj (t : Nat) (b : Bind) : (setBind s t b).bg.energyNj = s.bg.energyNj := rfl
@[simp] theorem setBind_bg_unattrNj (t : Nat) (b : Bind) : (setBind s t b).bg.unattrNj = s.bg.unattrNj := rfl
@[simp] theorem setBind_bg_accts (t : Nat) (b : Bind) : (setBind s t b).bg.accts = s.bg.accts := rfl
@[simp] theorem setBind_bg_fetching (t : Nat) (b : Bind) : (setBind s t b).bg.fetching = s.bg.fetching := rfl
@[simp] theorem setBind_bg_fetchWait (t : Nat) (b : Bind) : (setBind s t b).bg.fetchWait = s.bg.fetchWait := rfl
@[simp] theorem setBind_bg_pendAcct (t : Nat) (b : Bind) : (setBind s t b).bg.pendAcct = s.bg.pendAcct := rfl
@[simp] theorem setBind_bg_leftLook (t : Nat) (b : Bind) : (setBind s t b).bg.leftLook = s.bg.leftLook := rfl
@[simp] theorem setBind_bg_flushes (t : Nat) (b : Bind) : (setBind s t b).bg.flushes = s.bg.flushes := rfl
@[simp] theorem setBind_bg_sec (t : Nat) (b : Bind) : (setBind s t b).bg.sec = s.bg.sec := rfl
@[simp] theorem setBind_bg_min_ (t : Nat) (b : Bind) : (setBind s t b).bg.min_ = s.bg.min_ := rfl
@[simp] theorem setBind_bg_secAt (t : Nat) (b : Bind) : (setBind s t b).bg.secAt = s.bg.secAt := rfl
@[simp] theorem setBind_bg_secs (t : Nat) (b : Bind) : (setBind s t b).bg.secs = s.bg.secs := rfl
@[simp] theorem setBind_bg_seqSec (t : Nat) (b : Bind) : (setBind s t b).bg.seqSec = s.bg.seqSec := rfl
@[simp] theorem setBind_bg_seqMin (t : Nat) (b : Bind) : (setBind s t b).bg.seqMin = s.bg.seqMin := rfl
@[simp] theorem setBind_bg_held (t : Nat) (b : Bind) : (setBind s t b).bg.held = s.bg.held := rfl
@[simp] theorem setBind_bg_rptOut (t : Nat) (b : Bind) : (setBind s t b).bg.rptOut = s.bg.rptOut := rfl
@[simp] theorem setBind_bg_rptProd (t : Nat) (b : Bind) : (setBind s t b).bg.rptProd = s.bg.rptProd := rfl
@[simp] theorem setBind_bg_lastEf (t : Nat) (b : Bind) : (setBind s t b).bg.lastEf = s.bg.lastEf := rfl
@[simp] theorem setBind_bg_critical (t : Nat) (b : Bind) : (setBind s t b).bg.critical = s.bg.critical := rfl
@[simp] theorem setBind_bg_giving (t : Nat) (b : Bind) : (setBind s t b).bg.giving = s.bg.giving := rfl
@[simp] theorem setBind_bg_pacing (t : Nat) (b : Bind) : (setBind s t b).bg.pacing = s.bg.pacing := rfl
@[simp] theorem setBind_bg_paceLevel (t : Nat) (b : Bind) : (setBind s t b).bg.paceLevel = s.bg.paceLevel := rfl
@[simp] theorem setBind_bg_view (t : Nat) (b : Bind) : (setBind s t b).bg.view = s.bg.view := rfl
@[simp] theorem setBind_bg_named (t : Nat) (b : Bind) : (setBind s t b).bg.named = s.bg.named := rfl
@[simp] theorem setBind_bg_acting (t : Nat) (b : Bind) : (setBind s t b).bg.acting = s.bg.acting := rfl
@[simp] theorem setBind_bg_nameRun (t : Nat) (b : Bind) : (setBind s t b).bg.nameRun = s.bg.nameRun := rfl
@[simp] theorem setBind_bg_endRun (t : Nat) (b : Bind) : (setBind s t b).bg.endRun = s.bg.endRun := rfl
@[simp] theorem setBind_bg_plan (t : Nat) (b : Bind) : (setBind s t b).bg.plan = s.bg.plan := rfl
@[simp] theorem setBind_bg_pendPlan (t : Nat) (b : Bind) : (setBind s t b).bg.pendPlan = s.bg.pendPlan := rfl
@[simp] theorem setBind_bg_planNow (t : Nat) (b : Bind) : (setBind s t b).bg.planNow = s.bg.planNow := rfl
@[simp] theorem setBind_bg_planInst (t : Nat) (b : Bind) : (setBind s t b).bg.planInst = s.bg.planInst := rfl
@[simp] theorem setBind_bg_down (t : Nat) (b : Bind) : (setBind s t b).bg.down = s.bg.down := rfl
@[simp] theorem setBind_bg_step (t : Nat) (b : Bind) : (setBind s t b).bg.step = s.bg.step := rfl
@[simp] theorem setBind_bg_broken (t : Nat) (b : Bind) : (setBind s t b).bg.broken = s.bg.broken := rfl
@[simp] theorem setBind_bg_acted (t : Nat) (b : Bind) : (setBind s t b).bg.acted = s.bg.acted := rfl
@[simp] theorem setBind_bg_shortRun (t : Nat) (b : Bind) : (setBind s t b).bg.shortRun = s.bg.shortRun := rfl
@[simp] theorem setBind_bg_upSince (t : Nat) (b : Bind) : (setBind s t b).bg.upSince = s.bg.upSince := rfl
@[simp] theorem setBind_bg_upOkSince (t : Nat) (b : Bind) : (setBind s t b).bg.upOkSince = s.bg.upOkSince := rfl
@[simp] theorem setBind_bg_exAt (t : Nat) (b : Bind) : (setBind s t b).bg.exAt = s.bg.exAt := rfl
@[simp] theorem setBind_bg_auditAt (t : Nat) (b : Bind) : (setBind s t b).bg.auditAt = s.bg.auditAt := rfl
@[simp] theorem setBind_bg_wbAt (t : Nat) (b : Bind) : (setBind s t b).bg.wbAt = s.bg.wbAt := rfl
@[simp] theorem setBind_bg_tx (t : Nat) (b : Bind) : (setBind s t b).bg.tx = s.bg.tx := rfl

/-! ## modLink -/

@[simp] theorem modLink_pending (k : Nat) (h : Link → Link) : (modLink s k h).pending = s.pending := rfl
@[simp] theorem modLink_build (k : Nat) (h : Link → Link) : (modLink s k h).build = s.build := rfl
@[simp] theorem modLink_now (k : Nat) (h : Link → Link) : (modLink s k h).now = s.now := rfl
@[simp] theorem modLink_free (k : Nat) (h : Link → Link) : (modLink s k h).free = s.free := rfl
@[simp] theorem modLink_regs (k : Nat) (h : Link → Link) : (modLink s k h).regs = s.regs := rfl
@[simp] theorem modLink_captured (k : Nat) (h : Link → Link) : (modLink s k h).captured = s.captured := rfl
@[simp] theorem modLink_pins (k : Nat) (h : Link → Link) : (modLink s k h).pins = s.pins := rfl
@[simp] theorem modLink_rs (k : Nat) (h : Link → Link) : (modLink s k h).rs = s.rs := rfl
@[simp] theorem modLink_tap (k : Nat) (h : Link → Link) : (modLink s k h).tap = s.tap := rfl
@[simp] theorem modLink_hap (k : Nat) (h : Link → Link) : (modLink s k h).hap = s.hap := rfl
@[simp] theorem modLink_hr (k : Nat) (h : Link → Link) : (modLink s k h).hr = s.hr := rfl
@[simp] theorem modLink_mb (k : Nat) (h : Link → Link) : (modLink s k h).mb = s.mb := rfl
@[simp] theorem modLink_tb (k : Nat) (h : Link → Link) : (modLink s k h).tb = s.tb := rfl
@[simp] theorem modLink_vfs (k : Nat) (h : Link → Link) : (modLink s k h).vfs = s.vfs := rfl
@[simp] theorem modLink_sa (k : Nat) (h : Link → Link) : (modLink s k h).sa = s.sa := rfl
@[simp] theorem modLink_be (k : Nat) (h : Link → Link) : (modLink s k h).be = s.be := rfl
@[simp] theorem modLink_pc (k : Nat) (h : Link → Link) : (modLink s k h).pc = s.pc := rfl
@[simp] theorem modLink_cc (k : Nat) (h : Link → Link) : (modLink s k h).cc = s.cc := rfl
@[simp] theorem modLink_mf (k : Nat) (h : Link → Link) : (modLink s k h).mf = s.mf := rfl
@[simp] theorem modLink_pb (k : Nat) (h : Link → Link) : (modLink s k h).pb = s.pb := rfl
@[simp] theorem modLink_th (k : Nat) (h : Link → Link) : (modLink s k h).th = s.th := rfl
@[simp] theorem modLink_du (k : Nat) (h : Link → Link) : (modLink s k h).du = s.du := rfl
@[simp] theorem modLink_sp (k : Nat) (h : Link → Link) : (modLink s k h).sp = s.sp := rfl
@[simp] theorem modLink_obs (k : Nat) (h : Link → Link) : (modLink s k h).obs = s.obs := rfl
@[simp] theorem modLink_bus (k : Nat) (h : Link → Link) : (modLink s k h).bus = s.bus := rfl
@[simp] theorem modLink_bg_formed (k : Nat) (h : Link → Link) : (modLink s k h).bg.formed = s.bg.formed := rfl
@[simp] theorem modLink_bg_orphan (k : Nat) (h : Link → Link) : (modLink s k h).bg.orphan = s.bg.orphan := rfl
@[simp] theorem modLink_bg_syncing (k : Nat) (h : Link → Link) : (modLink s k h).bg.syncing = s.bg.syncing := rfl
@[simp] theorem modLink_bg_ownFloor (k : Nat) (h : Link → Link) : (modLink s k h).bg.ownFloor = s.bg.ownFloor := rfl
@[simp] theorem modLink_bg_initial (k : Nat) (h : Link → Link) : (modLink s k h).bg.initial = s.bg.initial := rfl
@[simp] theorem modLink_bg_floor (k : Nat) (h : Link → Link) : (modLink s k h).bg.floor = s.bg.floor := rfl
@[simp] theorem modLink_bg_ceilC (k : Nat) (h : Link → Link) : (modLink s k h).bg.ceilC = s.bg.ceilC := rfl
@[simp] theorem modLink_bg_issued (k : Nat) (h : Link → Link) : (modLink s k h).bg.issued = s.bg.issued := rfl
@[simp] theorem modLink_bg_adjust (k : Nat) (h : Link → Link) : (modLink s k h).bg.adjust = s.bg.adjust := rfl
@[simp] theorem modLink_bg_own (k : Nat) (h : Link → Link) : (modLink s k h).bg.own = s.bg.own := rfl
@[simp] theorem modLink_bg_pool (k : Nat) (h : Link → Link) : (modLink s k h).bg.pool = s.bg.pool := rfl
@[simp] theorem modLink_bg_epoch (k : Nat) (h : Link → Link) : (modLink s k h).bg.epoch = s.bg.epoch := rfl
@[simp] theorem modLink_bg_audit (k : Nat) (h : Link → Link) : (modLink s k h).bg.audit = s.bg.audit := rfl
@[simp] theorem modLink_bg_auditOwn (k : Nat) (h : Link → Link) : (modLink s k h).bg.auditOwn = s.bg.auditOwn := rfl
@[simp] theorem modLink_bg_pf (k : Nat) (h : Link → Link) : (modLink s k h).bg.pf = s.bg.pf := rfl
@[simp] theorem modLink_bg_pfSum (k : Nat) (h : Link → Link) : (modLink s k h).bg.pfSum = s.bg.pfSum := rfl
@[simp] theorem modLink_bg_ir (k : Nat) (h : Link → Link) : (modLink s k h).bg.ir = s.bg.ir := rfl
@[simp] theorem modLink_bg_blkN (k : Nat) (h : Link → Link) : (modLink s k h).bg.blkN = s.bg.blkN := rfl
@[simp] theorem modLink_bg_blkP (k : Nat) (h : Link → Link) : (modLink s k h).bg.blkP = s.bg.blkP := rfl
@[simp] theorem modLink_bg_blkOwn (k : Nat) (h : Link → Link) : (modLink s k h).bg.blkOwn = s.bg.blkOwn := rfl
@[simp] theorem modLink_bg_blks (k : Nat) (h : Link → Link) : (modLink s k h).bg.blks = s.bg.blks := rfl
@[simp] theorem modLink_bg_ceil (k : Nat) (h : Link → Link) : (modLink s k h).bg.ceil = s.bg.ceil := rfl
@[simp] theorem modLink_bg_ceilAt (k : Nat) (h : Link → Link) : (modLink s k h).bg.ceilAt = s.bg.ceilAt := rfl
@[simp] theorem modLink_bg_stop (k : Nat) (h : Link → Link) : (modLink s k h).bg.stop = s.bg.stop := rfl
@[simp] theorem modLink_bg_usedNj (k : Nat) (h : Link → Link) : (modLink s k h).bg.usedNj = s.bg.usedNj := rfl
@[simp] theorem modLink_bg_allowNj (k : Nat) (h : Link → Link) : (modLink s k h).bg.allowNj = s.bg.allowNj := rfl
@[simp] theorem modLink_bg_minuteFrames (k : Nat) (h : Link → Link) : (modLink s k h).bg.minuteFrames = s.bg.minuteFrames := rfl
@[simp] theorem modLink_bg_minuteAt (k : Nat) (h : Link → Link) : (modLink s k h).bg.minuteAt = s.bg.minuteAt := rfl
@[simp] theorem modLink_bg_cap (k : Nat) (h : Link → Link) : (modLink s k h).bg.cap = s.bg.cap := rfl
@[simp] theorem modLink_bg_i10 (k : Nat) (h : Link → Link) : (modLink s k h).bg.i10 = s.bg.i10 := rfl
@[simp] theorem modLink_bg_edcSum (k : Nat) (h : Link → Link) : (modLink s k h).bg.edcSum = s.bg.edcSum := rfl
@[simp] theorem modLink_bg_edcW (k : Nat) (h : Link → Link) : (modLink s k h).bg.edcW = s.bg.edcW := rfl
@[simp] theorem modLink_bg_lw (k : Nat) (h : Link → Link) : (modLink s k h).bg.lw = s.bg.lw := rfl
@[simp] theorem modLink_bg_tod (k : Nat) (h : Link → Link) : (modLink s k h).bg.tod = s.bg.tod := rfl
@[simp] theorem modLink_bg_signWait (k : Nat) (h : Link → Link) : (modLink s k h).bg.signWait = s.bg.signWait := rfl
@[simp] theorem modLink_bg_energyNj (k : Nat) (h : Link → Link) : (modLink s k h).bg.energyNj = s.bg.energyNj := rfl
@[simp] theorem modLink_bg_unattrNj (k : Nat) (h : Link → Link) : (modLink s k h).bg.unattrNj = s.bg.unattrNj := rfl
@[simp] theorem modLink_bg_binds (k : Nat) (h : Link → Link) : (modLink s k h).bg.binds = s.bg.binds := rfl
@[simp] theorem modLink_bg_accts (k : Nat) (h : Link → Link) : (modLink s k h).bg.accts = s.bg.accts := rfl
@[simp] theorem modLink_bg_fetching (k : Nat) (h : Link → Link) : (modLink s k h).bg.fetching = s.bg.fetching := rfl
@[simp] theorem modLink_bg_fetchWait (k : Nat) (h : Link → Link) : (modLink s k h).bg.fetchWait = s.bg.fetchWait := rfl
@[simp] theorem modLink_bg_pendAcct (k : Nat) (h : Link → Link) : (modLink s k h).bg.pendAcct = s.bg.pendAcct := rfl
@[simp] theorem modLink_bg_leftLook (k : Nat) (h : Link → Link) : (modLink s k h).bg.leftLook = s.bg.leftLook := rfl
@[simp] theorem modLink_bg_flushes (k : Nat) (h : Link → Link) : (modLink s k h).bg.flushes = s.bg.flushes := rfl
@[simp] theorem modLink_bg_sec (k : Nat) (h : Link → Link) : (modLink s k h).bg.sec = s.bg.sec := rfl
@[simp] theorem modLink_bg_min_ (k : Nat) (h : Link → Link) : (modLink s k h).bg.min_ = s.bg.min_ := rfl
@[simp] theorem modLink_bg_secAt (k : Nat) (h : Link → Link) : (modLink s k h).bg.secAt = s.bg.secAt := rfl
@[simp] theorem modLink_bg_secs (k : Nat) (h : Link → Link) : (modLink s k h).bg.secs = s.bg.secs := rfl
@[simp] theorem modLink_bg_seqSec (k : Nat) (h : Link → Link) : (modLink s k h).bg.seqSec = s.bg.seqSec := rfl
@[simp] theorem modLink_bg_seqMin (k : Nat) (h : Link → Link) : (modLink s k h).bg.seqMin = s.bg.seqMin := rfl
@[simp] theorem modLink_bg_held (k : Nat) (h : Link → Link) : (modLink s k h).bg.held = s.bg.held := rfl
@[simp] theorem modLink_bg_rptOut (k : Nat) (h : Link → Link) : (modLink s k h).bg.rptOut = s.bg.rptOut := rfl
@[simp] theorem modLink_bg_rptProd (k : Nat) (h : Link → Link) : (modLink s k h).bg.rptProd = s.bg.rptProd := rfl
@[simp] theorem modLink_bg_lastEf (k : Nat) (h : Link → Link) : (modLink s k h).bg.lastEf = s.bg.lastEf := rfl
@[simp] theorem modLink_bg_critical (k : Nat) (h : Link → Link) : (modLink s k h).bg.critical = s.bg.critical := rfl
@[simp] theorem modLink_bg_giving (k : Nat) (h : Link → Link) : (modLink s k h).bg.giving = s.bg.giving := rfl
@[simp] theorem modLink_bg_pacing (k : Nat) (h : Link → Link) : (modLink s k h).bg.pacing = s.bg.pacing := rfl
@[simp] theorem modLink_bg_paceLevel (k : Nat) (h : Link → Link) : (modLink s k h).bg.paceLevel = s.bg.paceLevel := rfl
@[simp] theorem modLink_bg_view (k : Nat) (h : Link → Link) : (modLink s k h).bg.view = s.bg.view := rfl
@[simp] theorem modLink_bg_named (k : Nat) (h : Link → Link) : (modLink s k h).bg.named = s.bg.named := rfl
@[simp] theorem modLink_bg_acting (k : Nat) (h : Link → Link) : (modLink s k h).bg.acting = s.bg.acting := rfl
@[simp] theorem modLink_bg_nameRun (k : Nat) (h : Link → Link) : (modLink s k h).bg.nameRun = s.bg.nameRun := rfl
@[simp] theorem modLink_bg_endRun (k : Nat) (h : Link → Link) : (modLink s k h).bg.endRun = s.bg.endRun := rfl
@[simp] theorem modLink_bg_plan (k : Nat) (h : Link → Link) : (modLink s k h).bg.plan = s.bg.plan := rfl
@[simp] theorem modLink_bg_pendPlan (k : Nat) (h : Link → Link) : (modLink s k h).bg.pendPlan = s.bg.pendPlan := rfl
@[simp] theorem modLink_bg_planNow (k : Nat) (h : Link → Link) : (modLink s k h).bg.planNow = s.bg.planNow := rfl
@[simp] theorem modLink_bg_planInst (k : Nat) (h : Link → Link) : (modLink s k h).bg.planInst = s.bg.planInst := rfl
@[simp] theorem modLink_bg_down (k : Nat) (h : Link → Link) : (modLink s k h).bg.down = s.bg.down := rfl
@[simp] theorem modLink_bg_step (k : Nat) (h : Link → Link) : (modLink s k h).bg.step = s.bg.step := rfl
@[simp] theorem modLink_bg_broken (k : Nat) (h : Link → Link) : (modLink s k h).bg.broken = s.bg.broken := rfl
@[simp] theorem modLink_bg_acted (k : Nat) (h : Link → Link) : (modLink s k h).bg.acted = s.bg.acted := rfl
@[simp] theorem modLink_bg_shortRun (k : Nat) (h : Link → Link) : (modLink s k h).bg.shortRun = s.bg.shortRun := rfl
@[simp] theorem modLink_bg_upSince (k : Nat) (h : Link → Link) : (modLink s k h).bg.upSince = s.bg.upSince := rfl
@[simp] theorem modLink_bg_upOkSince (k : Nat) (h : Link → Link) : (modLink s k h).bg.upOkSince = s.bg.upOkSince := rfl
@[simp] theorem modLink_bg_exAt (k : Nat) (h : Link → Link) : (modLink s k h).bg.exAt = s.bg.exAt := rfl
@[simp] theorem modLink_bg_auditAt (k : Nat) (h : Link → Link) : (modLink s k h).bg.auditAt = s.bg.auditAt := rfl
@[simp] theorem modLink_bg_wbAt (k : Nat) (h : Link → Link) : (modLink s k h).bg.wbAt = s.bg.wbAt := rfl
@[simp] theorem modLink_bg_tx (k : Nat) (h : Link → Link) : (modLink s k h).bg.tx = s.bg.tx := rfl

/-! ## setWatch -/

@[simp] theorem setWatch_pending (w : Nat) (x : Watch) : (setWatch s w x).pending = s.pending := rfl
@[simp] theorem setWatch_build (w : Nat) (x : Watch) : (setWatch s w x).build = s.build := rfl
@[simp] theorem setWatch_now (w : Nat) (x : Watch) : (setWatch s w x).now = s.now := rfl
@[simp] theorem setWatch_free (w : Nat) (x : Watch) : (setWatch s w x).free = s.free := rfl
@[simp] theorem setWatch_regs (w : Nat) (x : Watch) : (setWatch s w x).regs = s.regs := rfl
@[simp] theorem setWatch_captured (w : Nat) (x : Watch) : (setWatch s w x).captured = s.captured := rfl
@[simp] theorem setWatch_pins (w : Nat) (x : Watch) : (setWatch s w x).pins = s.pins := rfl
@[simp] theorem setWatch_rs (w : Nat) (x : Watch) : (setWatch s w x).rs = s.rs := rfl
@[simp] theorem setWatch_tap (w : Nat) (x : Watch) : (setWatch s w x).tap = s.tap := rfl
@[simp] theorem setWatch_hap (w : Nat) (x : Watch) : (setWatch s w x).hap = s.hap := rfl
@[simp] theorem setWatch_hr (w : Nat) (x : Watch) : (setWatch s w x).hr = s.hr := rfl
@[simp] theorem setWatch_mb (w : Nat) (x : Watch) : (setWatch s w x).mb = s.mb := rfl
@[simp] theorem setWatch_tb (w : Nat) (x : Watch) : (setWatch s w x).tb = s.tb := rfl
@[simp] theorem setWatch_vfs (w : Nat) (x : Watch) : (setWatch s w x).vfs = s.vfs := rfl
@[simp] theorem setWatch_sa (w : Nat) (x : Watch) : (setWatch s w x).sa = s.sa := rfl
@[simp] theorem setWatch_be (w : Nat) (x : Watch) : (setWatch s w x).be = s.be := rfl
@[simp] theorem setWatch_pc (w : Nat) (x : Watch) : (setWatch s w x).pc = s.pc := rfl
@[simp] theorem setWatch_cc (w : Nat) (x : Watch) : (setWatch s w x).cc = s.cc := rfl
@[simp] theorem setWatch_mf (w : Nat) (x : Watch) : (setWatch s w x).mf = s.mf := rfl
@[simp] theorem setWatch_pb (w : Nat) (x : Watch) : (setWatch s w x).pb = s.pb := rfl
@[simp] theorem setWatch_th (w : Nat) (x : Watch) : (setWatch s w x).th = s.th := rfl
@[simp] theorem setWatch_bg (w : Nat) (x : Watch) : (setWatch s w x).bg = s.bg := rfl
@[simp] theorem setWatch_du (w : Nat) (x : Watch) : (setWatch s w x).du = s.du := rfl
@[simp] theorem setWatch_sp (w : Nat) (x : Watch) : (setWatch s w x).sp = s.sp := rfl
@[simp] theorem setWatch_bus (w : Nat) (x : Watch) : (setWatch s w x).bus = s.bus := rfl
@[simp] theorem setWatch_obs_ops (w : Nat) (x : Watch) : (setWatch s w x).obs.ops = s.obs.ops := rfl
@[simp] theorem setWatch_obs_idle (w : Nat) (x : Watch) : (setWatch s w x).obs.idle = s.obs.idle := rfl
@[simp] theorem setWatch_obs_lo (w : Nat) (x : Watch) : (setWatch s w x).obs.lo = s.obs.lo := rfl
@[simp] theorem setWatch_obs_other (w : Nat) (x : Watch) : (setWatch s w x).obs.other = s.obs.other := rfl
@[simp] theorem setWatch_obs_loFull (w : Nat) (x : Watch) : (setWatch s w x).obs.loFull = s.obs.loFull := rfl
@[simp] theorem setWatch_obs_loClr (w : Nat) (x : Watch) : (setWatch s w x).obs.loClr = s.obs.loClr := rfl
@[simp] theorem setWatch_obs_held (w : Nat) (x : Watch) : (setWatch s w x).obs.held = s.obs.held := rfl
@[simp] theorem setWatch_obs_marked (w : Nat) (x : Watch) : (setWatch s w x).obs.marked = s.obs.marked := rfl
@[simp] theorem setWatch_obs_timedKey (w : Nat) (x : Watch) : (setWatch s w x).obs.timedKey = s.obs.timedKey := rfl
@[simp] theorem setWatch_obs_marker (w : Nat) (x : Watch) : (setWatch s w x).obs.marker = s.obs.marker := rfl
@[simp] theorem setWatch_obs_frozenAt (w : Nat) (x : Watch) : (setWatch s w x).obs.frozenAt = s.obs.frozenAt := rfl
@[simp] theorem setWatch_obs_watchFrz (w : Nat) (x : Watch) : (setWatch s w x).obs.watchFrz = s.obs.watchFrz := rfl
@[simp] theorem setWatch_obs_snapDue (w : Nat) (x : Watch) : (setWatch s w x).obs.snapDue = s.obs.snapDue := rfl
@[simp] theorem setWatch_obs_snapCap (w : Nat) (x : Watch) : (setWatch s w x).obs.snapCap = s.obs.snapCap := rfl
@[simp] theorem setWatch_obs_snapAt (w : Nat) (x : Watch) : (setWatch s w x).obs.snapAt = s.obs.snapAt := rfl
@[simp] theorem setWatch_obs_snap (w : Nat) (x : Watch) : (setWatch s w x).obs.snap = s.obs.snap := rfl

/-! ## settle -/

@[simp] theorem settle_pending : (settle s).pending = s.pending := rfl
@[simp] theorem settle_build : (settle s).build = s.build := rfl
@[simp] theorem settle_now : (settle s).now = s.now := rfl
@[simp] theorem settle_free : (settle s).free = s.free := rfl
@[simp] theorem settle_regs : (settle s).regs = s.regs := rfl
@[simp] theorem settle_captured : (settle s).captured = s.captured := rfl
@[simp] theorem settle_rs : (settle s).rs = s.rs := rfl
@[simp] theorem settle_tap : (settle s).tap = s.tap := rfl
@[simp] theorem settle_hap : (settle s).hap = s.hap := rfl
@[simp] theorem settle_hr : (settle s).hr = s.hr := rfl
@[simp] theorem settle_mb : (settle s).mb = s.mb := rfl
@[simp] theorem settle_tb : (settle s).tb = s.tb := rfl
@[simp] theorem settle_vfs : (settle s).vfs = s.vfs := rfl
@[simp] theorem settle_sa : (settle s).sa = s.sa := rfl
@[simp] theorem settle_be : (settle s).be = s.be := rfl
@[simp] theorem settle_pc : (settle s).pc = s.pc := rfl
@[simp] theorem settle_cc : (settle s).cc = s.cc := rfl
@[simp] theorem settle_mf : (settle s).mf = s.mf := rfl
@[simp] theorem settle_pb : (settle s).pb = s.pb := rfl
@[simp] theorem settle_th : (settle s).th = s.th := rfl
@[simp] theorem settle_bg : (settle s).bg = s.bg := rfl
@[simp] theorem settle_du : (settle s).du = s.du := rfl
@[simp] theorem settle_sp : (settle s).sp = s.sp := rfl
@[simp] theorem settle_obs : (settle s).obs = s.obs := rfl
@[simp] theorem settle_bus : (settle s).bus = s.bus := rfl
@[simp] theorem settle_pins_vdd : (settle s).pins.vdd = s.pins.vdd := rfl
@[simp] theorem settle_pins_rstLow : (settle s).pins.rstLow = s.pins.rstLow := rfl
@[simp] theorem settle_pins_pwrgd : (settle s).pins.pwrgd = s.pins.pwrgd := rfl
@[simp] theorem settle_pins_flowOk : (settle s).pins.flowOk = s.pins.flowOk := rfl
@[simp] theorem settle_pins_brake : (settle s).pins.brake = s.pins.brake := rfl
@[simp] theorem settle_pins_vsel : (settle s).pins.vsel = s.pins.vsel := rfl
@[simp] theorem settle_pins_pmbAlert : (settle s).pins.pmbAlert = s.pins.pmbAlert := rfl
@[simp] theorem settle_pins_mirrorGstop : (settle s).pins.mirrorGstop = s.pins.mirrorGstop := rfl
@[simp] theorem settle_pins_thermtrip : (settle s).pins.thermtrip = s.pins.thermtrip := rfl
@[simp] theorem settle_pins_gstop : (settle s).pins.gstop = gstopHold s := rfl

/-! ## Reading back -/

@[simp] theorem tile_setTile_same (t : Nat) (x : Tile) : tile (setTile s t x) t = x := tget_tset_same _ _ _ _
theorem tile_setTile_ne {a b : Nat} (h : a ≠ b) (x : Tile) : tile (setTile s b x) a = tile s a := tget_tset_ne _ _ _ h x
@[simp] theorem rail_setRail_same (r : Nat) (x : Rail) : rail (setRail s r x) r = x := tget_tset_same _ _ _ _
theorem rail_setRail_ne {a b : Nat} (h : a ≠ b) (x : Rail) : rail (setRail s b x) a = rail s a := tget_tset_ne _ _ _ h x
@[simp] theorem port_setPort_same (p : Nat) (x : Port) : port (setPort s p x) p = x := tget_tset_same _ _ _ _
theorem port_setPort_ne {a b : Nat} (h : a ≠ b) (x : Port) : port (setPort s b x) a = port s a := tget_tset_ne _ _ _ h x
@[simp] theorem loop_setLoop_same (l : Nat) (x : Loop) : loop (setLoop s l x) l = x := tget_tset_same _ _ _ _
theorem loop_setLoop_ne {a b : Nat} (h : a ≠ b) (x : Loop) : loop (setLoop s b x) a = loop s a := tget_tset_ne _ _ _ h x
@[simp] theorem pg_setPg_same (p : Nat) (x : Pg) : pg (setPg s p x) p = x := tget_tset_same _ _ _ _
theorem pg_setPg_ne {a b : Nat} (h : a ≠ b) (x : Pg) : pg (setPg s b x) a = pg s a := tget_tset_ne _ _ _ h x
@[simp] theorem vfsRail_setVfs_same (r : Nat) (x : VfsRail) : vfsRail (setVfs s r x) r = x := tget_tset_same _ _ _ _
theorem vfsRail_setVfs_ne {a b : Nat} (h : a ≠ b) (x : VfsRail) : vfsRail (setVfs s b x) a = vfsRail s a := tget_tset_ne _ _ _ h x
@[simp] theorem ring_setRing_same (n : Nat) (x : Ring) : ring (setRing s n x) n = x := tget_tset_same _ _ _ _
theorem ring_setRing_ne {a b : Nat} (h : a ≠ b) (x : Ring) : ring (setRing s b x) a = ring s a := tget_tset_ne _ _ _ h x
@[simp] theorem mbox_setMbox_same (c : Nat) (x : Mbox) : mbox (setMbox s c x) c = x := tget_tset_same _ _ _ _
theorem mbox_setMbox_ne {a b : Nat} (h : a ≠ b) (x : Mbox) : mbox (setMbox s b x) a = mbox s a := tget_tset_ne _ _ _ h x
@[simp] theorem timer_setTimer_same (k : Nat) (x : Option Timer) : timer (setTimer s k x) k = x := tget_tset_same _ _ _ _
theorem timer_setTimer_ne {a b : Nat} (h : a ≠ b) (x : Option Timer) : timer (setTimer s b x) a = timer s a := tget_tset_ne _ _ _ h x
@[simp] theorem core_setCore_same (k : Nat) (x : FwCore) : core (setCore s k x) k = x := tget_tset_same _ _ _ _
theorem core_setCore_ne {a b : Nat} (h : a ≠ b) (x : FwCore) : core (setCore s b x) a = core s a := tget_tset_ne _ _ _ h x
@[simp] theorem tcore_setTcore_same (t : Nat) (x : FwCore) : tcore (setTcore s t x) t = x := tget_tset_same _ _ _ _
theorem tcore_setTcore_ne {a b : Nat} (h : a ≠ b) (x : FwCore) : tcore (setTcore s b x) a = tcore s a := tget_tset_ne _ _ _ h x
@[simp] theorem sns_setSns_same (n : Nat) (x : Sns) : sns (setSns s n x) n = x := tget_tset_same _ _ _ _
theorem sns_setSns_ne {a b : Nat} (h : a ≠ b) (x : Sns) : sns (setSns s b x) a = sns s a := tget_tset_ne _ _ _ h x
@[simp] theorem thCeil_setThCeil_same (t : Nat) (x : ThCeil) : thCeil (setThCeil s t x) t = x := tget_tset_same _ _ _ _
theorem thCeil_setThCeil_ne {a b : Nat} (h : a ≠ b) (x : ThCeil) : thCeil (setThCeil s b x) a = thCeil s a := tget_tset_ne _ _ _ h x
@[simp] theorem bin_setBin_same (k : Nat) (x : Bin) : bin (setBin s k x) k = x := tget_tset_same _ _ _ _
theorem bin_setBin_ne {a b : Nat} (h : a ≠ b) (x : Bin) : bin (setBin s b x) a = bin s a := tget_tset_ne _ _ _ h x
@[simp] theorem bind_setBind_same (t : Nat) (x : Bind) : Machine.bind (setBind s t x) t = x := tget_tset_same _ _ _ _
theorem bind_setBind_ne {a b : Nat} (h : a ≠ b) (x : Bind) : Machine.bind (setBind s b x) a = Machine.bind s a := tget_tset_ne _ _ _ h x
@[simp] theorem watch_setWatch_same (w : Nat) (x : Watch) : watch (setWatch s w x) w = x := tget_tset_same _ _ _ _
theorem watch_setWatch_ne {a b : Nat} (h : a ≠ b) (x : Watch) : watch (setWatch s b x) a = watch s a := tget_tset_ne _ _ _ h x

/-- The place of a field among the stored ones. -/
def Fld.key (f : Fld) : Nat := 32 * f.off + f.lo

@[simp] theorem getF_setF_same (f : Fld) (v : Nat) : getF (setF s f v) f = v % 2 ^ f.w := tget_tset_same _ _ _ _
/-- A write of one field leaves every other field. -/
theorem getF_setF_ne {f g : Fld} (h : g.key ≠ f.key) (v : Nat) : getF (setF s f v) g = getF s g := tget_tset_ne _ _ _ h _

@[simp] theorem getF_bumpFree (f : Fld) : getF (bumpFree s) f = getF s f := rfl
@[simp] theorem getF_setVfs (r : Nat) (x : VfsRail) (f : Fld) : getF (setVfs s r x) f = getF s f := rfl
@[simp] theorem getF_setMbox (c : Nat) (x : Mbox) (f : Fld) : getF (setMbox s c x) f = getF s f := rfl
@[simp] theorem getF_setTile (t : Nat) (x : Tile) (f : Fld) : getF (setTile s t x) f = getF s f := rfl
@[simp] theorem getF_setRail (r : Nat) (x : Rail) (f : Fld) : getF (setRail s r x) f = getF s f := rfl
@[simp] theorem getF_setPort (p : Nat) (x : Port) (f : Fld) : getF (setPort s p x) f = getF s f := rfl
@[simp] theorem getF_setLoop (l : Nat) (x : Loop) (f : Fld) : getF (setLoop s l x) f = getF s f := rfl
@[simp] theorem getF_setPg (p : Nat) (x : Pg) (f : Fld) : getF (setPg s p x) f = getF s f := rfl
@[simp] theorem getF_setRing (n : Nat) (x : Ring) (f : Fld) : getF (setRing s n x) f = getF s f := rfl
@[simp] theorem getF_setTimer (k : Nat) (x : Option Timer) (f : Fld) : getF (setTimer s k x) f = getF s f := rfl
@[simp] theorem getF_setCore (k : Nat) (c : FwCore) (f : Fld) : getF (setCore s k c) f = getF s f := rfl
@[simp] theorem getF_setTcore (t : Nat) (c : FwCore) (f : Fld) : getF (setTcore s t c) f = getF s f := rfl
@[simp] theorem getF_setSns (n : Nat) (x : Sns) (f : Fld) : getF (setSns s n x) f = getF s f := rfl
@[simp] theorem getF_setThCeil (t : Nat) (c : ThCeil) (f : Fld) : getF (setThCeil s t c) f = getF s f := rfl
@[simp] theorem getF_setBin (k : Nat) (b : Bin) (f : Fld) : getF (setBin s k b) f = getF s f := rfl
@[simp] theorem getF_setRailJob (old new : RailJob) (f : Fld) : getF (setRailJob s old new) f = getF s f := rfl
@[simp] theorem getF_setRst (t : Nat) (x : Option TileRst) (f : Fld) : getF (setRst s t x) f = getF s f := rfl
@[simp] theorem getF_setWave (old new : WaveJob) (f : Fld) : getF (setWave s old new) f = getF s f := rfl
@[simp] theorem getF_setBind (t : Nat) (b : Bind) (f : Fld) : getF (setBind s t b) f = getF s f := rfl
@[simp] theorem getF_modLink (k : Nat) (h : Link → Link) (f : Fld) : getF (modLink s k h) f = getF s f := rfl
@[simp] theorem getF_setWatch (w : Nat) (x : Watch) (f : Fld) : getF (setWatch s w x) f = getF s f := rfl
@[simp] theorem getF_settle (f : Fld) : getF (settle s) f = getF s f := rfl

/-- Two states with equal fields are equal. -/
@[ext] theorem State.ext_fields {s t : State} (h_pending : s.pending = t.pending) (h_build : s.build = t.build) (h_now : s.now = t.now) (h_free : s.free = t.free) (h_regs : s.regs = t.regs) (h_captured : s.captured = t.captured) (h_pins : s.pins = t.pins) (h_rs : s.rs = t.rs) (h_tap : s.tap = t.tap) (h_hap : s.hap = t.hap) (h_hr : s.hr = t.hr) (h_mb : s.mb = t.mb) (h_tb : s.tb = t.tb) (h_vfs : s.vfs = t.vfs) (h_sa : s.sa = t.sa) (h_be : s.be = t.be) (h_pc : s.pc = t.pc) (h_cc : s.cc = t.cc) (h_mf : s.mf = t.mf) (h_pb : s.pb = t.pb) (h_th : s.th = t.th) (h_bg : s.bg = t.bg) (h_du : s.du = t.du) (h_sp : s.sp = t.sp) (h_obs : s.obs = t.obs) (h_bus : s.bus = t.bus) : s = t := by
  cases s; cases t; simp only [State.mk.injEq] at *; exact ⟨h_pending, h_build, h_now, h_free, h_regs, h_captured, h_pins, h_rs, h_tap, h_hap, h_hr, h_mb, h_tb, h_vfs, h_sa, h_be, h_pc, h_cc, h_mf, h_pb, h_th, h_bg, h_du, h_sp, h_obs, h_bus⟩

end Sys2Proof.Machine
end

