-- ==== Sys2Proof/Laws/Grants.lean ====
section
/-! SUPPORT. What the grants of tile agents may change: the tile agents, the accounts and forecasts that grants are counted to, and
nothing else. -/

namespace Sys2Proof.Machine

/-- Only the credit controller, the accounts and the forecasts may differ. -/
def GrantsOnly (s t : State) : Prop := t = { s with cc := t.cc, bg := t.bg, pb := t.pb }

theorem GrantsOnly.refl (s : State) : GrantsOnly s s := rfl

theorem GrantsOnly.trans {s t u : State} (h : GrantsOnly s t) (k : GrantsOnly t u) : GrantsOnly s u := by
  unfold GrantsOnly at *
  rw [k, h]

theorem GrantsOnly.foldl {β : Type} {f : State → β → State} (h : ∀ s b, GrantsOnly s (f s b)) (l : List β) (s : State) :
    GrantsOnly s (l.foldl f s) := by
  induction l generalizing s with
  | nil => exact GrantsOnly.refl s
  | cons b l ih => exact (h s b).trans (ih (f s b))

theorem setTile_grantsOnly (s : State) (t : Nat) (x : Tile) : GrantsOnly s (setTile s t x) := rfl

theorem addAcct_grantsOnly (s : State) (t nj n : Nat) : GrantsOnly s (addAcct s t nj n) := by
  unfold addAcct
  dsimp only
  split
  · split <;> rfl
  · split <;> rfl

theorem grantScan_grantsOnly (s : State) (t : Nat) : GrantsOnly s (grantScan s t) := by
  unfold grantScan
  generalize hc : (List.map (fun k => ((tile s t).last + 1 + k) % 64) (List.range 64)).foldl (scanEngine s) { x := tile s t } = c
  dsimp only
  split
  · exact setTile_grantsOnly s t _
  · split
    · exact setTile_grantsOnly s t _
    · exact (setTile_grantsOnly s t _).trans (addAcct_grantsOnly _ t 0 _)

theorem grantCycles_grantsOnly (t n : Nat) (l : List Nat) (s : State) : GrantsOnly s (grantCycles t n l s) := by
  induction n generalizing l s with
  | zero => exact setTile_grantsOnly s t _
  | succ n ih =>
    unfold grantCycles
    dsimp only
    split
    · exact (grantScan_grantsOnly s t).trans (setTile_grantsOnly _ t _)
    · exact (grantScan_grantsOnly s t).trans (ih _ _)

theorem grantRun_grantsOnly (s : State) (t : Nat) : GrantsOnly s (grantRun s t) := grantCycles_grantsOnly t 9 [] s

/-- The grants of every tile agent change only the tile agents, the accounts and the forecasts. -/
theorem grantTiles_grantsOnly (s : State) : GrantsOnly s (grantTiles s) := by
  unfold grantTiles
  generalize s.cc.tiles.filter (fun p => !(waiting p.2).isEmpty) = l
  exact GrantsOnly.foldl (f := fun s (p : Nat × Tile) => grantRun s p.1) (fun s p => grantRun_grantsOnly s p.1) l s

@[simp] theorem grantTiles_pending (s : State) : (grantTiles s).pending = s.pending := by rw [grantTiles_grantsOnly s]
@[simp] theorem grantTiles_build (s : State) : (grantTiles s).build = s.build := by rw [grantTiles_grantsOnly s]
@[simp] theorem grantTiles_now (s : State) : (grantTiles s).now = s.now := by rw [grantTiles_grantsOnly s]
@[simp] theorem grantTiles_free (s : State) : (grantTiles s).free = s.free := by rw [grantTiles_grantsOnly s]
@[simp] theorem grantTiles_regs (s : State) : (grantTiles s).regs = s.regs := by rw [grantTiles_grantsOnly s]
@[simp] theorem grantTiles_captured (s : State) : (grantTiles s).captured = s.captured := by rw [grantTiles_grantsOnly s]
@[simp] theorem grantTiles_pins (s : State) : (grantTiles s).pins = s.pins := by rw [grantTiles_grantsOnly s]
@[simp] theorem grantTiles_rs (s : State) : (grantTiles s).rs = s.rs := by rw [grantTiles_grantsOnly s]
@[simp] theorem grantTiles_tap (s : State) : (grantTiles s).tap = s.tap := by rw [grantTiles_grantsOnly s]
@[simp] theorem grantTiles_hap (s : State) : (grantTiles s).hap = s.hap := by rw [grantTiles_grantsOnly s]
@[simp] theorem grantTiles_hr (s : State) : (grantTiles s).hr = s.hr := by rw [grantTiles_grantsOnly s]
@[simp] theorem grantTiles_mb (s : State) : (grantTiles s).mb = s.mb := by rw [grantTiles_grantsOnly s]
@[simp] theorem grantTiles_tb (s : State) : (grantTiles s).tb = s.tb := by rw [grantTiles_grantsOnly s]
@[simp] theorem grantTiles_vfs (s : State) : (grantTiles s).vfs = s.vfs := by rw [grantTiles_grantsOnly s]
@[simp] theorem grantTiles_sa (s : State) : (grantTiles s).sa = s.sa := by rw [grantTiles_grantsOnly s]
@[simp] theorem grantTiles_be (s : State) : (grantTiles s).be = s.be := by rw [grantTiles_grantsOnly s]
@[simp] theorem grantTiles_pc (s : State) : (grantTiles s).pc = s.pc := by rw [grantTiles_grantsOnly s]
@[simp] theorem grantTiles_mf (s : State) : (grantTiles s).mf = s.mf := by rw [grantTiles_grantsOnly s]
@[simp] theorem grantTiles_th (s : State) : (grantTiles s).th = s.th := by rw [grantTiles_grantsOnly s]
@[simp] theorem grantTiles_du (s : State) : (grantTiles s).du = s.du := by rw [grantTiles_grantsOnly s]
@[simp] theorem grantTiles_sp (s : State) : (grantTiles s).sp = s.sp := by rw [grantTiles_grantsOnly s]
@[simp] theorem grantTiles_obs (s : State) : (grantTiles s).obs = s.obs := by rw [grantTiles_grantsOnly s]
@[simp] theorem grantTiles_bus (s : State) : (grantTiles s).bus = s.bus := by rw [grantTiles_grantsOnly s]
@[simp] theorem grantTiles_getF (s : State) (f : Fld) : getF (grantTiles s) f = getF s f := by simp [getF]

/-- A command that may lift a stop of grants goes on. -/
@[simp] theorem finishGrants_eq (s : State) : finishGrants s = .next (grantTiles (settle s)) := rfl

end Sys2Proof.Machine
end

