-- ==== Sys2Proof/Laws/Ops.lean ====
section
/-! SUPPORT. What master requests, events and completions may change: the Host Access Port, the host rings, the free values and
the stored registers, and nothing else. -/

namespace Sys2Proof.Machine

/-- Nothing differs but the Host Access Port, the host rings, the free-value counter and the stored registers. -/
def HostOnly (s t : State) : Prop := t = { s with hap := t.hap, hr := t.hr, free := t.free, regs := t.regs }

theorem HostOnly.refl (s : State) : HostOnly s s := rfl

theorem HostOnly.trans {s t u : State} (h : HostOnly s t) (k : HostOnly t u) : HostOnly s u := by
  unfold HostOnly at *; rw [k, h]

/-- Both ways of an if. -/
theorem HostOnly.ite {c : Prop} [Decidable c] {s t u : State} (h : HostOnly s t) (k : HostOnly s u) :
    HostOnly s (if c then t else u) := by
  split
  · exact h
  · exact k

/-- A fold whose every step changes no more. -/
theorem HostOnly.foldl {β : Type} {f : State → β → State} (h : ∀ s b, HostOnly s (f s b)) (l : List β) (s : State) :
    HostOnly s (l.foldl f s) := by
  induction l generalizing s with
  | nil => exact HostOnly.refl s
  | cons b l ih => exact (h s b).trans (ih (f s b))

theorem HostOnly.pending {s t : State} (h : HostOnly s t) : t.pending = s.pending := by rw [h]
theorem HostOnly.build {s t : State} (h : HostOnly s t) : t.build = s.build := by rw [h]
theorem HostOnly.now {s t : State} (h : HostOnly s t) : t.now = s.now := by rw [h]
theorem HostOnly.captured {s t : State} (h : HostOnly s t) : t.captured = s.captured := by rw [h]
theorem HostOnly.pins {s t : State} (h : HostOnly s t) : t.pins = s.pins := by rw [h]
theorem HostOnly.rs {s t : State} (h : HostOnly s t) : t.rs = s.rs := by rw [h]
theorem HostOnly.tap {s t : State} (h : HostOnly s t) : t.tap = s.tap := by rw [h]
theorem HostOnly.mb {s t : State} (h : HostOnly s t) : t.mb = s.mb := by rw [h]
theorem HostOnly.tb {s t : State} (h : HostOnly s t) : t.tb = s.tb := by rw [h]
theorem HostOnly.vfs {s t : State} (h : HostOnly s t) : t.vfs = s.vfs := by rw [h]
theorem HostOnly.sa {s t : State} (h : HostOnly s t) : t.sa = s.sa := by rw [h]
theorem HostOnly.be {s t : State} (h : HostOnly s t) : t.be = s.be := by rw [h]
theorem HostOnly.pc {s t : State} (h : HostOnly s t) : t.pc = s.pc := by rw [h]
theorem HostOnly.cc {s t : State} (h : HostOnly s t) : t.cc = s.cc := by rw [h]
theorem HostOnly.mf {s t : State} (h : HostOnly s t) : t.mf = s.mf := by rw [h]
theorem HostOnly.pb {s t : State} (h : HostOnly s t) : t.pb = s.pb := by rw [h]
theorem HostOnly.th {s t : State} (h : HostOnly s t) : t.th = s.th := by rw [h]
theorem HostOnly.bg {s t : State} (h : HostOnly s t) : t.bg = s.bg := by rw [h]
theorem HostOnly.du {s t : State} (h : HostOnly s t) : t.du = s.du := by rw [h]
theorem HostOnly.sp {s t : State} (h : HostOnly s t) : t.sp = s.sp := by rw [h]
theorem HostOnly.obs {s t : State} (h : HostOnly s t) : t.obs = s.obs := by rw [h]
theorem HostOnly.bus {s t : State} (h : HostOnly s t) : t.bus = s.bus := by rw [h]

/-! ## Each operation -/

theorem setF_hostOnly (s : State) (f : Fld) (v : Nat) : HostOnly s (setF s f v) := rfl
theorem incSat_hostOnly (s : State) (f : Fld) : HostOnly s (incSat s f) := rfl
theorem addSat_hostOnly (s : State) (f : Fld) (n : Nat) : HostOnly s (addSat s f n) := rfl
theorem chkCorr_hostOnly (s : State) : HostOnly s (chkCorr s) := rfl
theorem bumpFree_hostOnly (s : State) : HostOnly s (bumpFree s) := rfl
theorem setRing_hostOnly (s : State) (n : Nat) (x : Ring) : HostOnly s (setRing s n x) := rfl
theorem setJob_hostOnly (s : State) (f : Flight) (j : Job) : HostOnly s (setJob s f j) := rfl
theorem issueNow_hostOnly (s : State) (r : MReq) : HostOnly s (issueNow s r) := rfl

theorem setWait_hostOnly (s : State) (w : List MReq) : HostOnly s { s with hap.wait := w } := rfl

theorem hapPump_hostOnly (s : State) : HostOnly s (hapPump s) :=
  (setWait_hostOnly s []).trans (HostOnly.foldl (fun s r => HostOnly.ite (issueNow_hostOnly s r) (setWait_hostOnly s _)) _ _)

theorem hapReq_hostOnly (s : State) (w : Bool) (a b c : Nat) (e : Bool) (d : List Byte) (p : Purpose) :
    HostOnly s (hapReq s w a b c e d p) := HostOnly.trans (by exact rfl) (hapPump_hostOnly _)

theorem putEvent_hostOnly (s : State) (e : Event) : HostOnly s (putEvent s e) := HostOnly.trans (by exact rfl) (hapReq_hostOnly ..)

theorem flushOne_hostOnly (s : State) : HostOnly s (flushOne s) := by
  unfold flushOne
  split
  · exact HostOnly.ite (HostOnly.trans (by exact rfl) (putEvent_hostOnly ..)) (HostOnly.refl _)
  · exact HostOnly.refl _

theorem flushEvents_hostOnly (s : State) : HostOnly s (flushEvents s) :=
  (HostOnly.foldl (fun s _ => flushOne_hostOnly s) (List.range s.hr.evHeld.length) s).trans
    (HostOnly.ite (HostOnly.trans (by exact rfl) (putEvent_hostOnly ..)) (HostOnly.refl _))

/-- An event changes nothing but the host side: it is written, held, or discarded and counted. -/
theorem raiseEvent_hostOnly (s : State) (c k u : Nat) (d : List Byte) : HostOnly s (raiseEvent s c k u d) :=
  HostOnly.ite (HostOnly.trans (by exact rfl) (flushEvents_hostOnly _)) (by exact rfl)

theorem putTel_hostOnly (s : State) (e : Event) : HostOnly s (putTel s e) :=
  HostOnly.ite (HostOnly.trans (by exact rfl) (hapReq_hostOnly ..))
    (HostOnly.trans (incSat_hostOnly s _) (HostOnly.ite (HostOnly.refl _) (HostOnly.trans (by exact rfl) (raiseEvent_hostOnly ..))))

theorem hapErr_hostOnly (s : State) (f : Fld) (b : Nat) (k : Bool) (a t st : Nat) : HostOnly s (hapErr s f b k a t st) :=
  HostOnly.trans (HostOnly.ite (HostOnly.trans (setF_hostOnly ..) (setF_hostOnly ..)) (HostOnly.refl _))
    (HostOnly.ite (HostOnly.refl _) (HostOnly.trans (setF_hostOnly ..) (raiseEvent_hostOnly ..)))

theorem hapFail_hostOnly (s : State) (a t st : Nat) : HostOnly s (hapFail s a t st) :=
  HostOnly.ite (hapErr_hostOnly ..) (HostOnly.ite (hapErr_hostOnly ..) (HostOnly.ite (hapErr_hostOnly ..)
    (HostOnly.ite (HostOnly.refl _) (hapErr_hostOnly ..))))

theorem hrErr_hostOnly (s : State) (f : Fld) (n : Option Nat) : HostOnly s (hrErr s f n) := by
  refine HostOnly.trans ?_ (setF_hostOnly _ f 1)
  split
  · exact HostOnly.ite (setF_hostOnly ..) (HostOnly.refl _)
  · exact HostOnly.refl _

theorem ringIdle_hostOnly (s : State) (n : Nat) : HostOnly s (ringIdle s n) := HostOnly.ite (by exact rfl) (HostOnly.refl _)

theorem putCpl_hostOnly (s : State) (n slot tag st d : Nat) : HostOnly s (putCpl s n slot tag st d) :=
  HostOnly.ite (by exact rfl) (HostOnly.ite (by exact rfl) (HostOnly.trans (setRing_hostOnly ..) (hapReq_hostOnly ..)))

theorem formCpl_hostOnly (s : State) (n slot tag st d : Nat) : HostOnly s (formCpl s n slot tag st d) :=
  HostOnly.ite (by exact rfl) (putCpl_hostOnly ..)

/-- A completion changes nothing but the host side. -/
theorem complete_hostOnly (s : State) (f : Flight) (st d : Nat) : HostOnly s (complete s f st d) :=
  HostOnly.trans (by exact rfl) ((formCpl_hostOnly ..).trans (ringIdle_hostOnly ..))

theorem completeKey_hostOnly (s : State) (k st d : Nat) : HostOnly s (completeKey s k st d) := by
  unfold completeKey
  split
  · exact complete_hostOnly ..
  · exact HostOnly.refl _

theorem completeOpt_hostOnly (s : State) (k : Option Nat) (st d : Nat) : HostOnly s (completeOpt s k st d) := by
  unfold completeOpt
  split
  · exact completeKey_hostOnly ..
  · exact HostOnly.refl _

theorem fetchMore_hostOnly (s : State) (n : Nat) : HostOnly s (fetchMore s n) :=
  HostOnly.ite (HostOnly.trans (setRing_hostOnly ..) (hapReq_hostOnly ..)) (HostOnly.refl _)

/-- Taking a descriptor changes nothing but the host side. -/
theorem takeHead_hostOnly (s : State) (n : Nat) (d : List Byte) (j : Job) : HostOnly s (takeHead s n d j).1 :=
  HostOnly.trans (by exact rfl) (fetchMore_hostOnly ..)

theorem readCorr_hostOnly (b : Bool) (s : State) : HostOnly s (readCorr b s) := HostOnly.ite (chkCorr_hostOnly s) (HostOnly.refl _)

theorem loadReads_hostOnly (s : State) (f : Flight) (a n c : Nat) : HostOnly s (loadReads s f a n c) :=
  HostOnly.trans (by exact rfl) (HostOnly.foldl (fun _ _ => by exact rfl) _ _)

/-- The reading of a structure in memory changes nothing but the host side. -/
theorem readDone_hostOnly (b : Bool) (s : State) (f : Flight) (a n c : Nat) : HostOnly s (readDone b s f a n c) :=
  (loadReads_hostOnly ..).trans (readCorr_hostOnly ..)

theorem readFailAt_hostOnly (k : Nat) (s : State) (f : Flight) (a n c st : Nat) : HostOnly s (readFailAt k s f a n c st) := by
  refine (loadReads_hostOnly s f a n c).trans (HostOnly.trans ?_ (complete_hostOnly ..))
  refine HostOnly.trans ?_ (hapFail_hostOnly ..)
  split
  · exact rfl
  · exact HostOnly.refl _

theorem readFail_hostOnly (s : State) (f : Flight) (a n c st : Nat) : HostOnly s (readFail s f a n c st) :=
  HostOnly.trans (bumpFree_hostOnly s) (readFailAt_hostOnly ..)

/-! ## As simplifications -/

@[simp] theorem hapPump_pending (s : State) : (hapPump s).pending = s.pending := (hapPump_hostOnly s).pending
@[simp] theorem hapPump_build (s : State) : (hapPump s).build = s.build := (hapPump_hostOnly s).build
@[simp] theorem hapPump_now (s : State) : (hapPump s).now = s.now := (hapPump_hostOnly s).now
@[simp] theorem hapPump_captured (s : State) : (hapPump s).captured = s.captured := (hapPump_hostOnly s).captured
@[simp] theorem hapPump_pins (s : State) : (hapPump s).pins = s.pins := (hapPump_hostOnly s).pins
@[simp] theorem hapPump_rs (s : State) : (hapPump s).rs = s.rs := (hapPump_hostOnly s).rs
@[simp] theorem hapPump_tap (s : State) : (hapPump s).tap = s.tap := (hapPump_hostOnly s).tap
@[simp] theorem hapPump_mb (s : State) : (hapPump s).mb = s.mb := (hapPump_hostOnly s).mb
@[simp] theorem hapPump_tb (s : State) : (hapPump s).tb = s.tb := (hapPump_hostOnly s).tb
@[simp] theorem hapPump_vfs (s : State) : (hapPump s).vfs = s.vfs := (hapPump_hostOnly s).vfs
@[simp] theorem hapPump_sa (s : State) : (hapPump s).sa = s.sa := (hapPump_hostOnly s).sa
@[simp] theorem hapPump_be (s : State) : (hapPump s).be = s.be := (hapPump_hostOnly s).be
@[simp] theorem hapPump_pc (s : State) : (hapPump s).pc = s.pc := (hapPump_hostOnly s).pc
@[simp] theorem hapPump_cc (s : State) : (hapPump s).cc = s.cc := (hapPump_hostOnly s).cc
@[simp] theorem hapPump_mf (s : State) : (hapPump s).mf = s.mf := (hapPump_hostOnly s).mf
@[simp] theorem hapPump_pb (s : State) : (hapPump s).pb = s.pb := (hapPump_hostOnly s).pb
@[simp] theorem hapPump_th (s : State) : (hapPump s).th = s.th := (hapPump_hostOnly s).th
@[simp] theorem hapPump_bg (s : State) : (hapPump s).bg = s.bg := (hapPump_hostOnly s).bg
@[simp] theorem hapPump_du (s : State) : (hapPump s).du = s.du := (hapPump_hostOnly s).du
@[simp] theorem hapPump_sp (s : State) : (hapPump s).sp = s.sp := (hapPump_hostOnly s).sp
@[simp] theorem hapPump_obs (s : State) : (hapPump s).obs = s.obs := (hapPump_hostOnly s).obs
@[simp] theorem hapPump_bus (s : State) : (hapPump s).bus = s.bus := (hapPump_hostOnly s).bus

@[simp] theorem hapReq_pending (s : State) (w : Bool) (a b c : Nat) (e : Bool) (d : List Byte) (p : Purpose) : (hapReq s w a b c e d p).pending = s.pending := (hapReq_hostOnly s w a b c e d p).pending
@[simp] theorem hapReq_build (s : State) (w : Bool) (a b c : Nat) (e : Bool) (d : List Byte) (p : Purpose) : (hapReq s w a b c e d p).build = s.build := (hapReq_hostOnly s w a b c e d p).build
@[simp] theorem hapReq_now (s : State) (w : Bool) (a b c : Nat) (e : Bool) (d : List Byte) (p : Purpose) : (hapReq s w a b c e d p).now = s.now := (hapReq_hostOnly s w a b c e d p).now
@[simp] theorem hapReq_captured (s : State) (w : Bool) (a b c : Nat) (e : Bool) (d : List Byte) (p : Purpose) : (hapReq s w a b c e d p).captured = s.captured := (hapReq_hostOnly s w a b c e d p).captured
@[simp] theorem hapReq_pins (s : State) (w : Bool) (a b c : Nat) (e : Bool) (d : List Byte) (p : Purpose) : (hapReq s w a b c e d p).pins = s.pins := (hapReq_hostOnly s w a b c e d p).pins
@[simp] theorem hapReq_rs (s : State) (w : Bool) (a b c : Nat) (e : Bool) (d : List Byte) (p : Purpose) : (hapReq s w a b c e d p).rs = s.rs := (hapReq_hostOnly s w a b c e d p).rs
@[simp] theorem hapReq_tap (s : State) (w : Bool) (a b c : Nat) (e : Bool) (d : List Byte) (p : Purpose) : (hapReq s w a b c e d p).tap = s.tap := (hapReq_hostOnly s w a b c e d p).tap
@[simp] theorem hapReq_mb (s : State) (w : Bool) (a b c : Nat) (e : Bool) (d : List Byte) (p : Purpose) : (hapReq s w a b c e d p).mb = s.mb := (hapReq_hostOnly s w a b c e d p).mb
@[simp] theorem hapReq_tb (s : State) (w : Bool) (a b c : Nat) (e : Bool) (d : List Byte) (p : Purpose) : (hapReq s w a b c e d p).tb = s.tb := (hapReq_hostOnly s w a b c e d p).tb
@[simp] theorem hapReq_vfs (s : State) (w : Bool) (a b c : Nat) (e : Bool) (d : List Byte) (p : Purpose) : (hapReq s w a b c e d p).vfs = s.vfs := (hapReq_hostOnly s w a b c e d p).vfs
@[simp] theorem hapReq_sa (s : State) (w : Bool) (a b c : Nat) (e : Bool) (d : List Byte) (p : Purpose) : (hapReq s w a b c e d p).sa = s.sa := (hapReq_hostOnly s w a b c e d p).sa
@[simp] theorem hapReq_be (s : State) (w : Bool) (a b c : Nat) (e : Bool) (d : List Byte) (p : Purpose) : (hapReq s w a b c e d p).be = s.be := (hapReq_hostOnly s w a b c e d p).be
@[simp] theorem hapReq_pc (s : State) (w : Bool) (a b c : Nat) (e : Bool) (d : List Byte) (p : Purpose) : (hapReq s w a b c e d p).pc = s.pc := (hapReq_hostOnly s w a b c e d p).pc
@[simp] theorem hapReq_cc (s : State) (w : Bool) (a b c : Nat) (e : Bool) (d : List Byte) (p : Purpose) : (hapReq s w a b c e d p).cc = s.cc := (hapReq_hostOnly s w a b c e d p).cc
@[simp] theorem hapReq_mf (s : State) (w : Bool) (a b c : Nat) (e : Bool) (d : List Byte) (p : Purpose) : (hapReq s w a b c e d p).mf = s.mf := (hapReq_hostOnly s w a b c e d p).mf
@[simp] theorem hapReq_pb (s : State) (w : Bool) (a b c : Nat) (e : Bool) (d : List Byte) (p : Purpose) : (hapReq s w a b c e d p).pb = s.pb := (hapReq_hostOnly s w a b c e d p).pb
@[simp] theorem hapReq_th (s : State) (w : Bool) (a b c : Nat) (e : Bool) (d : List Byte) (p : Purpose) : (hapReq s w a b c e d p).th = s.th := (hapReq_hostOnly s w a b c e d p).th
@[simp] theorem hapReq_bg (s : State) (w : Bool) (a b c : Nat) (e : Bool) (d : List Byte) (p : Purpose) : (hapReq s w a b c e d p).bg = s.bg := (hapReq_hostOnly s w a b c e d p).bg
@[simp] theorem hapReq_du (s : State) (w : Bool) (a b c : Nat) (e : Bool) (d : List Byte) (p : Purpose) : (hapReq s w a b c e d p).du = s.du := (hapReq_hostOnly s w a b c e d p).du
@[simp] theorem hapReq_sp (s : State) (w : Bool) (a b c : Nat) (e : Bool) (d : List Byte) (p : Purpose) : (hapReq s w a b c e d p).sp = s.sp := (hapReq_hostOnly s w a b c e d p).sp
@[simp] theorem hapReq_obs (s : State) (w : Bool) (a b c : Nat) (e : Bool) (d : List Byte) (p : Purpose) : (hapReq s w a b c e d p).obs = s.obs := (hapReq_hostOnly s w a b c e d p).obs
@[simp] theorem hapReq_bus (s : State) (w : Bool) (a b c : Nat) (e : Bool) (d : List Byte) (p : Purpose) : (hapReq s w a b c e d p).bus = s.bus := (hapReq_hostOnly s w a b c e d p).bus

@[simp] theorem raiseEvent_pending (s : State) (c k u : Nat) (d : List Byte) : (raiseEvent s c k u d).pending = s.pending := (raiseEvent_hostOnly s c k u d).pending
@[simp] theorem raiseEvent_build (s : State) (c k u : Nat) (d : List Byte) : (raiseEvent s c k u d).build = s.build := (raiseEvent_hostOnly s c k u d).build
@[simp] theorem raiseEvent_now (s : State) (c k u : Nat) (d : List Byte) : (raiseEvent s c k u d).now = s.now := (raiseEvent_hostOnly s c k u d).now
@[simp] theorem raiseEvent_captured (s : State) (c k u : Nat) (d : List Byte) : (raiseEvent s c k u d).captured = s.captured := (raiseEvent_hostOnly s c k u d).captured
@[simp] theorem raiseEvent_pins (s : State) (c k u : Nat) (d : List Byte) : (raiseEvent s c k u d).pins = s.pins := (raiseEvent_hostOnly s c k u d).pins
@[simp] theorem raiseEvent_rs (s : State) (c k u : Nat) (d : List Byte) : (raiseEvent s c k u d).rs = s.rs := (raiseEvent_hostOnly s c k u d).rs
@[simp] theorem raiseEvent_tap (s : State) (c k u : Nat) (d : List Byte) : (raiseEvent s c k u d).tap = s.tap := (raiseEvent_hostOnly s c k u d).tap
@[simp] theorem raiseEvent_mb (s : State) (c k u : Nat) (d : List Byte) : (raiseEvent s c k u d).mb = s.mb := (raiseEvent_hostOnly s c k u d).mb
@[simp] theorem raiseEvent_tb (s : State) (c k u : Nat) (d : List Byte) : (raiseEvent s c k u d).tb = s.tb := (raiseEvent_hostOnly s c k u d).tb
@[simp] theorem raiseEvent_vfs (s : State) (c k u : Nat) (d : List Byte) : (raiseEvent s c k u d).vfs = s.vfs := (raiseEvent_hostOnly s c k u d).vfs
@[simp] theorem raiseEvent_sa (s : State) (c k u : Nat) (d : List Byte) : (raiseEvent s c k u d).sa = s.sa := (raiseEvent_hostOnly s c k u d).sa
@[simp] theorem raiseEvent_be (s : State) (c k u : Nat) (d : List Byte) : (raiseEvent s c k u d).be = s.be := (raiseEvent_hostOnly s c k u d).be
@[simp] theorem raiseEvent_pc (s : State) (c k u : Nat) (d : List Byte) : (raiseEvent s c k u d).pc = s.pc := (raiseEvent_hostOnly s c k u d).pc
@[simp] theorem raiseEvent_cc (s : State) (c k u : Nat) (d : List Byte) : (raiseEvent s c k u d).cc = s.cc := (raiseEvent_hostOnly s c k u d).cc
@[simp] theorem raiseEvent_mf (s : State) (c k u : Nat) (d : List Byte) : (raiseEvent s c k u d).mf = s.mf := (raiseEvent_hostOnly s c k u d).mf
@[simp] theorem raiseEvent_pb (s : State) (c k u : Nat) (d : List Byte) : (raiseEvent s c k u d).pb = s.pb := (raiseEvent_hostOnly s c k u d).pb
@[simp] theorem raiseEvent_th (s : State) (c k u : Nat) (d : List Byte) : (raiseEvent s c k u d).th = s.th := (raiseEvent_hostOnly s c k u d).th
@[simp] theorem raiseEvent_bg (s : State) (c k u : Nat) (d : List Byte) : (raiseEvent s c k u d).bg = s.bg := (raiseEvent_hostOnly s c k u d).bg
@[simp] theorem raiseEvent_du (s : State) (c k u : Nat) (d : List Byte) : (raiseEvent s c k u d).du = s.du := (raiseEvent_hostOnly s c k u d).du
@[simp] theorem raiseEvent_sp (s : State) (c k u : Nat) (d : List Byte) : (raiseEvent s c k u d).sp = s.sp := (raiseEvent_hostOnly s c k u d).sp
@[simp] theorem raiseEvent_obs (s : State) (c k u : Nat) (d : List Byte) : (raiseEvent s c k u d).obs = s.obs := (raiseEvent_hostOnly s c k u d).obs
@[simp] theorem raiseEvent_bus (s : State) (c k u : Nat) (d : List Byte) : (raiseEvent s c k u d).bus = s.bus := (raiseEvent_hostOnly s c k u d).bus

@[simp] theorem incSat_pending (s : State) (f : Fld) : (incSat s f).pending = s.pending := (incSat_hostOnly s f).pending
@[simp] theorem incSat_build (s : State) (f : Fld) : (incSat s f).build = s.build := (incSat_hostOnly s f).build
@[simp] theorem incSat_now (s : State) (f : Fld) : (incSat s f).now = s.now := (incSat_hostOnly s f).now
@[simp] theorem incSat_captured (s : State) (f : Fld) : (incSat s f).captured = s.captured := (incSat_hostOnly s f).captured
@[simp] theorem incSat_pins (s : State) (f : Fld) : (incSat s f).pins = s.pins := (incSat_hostOnly s f).pins
@[simp] theorem incSat_rs (s : State) (f : Fld) : (incSat s f).rs = s.rs := (incSat_hostOnly s f).rs
@[simp] theorem incSat_tap (s : State) (f : Fld) : (incSat s f).tap = s.tap := (incSat_hostOnly s f).tap
@[simp] theorem incSat_mb (s : State) (f : Fld) : (incSat s f).mb = s.mb := (incSat_hostOnly s f).mb
@[simp] theorem incSat_tb (s : State) (f : Fld) : (incSat s f).tb = s.tb := (incSat_hostOnly s f).tb
@[simp] theorem incSat_vfs (s : State) (f : Fld) : (incSat s f).vfs = s.vfs := (incSat_hostOnly s f).vfs
@[simp] theorem incSat_sa (s : State) (f : Fld) : (incSat s f).sa = s.sa := (incSat_hostOnly s f).sa
@[simp] theorem incSat_be (s : State) (f : Fld) : (incSat s f).be = s.be := (incSat_hostOnly s f).be
@[simp] theorem incSat_pc (s : State) (f : Fld) : (incSat s f).pc = s.pc := (incSat_hostOnly s f).pc
@[simp] theorem incSat_cc (s : State) (f : Fld) : (incSat s f).cc = s.cc := (incSat_hostOnly s f).cc
@[simp] theorem incSat_mf (s : State) (f : Fld) : (incSat s f).mf = s.mf := (incSat_hostOnly s f).mf
@[simp] theorem incSat_pb (s : State) (f : Fld) : (incSat s f).pb = s.pb := (incSat_hostOnly s f).pb
@[simp] theorem incSat_th (s : State) (f : Fld) : (incSat s f).th = s.th := (incSat_hostOnly s f).th
@[simp] theorem incSat_bg (s : State) (f : Fld) : (incSat s f).bg = s.bg := (incSat_hostOnly s f).bg
@[simp] theorem incSat_du (s : State) (f : Fld) : (incSat s f).du = s.du := (incSat_hostOnly s f).du
@[simp] theorem incSat_sp (s : State) (f : Fld) : (incSat s f).sp = s.sp := (incSat_hostOnly s f).sp
@[simp] theorem incSat_obs (s : State) (f : Fld) : (incSat s f).obs = s.obs := (incSat_hostOnly s f).obs
@[simp] theorem incSat_bus (s : State) (f : Fld) : (incSat s f).bus = s.bus := (incSat_hostOnly s f).bus

@[simp] theorem addSat_pending (s : State) (f : Fld) (n : Nat) : (addSat s f n).pending = s.pending := (addSat_hostOnly s f n).pending
@[simp] theorem addSat_build (s : State) (f : Fld) (n : Nat) : (addSat s f n).build = s.build := (addSat_hostOnly s f n).build
@[simp] theorem addSat_now (s : State) (f : Fld) (n : Nat) : (addSat s f n).now = s.now := (addSat_hostOnly s f n).now
@[simp] theorem addSat_captured (s : State) (f : Fld) (n : Nat) : (addSat s f n).captured = s.captured := (addSat_hostOnly s f n).captured
@[simp] theorem addSat_pins (s : State) (f : Fld) (n : Nat) : (addSat s f n).pins = s.pins := (addSat_hostOnly s f n).pins
@[simp] theorem addSat_rs (s : State) (f : Fld) (n : Nat) : (addSat s f n).rs = s.rs := (addSat_hostOnly s f n).rs
@[simp] theorem addSat_tap (s : State) (f : Fld) (n : Nat) : (addSat s f n).tap = s.tap := (addSat_hostOnly s f n).tap
@[simp] theorem addSat_mb (s : State) (f : Fld) (n : Nat) : (addSat s f n).mb = s.mb := (addSat_hostOnly s f n).mb
@[simp] theorem addSat_tb (s : State) (f : Fld) (n : Nat) : (addSat s f n).tb = s.tb := (addSat_hostOnly s f n).tb
@[simp] theorem addSat_vfs (s : State) (f : Fld) (n : Nat) : (addSat s f n).vfs = s.vfs := (addSat_hostOnly s f n).vfs
@[simp] theorem addSat_sa (s : State) (f : Fld) (n : Nat) : (addSat s f n).sa = s.sa := (addSat_hostOnly s f n).sa
@[simp] theorem addSat_be (s : State) (f : Fld) (n : Nat) : (addSat s f n).be = s.be := (addSat_hostOnly s f n).be
@[simp] theorem addSat_pc (s : State) (f : Fld) (n : Nat) : (addSat s f n).pc = s.pc := (addSat_hostOnly s f n).pc
@[simp] theorem addSat_cc (s : State) (f : Fld) (n : Nat) : (addSat s f n).cc = s.cc := (addSat_hostOnly s f n).cc
@[simp] theorem addSat_mf (s : State) (f : Fld) (n : Nat) : (addSat s f n).mf = s.mf := (addSat_hostOnly s f n).mf
@[simp] theorem addSat_pb (s : State) (f : Fld) (n : Nat) : (addSat s f n).pb = s.pb := (addSat_hostOnly s f n).pb
@[simp] theorem addSat_th (s : State) (f : Fld) (n : Nat) : (addSat s f n).th = s.th := (addSat_hostOnly s f n).th
@[simp] theorem addSat_bg (s : State) (f : Fld) (n : Nat) : (addSat s f n).bg = s.bg := (addSat_hostOnly s f n).bg
@[simp] theorem addSat_du (s : State) (f : Fld) (n : Nat) : (addSat s f n).du = s.du := (addSat_hostOnly s f n).du
@[simp] theorem addSat_sp (s : State) (f : Fld) (n : Nat) : (addSat s f n).sp = s.sp := (addSat_hostOnly s f n).sp
@[simp] theorem addSat_obs (s : State) (f : Fld) (n : Nat) : (addSat s f n).obs = s.obs := (addSat_hostOnly s f n).obs
@[simp] theorem addSat_bus (s : State) (f : Fld) (n : Nat) : (addSat s f n).bus = s.bus := (addSat_hostOnly s f n).bus

@[simp] theorem putTel_pending (s : State) (e : Event) : (putTel s e).pending = s.pending := (putTel_hostOnly s e).pending
@[simp] theorem putTel_build (s : State) (e : Event) : (putTel s e).build = s.build := (putTel_hostOnly s e).build
@[simp] theorem putTel_now (s : State) (e : Event) : (putTel s e).now = s.now := (putTel_hostOnly s e).now
@[simp] theorem putTel_captured (s : State) (e : Event) : (putTel s e).captured = s.captured := (putTel_hostOnly s e).captured
@[simp] theorem putTel_pins (s : State) (e : Event) : (putTel s e).pins = s.pins := (putTel_hostOnly s e).pins
@[simp] theorem putTel_rs (s : State) (e : Event) : (putTel s e).rs = s.rs := (putTel_hostOnly s e).rs
@[simp] theorem putTel_tap (s : State) (e : Event) : (putTel s e).tap = s.tap := (putTel_hostOnly s e).tap
@[simp] theorem putTel_mb (s : State) (e : Event) : (putTel s e).mb = s.mb := (putTel_hostOnly s e).mb
@[simp] theorem putTel_tb (s : State) (e : Event) : (putTel s e).tb = s.tb := (putTel_hostOnly s e).tb
@[simp] theorem putTel_vfs (s : State) (e : Event) : (putTel s e).vfs = s.vfs := (putTel_hostOnly s e).vfs
@[simp] theorem putTel_sa (s : State) (e : Event) : (putTel s e).sa = s.sa := (putTel_hostOnly s e).sa
@[simp] theorem putTel_be (s : State) (e : Event) : (putTel s e).be = s.be := (putTel_hostOnly s e).be
@[simp] theorem putTel_pc (s : State) (e : Event) : (putTel s e).pc = s.pc := (putTel_hostOnly s e).pc
@[simp] theorem putTel_cc (s : State) (e : Event) : (putTel s e).cc = s.cc := (putTel_hostOnly s e).cc
@[simp] theorem putTel_mf (s : State) (e : Event) : (putTel s e).mf = s.mf := (putTel_hostOnly s e).mf
@[simp] theorem putTel_pb (s : State) (e : Event) : (putTel s e).pb = s.pb := (putTel_hostOnly s e).pb
@[simp] theorem putTel_th (s : State) (e : Event) : (putTel s e).th = s.th := (putTel_hostOnly s e).th
@[simp] theorem putTel_bg (s : State) (e : Event) : (putTel s e).bg = s.bg := (putTel_hostOnly s e).bg
@[simp] theorem putTel_du (s : State) (e : Event) : (putTel s e).du = s.du := (putTel_hostOnly s e).du
@[simp] theorem putTel_sp (s : State) (e : Event) : (putTel s e).sp = s.sp := (putTel_hostOnly s e).sp
@[simp] theorem putTel_obs (s : State) (e : Event) : (putTel s e).obs = s.obs := (putTel_hostOnly s e).obs
@[simp] theorem putTel_bus (s : State) (e : Event) : (putTel s e).bus = s.bus := (putTel_hostOnly s e).bus

@[simp] theorem hapErr_pending (s : State) (f : Fld) (b : Nat) (k : Bool) (a t st : Nat) : (hapErr s f b k a t st).pending = s.pending := (hapErr_hostOnly s f b k a t st).pending
@[simp] theorem hapErr_build (s : State) (f : Fld) (b : Nat) (k : Bool) (a t st : Nat) : (hapErr s f b k a t st).build = s.build := (hapErr_hostOnly s f b k a t st).build
@[simp] theorem hapErr_now (s : State) (f : Fld) (b : Nat) (k : Bool) (a t st : Nat) : (hapErr s f b k a t st).now = s.now := (hapErr_hostOnly s f b k a t st).now
@[simp] theorem hapErr_captured (s : State) (f : Fld) (b : Nat) (k : Bool) (a t st : Nat) : (hapErr s f b k a t st).captured = s.captured := (hapErr_hostOnly s f b k a t st).captured
@[simp] theorem hapErr_pins (s : State) (f : Fld) (b : Nat) (k : Bool) (a t st : Nat) : (hapErr s f b k a t st).pins = s.pins := (hapErr_hostOnly s f b k a t st).pins
@[simp] theorem hapErr_rs (s : State) (f : Fld) (b : Nat) (k : Bool) (a t st : Nat) : (hapErr s f b k a t st).rs = s.rs := (hapErr_hostOnly s f b k a t st).rs
@[simp] theorem hapErr_tap (s : State) (f : Fld) (b : Nat) (k : Bool) (a t st : Nat) : (hapErr s f b k a t st).tap = s.tap := (hapErr_hostOnly s f b k a t st).tap
@[simp] theorem hapErr_mb (s : State) (f : Fld) (b : Nat) (k : Bool) (a t st : Nat) : (hapErr s f b k a t st).mb = s.mb := (hapErr_hostOnly s f b k a t st).mb
@[simp] theorem hapErr_tb (s : State) (f : Fld) (b : Nat) (k : Bool) (a t st : Nat) : (hapErr s f b k a t st).tb = s.tb := (hapErr_hostOnly s f b k a t st).tb
@[simp] theorem hapErr_vfs (s : State) (f : Fld) (b : Nat) (k : Bool) (a t st : Nat) : (hapErr s f b k a t st).vfs = s.vfs := (hapErr_hostOnly s f b k a t st).vfs
@[simp] theorem hapErr_sa (s : State) (f : Fld) (b : Nat) (k : Bool) (a t st : Nat) : (hapErr s f b k a t st).sa = s.sa := (hapErr_hostOnly s f b k a t st).sa
@[simp] theorem hapErr_be (s : State) (f : Fld) (b : Nat) (k : Bool) (a t st : Nat) : (hapErr s f b k a t st).be = s.be := (hapErr_hostOnly s f b k a t st).be
@[simp] theorem hapErr_pc (s : State) (f : Fld) (b : Nat) (k : Bool) (a t st : Nat) : (hapErr s f b k a t st).pc = s.pc := (hapErr_hostOnly s f b k a t st).pc
@[simp] theorem hapErr_cc (s : State) (f : Fld) (b : Nat) (k : Bool) (a t st : Nat) : (hapErr s f b k a t st).cc = s.cc := (hapErr_hostOnly s f b k a t st).cc
@[simp] theorem hapErr_mf (s : State) (f : Fld) (b : Nat) (k : Bool) (a t st : Nat) : (hapErr s f b k a t st).mf = s.mf := (hapErr_hostOnly s f b k a t st).mf
@[simp] theorem hapErr_pb (s : State) (f : Fld) (b : Nat) (k : Bool) (a t st : Nat) : (hapErr s f b k a t st).pb = s.pb := (hapErr_hostOnly s f b k a t st).pb
@[simp] theorem hapErr_th (s : State) (f : Fld) (b : Nat) (k : Bool) (a t st : Nat) : (hapErr s f b k a t st).th = s.th := (hapErr_hostOnly s f b k a t st).th
@[simp] theorem hapErr_bg (s : State) (f : Fld) (b : Nat) (k : Bool) (a t st : Nat) : (hapErr s f b k a t st).bg = s.bg := (hapErr_hostOnly s f b k a t st).bg
@[simp] theorem hapErr_du (s : State) (f : Fld) (b : Nat) (k : Bool) (a t st : Nat) : (hapErr s f b k a t st).du = s.du := (hapErr_hostOnly s f b k a t st).du
@[simp] theorem hapErr_sp (s : State) (f : Fld) (b : Nat) (k : Bool) (a t st : Nat) : (hapErr s f b k a t st).sp = s.sp := (hapErr_hostOnly s f b k a t st).sp
@[simp] theorem hapErr_obs (s : State) (f : Fld) (b : Nat) (k : Bool) (a t st : Nat) : (hapErr s f b k a t st).obs = s.obs := (hapErr_hostOnly s f b k a t st).obs
@[simp] theorem hapErr_bus (s : State) (f : Fld) (b : Nat) (k : Bool) (a t st : Nat) : (hapErr s f b k a t st).bus = s.bus := (hapErr_hostOnly s f b k a t st).bus

@[simp] theorem hapFail_pending (s : State) (a t st : Nat) : (hapFail s a t st).pending = s.pending := (hapFail_hostOnly s a t st).pending
@[simp] theorem hapFail_build (s : State) (a t st : Nat) : (hapFail s a t st).build = s.build := (hapFail_hostOnly s a t st).build
@[simp] theorem hapFail_now (s : State) (a t st : Nat) : (hapFail s a t st).now = s.now := (hapFail_hostOnly s a t st).now
@[simp] theorem hapFail_captured (s : State) (a t st : Nat) : (hapFail s a t st).captured = s.captured := (hapFail_hostOnly s a t st).captured
@[simp] theorem hapFail_pins (s : State) (a t st : Nat) : (hapFail s a t st).pins = s.pins := (hapFail_hostOnly s a t st).pins
@[simp] theorem hapFail_rs (s : State) (a t st : Nat) : (hapFail s a t st).rs = s.rs := (hapFail_hostOnly s a t st).rs
@[simp] theorem hapFail_tap (s : State) (a t st : Nat) : (hapFail s a t st).tap = s.tap := (hapFail_hostOnly s a t st).tap
@[simp] theorem hapFail_mb (s : State) (a t st : Nat) : (hapFail s a t st).mb = s.mb := (hapFail_hostOnly s a t st).mb
@[simp] theorem hapFail_tb (s : State) (a t st : Nat) : (hapFail s a t st).tb = s.tb := (hapFail_hostOnly s a t st).tb
@[simp] theorem hapFail_vfs (s : State) (a t st : Nat) : (hapFail s a t st).vfs = s.vfs := (hapFail_hostOnly s a t st).vfs
@[simp] theorem hapFail_sa (s : State) (a t st : Nat) : (hapFail s a t st).sa = s.sa := (hapFail_hostOnly s a t st).sa
@[simp] theorem hapFail_be (s : State) (a t st : Nat) : (hapFail s a t st).be = s.be := (hapFail_hostOnly s a t st).be
@[simp] theorem hapFail_pc (s : State) (a t st : Nat) : (hapFail s a t st).pc = s.pc := (hapFail_hostOnly s a t st).pc
@[simp] theorem hapFail_cc (s : State) (a t st : Nat) : (hapFail s a t st).cc = s.cc := (hapFail_hostOnly s a t st).cc
@[simp] theorem hapFail_mf (s : State) (a t st : Nat) : (hapFail s a t st).mf = s.mf := (hapFail_hostOnly s a t st).mf
@[simp] theorem hapFail_pb (s : State) (a t st : Nat) : (hapFail s a t st).pb = s.pb := (hapFail_hostOnly s a t st).pb
@[simp] theorem hapFail_th (s : State) (a t st : Nat) : (hapFail s a t st).th = s.th := (hapFail_hostOnly s a t st).th
@[simp] theorem hapFail_bg (s : State) (a t st : Nat) : (hapFail s a t st).bg = s.bg := (hapFail_hostOnly s a t st).bg
@[simp] theorem hapFail_du (s : State) (a t st : Nat) : (hapFail s a t st).du = s.du := (hapFail_hostOnly s a t st).du
@[simp] theorem hapFail_sp (s : State) (a t st : Nat) : (hapFail s a t st).sp = s.sp := (hapFail_hostOnly s a t st).sp
@[simp] theorem hapFail_obs (s : State) (a t st : Nat) : (hapFail s a t st).obs = s.obs := (hapFail_hostOnly s a t st).obs
@[simp] theorem hapFail_bus (s : State) (a t st : Nat) : (hapFail s a t st).bus = s.bus := (hapFail_hostOnly s a t st).bus

@[simp] theorem hrErr_pending (s : State) (f : Fld) (n : Option Nat) : (hrErr s f n).pending = s.pending := (hrErr_hostOnly s f n).pending
@[simp] theorem hrErr_build (s : State) (f : Fld) (n : Option Nat) : (hrErr s f n).build = s.build := (hrErr_hostOnly s f n).build
@[simp] theorem hrErr_now (s : State) (f : Fld) (n : Option Nat) : (hrErr s f n).now = s.now := (hrErr_hostOnly s f n).now
@[simp] theorem hrErr_captured (s : State) (f : Fld) (n : Option Nat) : (hrErr s f n).captured = s.captured := (hrErr_hostOnly s f n).captured
@[simp] theorem hrErr_pins (s : State) (f : Fld) (n : Option Nat) : (hrErr s f n).pins = s.pins := (hrErr_hostOnly s f n).pins
@[simp] theorem hrErr_rs (s : State) (f : Fld) (n : Option Nat) : (hrErr s f n).rs = s.rs := (hrErr_hostOnly s f n).rs
@[simp] theorem hrErr_tap (s : State) (f : Fld) (n : Option Nat) : (hrErr s f n).tap = s.tap := (hrErr_hostOnly s f n).tap
@[simp] theorem hrErr_mb (s : State) (f : Fld) (n : Option Nat) : (hrErr s f n).mb = s.mb := (hrErr_hostOnly s f n).mb
@[simp] theorem hrErr_tb (s : State) (f : Fld) (n : Option Nat) : (hrErr s f n).tb = s.tb := (hrErr_hostOnly s f n).tb
@[simp] theorem hrErr_vfs (s : State) (f : Fld) (n : Option Nat) : (hrErr s f n).vfs = s.vfs := (hrErr_hostOnly s f n).vfs
@[simp] theorem hrErr_sa (s : State) (f : Fld) (n : Option Nat) : (hrErr s f n).sa = s.sa := (hrErr_hostOnly s f n).sa
@[simp] theorem hrErr_be (s : State) (f : Fld) (n : Option Nat) : (hrErr s f n).be = s.be := (hrErr_hostOnly s f n).be
@[simp] theorem hrErr_pc (s : State) (f : Fld) (n : Option Nat) : (hrErr s f n).pc = s.pc := (hrErr_hostOnly s f n).pc
@[simp] theorem hrErr_cc (s : State) (f : Fld) (n : Option Nat) : (hrErr s f n).cc = s.cc := (hrErr_hostOnly s f n).cc
@[simp] theorem hrErr_mf (s : State) (f : Fld) (n : Option Nat) : (hrErr s f n).mf = s.mf := (hrErr_hostOnly s f n).mf
@[simp] theorem hrErr_pb (s : State) (f : Fld) (n : Option Nat) : (hrErr s f n).pb = s.pb := (hrErr_hostOnly s f n).pb
@[simp] theorem hrErr_th (s : State) (f : Fld) (n : Option Nat) : (hrErr s f n).th = s.th := (hrErr_hostOnly s f n).th
@[simp] theorem hrErr_bg (s : State) (f : Fld) (n : Option Nat) : (hrErr s f n).bg = s.bg := (hrErr_hostOnly s f n).bg
@[simp] theorem hrErr_du (s : State) (f : Fld) (n : Option Nat) : (hrErr s f n).du = s.du := (hrErr_hostOnly s f n).du
@[simp] theorem hrErr_sp (s : State) (f : Fld) (n : Option Nat) : (hrErr s f n).sp = s.sp := (hrErr_hostOnly s f n).sp
@[simp] theorem hrErr_obs (s : State) (f : Fld) (n : Option Nat) : (hrErr s f n).obs = s.obs := (hrErr_hostOnly s f n).obs
@[simp] theorem hrErr_bus (s : State) (f : Fld) (n : Option Nat) : (hrErr s f n).bus = s.bus := (hrErr_hostOnly s f n).bus

@[simp] theorem chkCorr_pending (s : State) : (chkCorr s).pending = s.pending := (chkCorr_hostOnly s).pending
@[simp] theorem chkCorr_build (s : State) : (chkCorr s).build = s.build := (chkCorr_hostOnly s).build
@[simp] theorem chkCorr_now (s : State) : (chkCorr s).now = s.now := (chkCorr_hostOnly s).now
@[simp] theorem chkCorr_captured (s : State) : (chkCorr s).captured = s.captured := (chkCorr_hostOnly s).captured
@[simp] theorem chkCorr_pins (s : State) : (chkCorr s).pins = s.pins := (chkCorr_hostOnly s).pins
@[simp] theorem chkCorr_rs (s : State) : (chkCorr s).rs = s.rs := (chkCorr_hostOnly s).rs
@[simp] theorem chkCorr_tap (s : State) : (chkCorr s).tap = s.tap := (chkCorr_hostOnly s).tap
@[simp] theorem chkCorr_mb (s : State) : (chkCorr s).mb = s.mb := (chkCorr_hostOnly s).mb
@[simp] theorem chkCorr_tb (s : State) : (chkCorr s).tb = s.tb := (chkCorr_hostOnly s).tb
@[simp] theorem chkCorr_vfs (s : State) : (chkCorr s).vfs = s.vfs := (chkCorr_hostOnly s).vfs
@[simp] theorem chkCorr_sa (s : State) : (chkCorr s).sa = s.sa := (chkCorr_hostOnly s).sa
@[simp] theorem chkCorr_be (s : State) : (chkCorr s).be = s.be := (chkCorr_hostOnly s).be
@[simp] theorem chkCorr_pc (s : State) : (chkCorr s).pc = s.pc := (chkCorr_hostOnly s).pc
@[simp] theorem chkCorr_cc (s : State) : (chkCorr s).cc = s.cc := (chkCorr_hostOnly s).cc
@[simp] theorem chkCorr_mf (s : State) : (chkCorr s).mf = s.mf := (chkCorr_hostOnly s).mf
@[simp] theorem chkCorr_pb (s : State) : (chkCorr s).pb = s.pb := (chkCorr_hostOnly s).pb
@[simp] theorem chkCorr_th (s : State) : (chkCorr s).th = s.th := (chkCorr_hostOnly s).th
@[simp] theorem chkCorr_bg (s : State) : (chkCorr s).bg = s.bg := (chkCorr_hostOnly s).bg
@[simp] theorem chkCorr_du (s : State) : (chkCorr s).du = s.du := (chkCorr_hostOnly s).du
@[simp] theorem chkCorr_sp (s : State) : (chkCorr s).sp = s.sp := (chkCorr_hostOnly s).sp
@[simp] theorem chkCorr_obs (s : State) : (chkCorr s).obs = s.obs := (chkCorr_hostOnly s).obs
@[simp] theorem chkCorr_bus (s : State) : (chkCorr s).bus = s.bus := (chkCorr_hostOnly s).bus

@[simp] theorem complete_pending (s : State) (f : Flight) (st d : Nat) : (complete s f st d).pending = s.pending := (complete_hostOnly s f st d).pending
@[simp] theorem complete_build (s : State) (f : Flight) (st d : Nat) : (complete s f st d).build = s.build := (complete_hostOnly s f st d).build
@[simp] theorem complete_now (s : State) (f : Flight) (st d : Nat) : (complete s f st d).now = s.now := (complete_hostOnly s f st d).now
@[simp] theorem complete_captured (s : State) (f : Flight) (st d : Nat) : (complete s f st d).captured = s.captured := (complete_hostOnly s f st d).captured
@[simp] theorem complete_pins (s : State) (f : Flight) (st d : Nat) : (complete s f st d).pins = s.pins := (complete_hostOnly s f st d).pins
@[simp] theorem complete_rs (s : State) (f : Flight) (st d : Nat) : (complete s f st d).rs = s.rs := (complete_hostOnly s f st d).rs
@[simp] theorem complete_tap (s : State) (f : Flight) (st d : Nat) : (complete s f st d).tap = s.tap := (complete_hostOnly s f st d).tap
@[simp] theorem complete_mb (s : State) (f : Flight) (st d : Nat) : (complete s f st d).mb = s.mb := (complete_hostOnly s f st d).mb
@[simp] theorem complete_tb (s : State) (f : Flight) (st d : Nat) : (complete s f st d).tb = s.tb := (complete_hostOnly s f st d).tb
@[simp] theorem complete_vfs (s : State) (f : Flight) (st d : Nat) : (complete s f st d).vfs = s.vfs := (complete_hostOnly s f st d).vfs
@[simp] theorem complete_sa (s : State) (f : Flight) (st d : Nat) : (complete s f st d).sa = s.sa := (complete_hostOnly s f st d).sa
@[simp] theorem complete_be (s : State) (f : Flight) (st d : Nat) : (complete s f st d).be = s.be := (complete_hostOnly s f st d).be
@[simp] theorem complete_pc (s : State) (f : Flight) (st d : Nat) : (complete s f st d).pc = s.pc := (complete_hostOnly s f st d).pc
@[simp] theorem complete_cc (s : State) (f : Flight) (st d : Nat) : (complete s f st d).cc = s.cc := (complete_hostOnly s f st d).cc
@[simp] theorem complete_mf (s : State) (f : Flight) (st d : Nat) : (complete s f st d).mf = s.mf := (complete_hostOnly s f st d).mf
@[simp] theorem complete_pb (s : State) (f : Flight) (st d : Nat) : (complete s f st d).pb = s.pb := (complete_hostOnly s f st d).pb
@[simp] theorem complete_th (s : State) (f : Flight) (st d : Nat) : (complete s f st d).th = s.th := (complete_hostOnly s f st d).th
@[simp] theorem complete_bg (s : State) (f : Flight) (st d : Nat) : (complete s f st d).bg = s.bg := (complete_hostOnly s f st d).bg
@[simp] theorem complete_du (s : State) (f : Flight) (st d : Nat) : (complete s f st d).du = s.du := (complete_hostOnly s f st d).du
@[simp] theorem complete_sp (s : State) (f : Flight) (st d : Nat) : (complete s f st d).sp = s.sp := (complete_hostOnly s f st d).sp
@[simp] theorem complete_obs (s : State) (f : Flight) (st d : Nat) : (complete s f st d).obs = s.obs := (complete_hostOnly s f st d).obs
@[simp] theorem complete_bus (s : State) (f : Flight) (st d : Nat) : (complete s f st d).bus = s.bus := (complete_hostOnly s f st d).bus

@[simp] theorem completeKey_pending (s : State) (k st d : Nat) : (completeKey s k st d).pending = s.pending := (completeKey_hostOnly s k st d).pending
@[simp] theorem completeKey_build (s : State) (k st d : Nat) : (completeKey s k st d).build = s.build := (completeKey_hostOnly s k st d).build
@[simp] theorem completeKey_now (s : State) (k st d : Nat) : (completeKey s k st d).now = s.now := (completeKey_hostOnly s k st d).now
@[simp] theorem completeKey_captured (s : State) (k st d : Nat) : (completeKey s k st d).captured = s.captured := (completeKey_hostOnly s k st d).captured
@[simp] theorem completeKey_pins (s : State) (k st d : Nat) : (completeKey s k st d).pins = s.pins := (completeKey_hostOnly s k st d).pins
@[simp] theorem completeKey_rs (s : State) (k st d : Nat) : (completeKey s k st d).rs = s.rs := (completeKey_hostOnly s k st d).rs
@[simp] theorem completeKey_tap (s : State) (k st d : Nat) : (completeKey s k st d).tap = s.tap := (completeKey_hostOnly s k st d).tap
@[simp] theorem completeKey_mb (s : State) (k st d : Nat) : (completeKey s k st d).mb = s.mb := (completeKey_hostOnly s k st d).mb
@[simp] theorem completeKey_tb (s : State) (k st d : Nat) : (completeKey s k st d).tb = s.tb := (completeKey_hostOnly s k st d).tb
@[simp] theorem completeKey_vfs (s : State) (k st d : Nat) : (completeKey s k st d).vfs = s.vfs := (completeKey_hostOnly s k st d).vfs
@[simp] theorem completeKey_sa (s : State) (k st d : Nat) : (completeKey s k st d).sa = s.sa := (completeKey_hostOnly s k st d).sa
@[simp] theorem completeKey_be (s : State) (k st d : Nat) : (completeKey s k st d).be = s.be := (completeKey_hostOnly s k st d).be
@[simp] theorem completeKey_pc (s : State) (k st d : Nat) : (completeKey s k st d).pc = s.pc := (completeKey_hostOnly s k st d).pc
@[simp] theorem completeKey_cc (s : State) (k st d : Nat) : (completeKey s k st d).cc = s.cc := (completeKey_hostOnly s k st d).cc
@[simp] theorem completeKey_mf (s : State) (k st d : Nat) : (completeKey s k st d).mf = s.mf := (completeKey_hostOnly s k st d).mf
@[simp] theorem completeKey_pb (s : State) (k st d : Nat) : (completeKey s k st d).pb = s.pb := (completeKey_hostOnly s k st d).pb
@[simp] theorem completeKey_th (s : State) (k st d : Nat) : (completeKey s k st d).th = s.th := (completeKey_hostOnly s k st d).th
@[simp] theorem completeKey_bg (s : State) (k st d : Nat) : (completeKey s k st d).bg = s.bg := (completeKey_hostOnly s k st d).bg
@[simp] theorem completeKey_du (s : State) (k st d : Nat) : (completeKey s k st d).du = s.du := (completeKey_hostOnly s k st d).du
@[simp] theorem completeKey_sp (s : State) (k st d : Nat) : (completeKey s k st d).sp = s.sp := (completeKey_hostOnly s k st d).sp
@[simp] theorem completeKey_obs (s : State) (k st d : Nat) : (completeKey s k st d).obs = s.obs := (completeKey_hostOnly s k st d).obs
@[simp] theorem completeKey_bus (s : State) (k st d : Nat) : (completeKey s k st d).bus = s.bus := (completeKey_hostOnly s k st d).bus

@[simp] theorem completeOpt_pending (s : State) (k : Option Nat) (st d : Nat) : (completeOpt s k st d).pending = s.pending := (completeOpt_hostOnly s k st d).pending
@[simp] theorem completeOpt_build (s : State) (k : Option Nat) (st d : Nat) : (completeOpt s k st d).build = s.build := (completeOpt_hostOnly s k st d).build
@[simp] theorem completeOpt_now (s : State) (k : Option Nat) (st d : Nat) : (completeOpt s k st d).now = s.now := (completeOpt_hostOnly s k st d).now
@[simp] theorem completeOpt_captured (s : State) (k : Option Nat) (st d : Nat) : (completeOpt s k st d).captured = s.captured := (completeOpt_hostOnly s k st d).captured
@[simp] theorem completeOpt_pins (s : State) (k : Option Nat) (st d : Nat) : (completeOpt s k st d).pins = s.pins := (completeOpt_hostOnly s k st d).pins
@[simp] theorem completeOpt_rs (s : State) (k : Option Nat) (st d : Nat) : (completeOpt s k st d).rs = s.rs := (completeOpt_hostOnly s k st d).rs
@[simp] theorem completeOpt_tap (s : State) (k : Option Nat) (st d : Nat) : (completeOpt s k st d).tap = s.tap := (completeOpt_hostOnly s k st d).tap
@[simp] theorem completeOpt_mb (s : State) (k : Option Nat) (st d : Nat) : (completeOpt s k st d).mb = s.mb := (completeOpt_hostOnly s k st d).mb
@[simp] theorem completeOpt_tb (s : State) (k : Option Nat) (st d : Nat) : (completeOpt s k st d).tb = s.tb := (completeOpt_hostOnly s k st d).tb
@[simp] theorem completeOpt_vfs (s : State) (k : Option Nat) (st d : Nat) : (completeOpt s k st d).vfs = s.vfs := (completeOpt_hostOnly s k st d).vfs
@[simp] theorem completeOpt_sa (s : State) (k : Option Nat) (st d : Nat) : (completeOpt s k st d).sa = s.sa := (completeOpt_hostOnly s k st d).sa
@[simp] theorem completeOpt_be (s : State) (k : Option Nat) (st d : Nat) : (completeOpt s k st d).be = s.be := (completeOpt_hostOnly s k st d).be
@[simp] theorem completeOpt_pc (s : State) (k : Option Nat) (st d : Nat) : (completeOpt s k st d).pc = s.pc := (completeOpt_hostOnly s k st d).pc
@[simp] theorem completeOpt_cc (s : State) (k : Option Nat) (st d : Nat) : (completeOpt s k st d).cc = s.cc := (completeOpt_hostOnly s k st d).cc
@[simp] theorem completeOpt_mf (s : State) (k : Option Nat) (st d : Nat) : (completeOpt s k st d).mf = s.mf := (completeOpt_hostOnly s k st d).mf
@[simp] theorem completeOpt_pb (s : State) (k : Option Nat) (st d : Nat) : (completeOpt s k st d).pb = s.pb := (completeOpt_hostOnly s k st d).pb
@[simp] theorem completeOpt_th (s : State) (k : Option Nat) (st d : Nat) : (completeOpt s k st d).th = s.th := (completeOpt_hostOnly s k st d).th
@[simp] theorem completeOpt_bg (s : State) (k : Option Nat) (st d : Nat) : (completeOpt s k st d).bg = s.bg := (completeOpt_hostOnly s k st d).bg
@[simp] theorem completeOpt_du (s : State) (k : Option Nat) (st d : Nat) : (completeOpt s k st d).du = s.du := (completeOpt_hostOnly s k st d).du
@[simp] theorem completeOpt_sp (s : State) (k : Option Nat) (st d : Nat) : (completeOpt s k st d).sp = s.sp := (completeOpt_hostOnly s k st d).sp
@[simp] theorem completeOpt_obs (s : State) (k : Option Nat) (st d : Nat) : (completeOpt s k st d).obs = s.obs := (completeOpt_hostOnly s k st d).obs
@[simp] theorem completeOpt_bus (s : State) (k : Option Nat) (st d : Nat) : (completeOpt s k st d).bus = s.bus := (completeOpt_hostOnly s k st d).bus

@[simp] theorem fetchMore_pending (s : State) (n : Nat) : (fetchMore s n).pending = s.pending := (fetchMore_hostOnly s n).pending
@[simp] theorem fetchMore_build (s : State) (n : Nat) : (fetchMore s n).build = s.build := (fetchMore_hostOnly s n).build
@[simp] theorem fetchMore_now (s : State) (n : Nat) : (fetchMore s n).now = s.now := (fetchMore_hostOnly s n).now
@[simp] theorem fetchMore_captured (s : State) (n : Nat) : (fetchMore s n).captured = s.captured := (fetchMore_hostOnly s n).captured
@[simp] theorem fetchMore_pins (s : State) (n : Nat) : (fetchMore s n).pins = s.pins := (fetchMore_hostOnly s n).pins
@[simp] theorem fetchMore_rs (s : State) (n : Nat) : (fetchMore s n).rs = s.rs := (fetchMore_hostOnly s n).rs
@[simp] theorem fetchMore_tap (s : State) (n : Nat) : (fetchMore s n).tap = s.tap := (fetchMore_hostOnly s n).tap
@[simp] theorem fetchMore_mb (s : State) (n : Nat) : (fetchMore s n).mb = s.mb := (fetchMore_hostOnly s n).mb
@[simp] theorem fetchMore_tb (s : State) (n : Nat) : (fetchMore s n).tb = s.tb := (fetchMore_hostOnly s n).tb
@[simp] theorem fetchMore_vfs (s : State) (n : Nat) : (fetchMore s n).vfs = s.vfs := (fetchMore_hostOnly s n).vfs
@[simp] theorem fetchMore_sa (s : State) (n : Nat) : (fetchMore s n).sa = s.sa := (fetchMore_hostOnly s n).sa
@[simp] theorem fetchMore_be (s : State) (n : Nat) : (fetchMore s n).be = s.be := (fetchMore_hostOnly s n).be
@[simp] theorem fetchMore_pc (s : State) (n : Nat) : (fetchMore s n).pc = s.pc := (fetchMore_hostOnly s n).pc
@[simp] theorem fetchMore_cc (s : State) (n : Nat) : (fetchMore s n).cc = s.cc := (fetchMore_hostOnly s n).cc
@[simp] theorem fetchMore_mf (s : State) (n : Nat) : (fetchMore s n).mf = s.mf := (fetchMore_hostOnly s n).mf
@[simp] theorem fetchMore_pb (s : State) (n : Nat) : (fetchMore s n).pb = s.pb := (fetchMore_hostOnly s n).pb
@[simp] theorem fetchMore_th (s : State) (n : Nat) : (fetchMore s n).th = s.th := (fetchMore_hostOnly s n).th
@[simp] theorem fetchMore_bg (s : State) (n : Nat) : (fetchMore s n).bg = s.bg := (fetchMore_hostOnly s n).bg
@[simp] theorem fetchMore_du (s : State) (n : Nat) : (fetchMore s n).du = s.du := (fetchMore_hostOnly s n).du
@[simp] theorem fetchMore_sp (s : State) (n : Nat) : (fetchMore s n).sp = s.sp := (fetchMore_hostOnly s n).sp
@[simp] theorem fetchMore_obs (s : State) (n : Nat) : (fetchMore s n).obs = s.obs := (fetchMore_hostOnly s n).obs
@[simp] theorem fetchMore_bus (s : State) (n : Nat) : (fetchMore s n).bus = s.bus := (fetchMore_hostOnly s n).bus

@[simp] theorem setJob_pending (s : State) (f : Flight) (j : Job) : (setJob s f j).pending = s.pending := (setJob_hostOnly s f j).pending
@[simp] theorem setJob_build (s : State) (f : Flight) (j : Job) : (setJob s f j).build = s.build := (setJob_hostOnly s f j).build
@[simp] theorem setJob_now (s : State) (f : Flight) (j : Job) : (setJob s f j).now = s.now := (setJob_hostOnly s f j).now
@[simp] theorem setJob_captured (s : State) (f : Flight) (j : Job) : (setJob s f j).captured = s.captured := (setJob_hostOnly s f j).captured
@[simp] theorem setJob_pins (s : State) (f : Flight) (j : Job) : (setJob s f j).pins = s.pins := (setJob_hostOnly s f j).pins
@[simp] theorem setJob_rs (s : State) (f : Flight) (j : Job) : (setJob s f j).rs = s.rs := (setJob_hostOnly s f j).rs
@[simp] theorem setJob_tap (s : State) (f : Flight) (j : Job) : (setJob s f j).tap = s.tap := (setJob_hostOnly s f j).tap
@[simp] theorem setJob_mb (s : State) (f : Flight) (j : Job) : (setJob s f j).mb = s.mb := (setJob_hostOnly s f j).mb
@[simp] theorem setJob_tb (s : State) (f : Flight) (j : Job) : (setJob s f j).tb = s.tb := (setJob_hostOnly s f j).tb
@[simp] theorem setJob_vfs (s : State) (f : Flight) (j : Job) : (setJob s f j).vfs = s.vfs := (setJob_hostOnly s f j).vfs
@[simp] theorem setJob_sa (s : State) (f : Flight) (j : Job) : (setJob s f j).sa = s.sa := (setJob_hostOnly s f j).sa
@[simp] theorem setJob_be (s : State) (f : Flight) (j : Job) : (setJob s f j).be = s.be := (setJob_hostOnly s f j).be
@[simp] theorem setJob_pc (s : State) (f : Flight) (j : Job) : (setJob s f j).pc = s.pc := (setJob_hostOnly s f j).pc
@[simp] theorem setJob_cc (s : State) (f : Flight) (j : Job) : (setJob s f j).cc = s.cc := (setJob_hostOnly s f j).cc
@[simp] theorem setJob_mf (s : State) (f : Flight) (j : Job) : (setJob s f j).mf = s.mf := (setJob_hostOnly s f j).mf
@[simp] theorem setJob_pb (s : State) (f : Flight) (j : Job) : (setJob s f j).pb = s.pb := (setJob_hostOnly s f j).pb
@[simp] theorem setJob_th (s : State) (f : Flight) (j : Job) : (setJob s f j).th = s.th := (setJob_hostOnly s f j).th
@[simp] theorem setJob_bg (s : State) (f : Flight) (j : Job) : (setJob s f j).bg = s.bg := (setJob_hostOnly s f j).bg
@[simp] theorem setJob_du (s : State) (f : Flight) (j : Job) : (setJob s f j).du = s.du := (setJob_hostOnly s f j).du
@[simp] theorem setJob_sp (s : State) (f : Flight) (j : Job) : (setJob s f j).sp = s.sp := (setJob_hostOnly s f j).sp
@[simp] theorem setJob_obs (s : State) (f : Flight) (j : Job) : (setJob s f j).obs = s.obs := (setJob_hostOnly s f j).obs
@[simp] theorem setJob_bus (s : State) (f : Flight) (j : Job) : (setJob s f j).bus = s.bus := (setJob_hostOnly s f j).bus

@[simp] theorem ringIdle_pending (s : State) (n : Nat) : (ringIdle s n).pending = s.pending := (ringIdle_hostOnly s n).pending
@[simp] theorem ringIdle_build (s : State) (n : Nat) : (ringIdle s n).build = s.build := (ringIdle_hostOnly s n).build
@[simp] theorem ringIdle_now (s : State) (n : Nat) : (ringIdle s n).now = s.now := (ringIdle_hostOnly s n).now
@[simp] theorem ringIdle_captured (s : State) (n : Nat) : (ringIdle s n).captured = s.captured := (ringIdle_hostOnly s n).captured
@[simp] theorem ringIdle_pins (s : State) (n : Nat) : (ringIdle s n).pins = s.pins := (ringIdle_hostOnly s n).pins
@[simp] theorem ringIdle_rs (s : State) (n : Nat) : (ringIdle s n).rs = s.rs := (ringIdle_hostOnly s n).rs
@[simp] theorem ringIdle_tap (s : State) (n : Nat) : (ringIdle s n).tap = s.tap := (ringIdle_hostOnly s n).tap
@[simp] theorem ringIdle_mb (s : State) (n : Nat) : (ringIdle s n).mb = s.mb := (ringIdle_hostOnly s n).mb
@[simp] theorem ringIdle_tb (s : State) (n : Nat) : (ringIdle s n).tb = s.tb := (ringIdle_hostOnly s n).tb
@[simp] theorem ringIdle_vfs (s : State) (n : Nat) : (ringIdle s n).vfs = s.vfs := (ringIdle_hostOnly s n).vfs
@[simp] theorem ringIdle_sa (s : State) (n : Nat) : (ringIdle s n).sa = s.sa := (ringIdle_hostOnly s n).sa
@[simp] theorem ringIdle_be (s : State) (n : Nat) : (ringIdle s n).be = s.be := (ringIdle_hostOnly s n).be
@[simp] theorem ringIdle_pc (s : State) (n : Nat) : (ringIdle s n).pc = s.pc := (ringIdle_hostOnly s n).pc
@[simp] theorem ringIdle_cc (s : State) (n : Nat) : (ringIdle s n).cc = s.cc := (ringIdle_hostOnly s n).cc
@[simp] theorem ringIdle_mf (s : State) (n : Nat) : (ringIdle s n).mf = s.mf := (ringIdle_hostOnly s n).mf
@[simp] theorem ringIdle_pb (s : State) (n : Nat) : (ringIdle s n).pb = s.pb := (ringIdle_hostOnly s n).pb
@[simp] theorem ringIdle_th (s : State) (n : Nat) : (ringIdle s n).th = s.th := (ringIdle_hostOnly s n).th
@[simp] theorem ringIdle_bg (s : State) (n : Nat) : (ringIdle s n).bg = s.bg := (ringIdle_hostOnly s n).bg
@[simp] theorem ringIdle_du (s : State) (n : Nat) : (ringIdle s n).du = s.du := (ringIdle_hostOnly s n).du
@[simp] theorem ringIdle_sp (s : State) (n : Nat) : (ringIdle s n).sp = s.sp := (ringIdle_hostOnly s n).sp
@[simp] theorem ringIdle_obs (s : State) (n : Nat) : (ringIdle s n).obs = s.obs := (ringIdle_hostOnly s n).obs
@[simp] theorem ringIdle_bus (s : State) (n : Nat) : (ringIdle s n).bus = s.bus := (ringIdle_hostOnly s n).bus

@[simp] theorem takeHead_pending (s : State) (n : Nat) (d : List Byte) (j : Job) : (takeHead s n d j).1.pending = s.pending := (takeHead_hostOnly s n d j).pending
@[simp] theorem takeHead_build (s : State) (n : Nat) (d : List Byte) (j : Job) : (takeHead s n d j).1.build = s.build := (takeHead_hostOnly s n d j).build
@[simp] theorem takeHead_now (s : State) (n : Nat) (d : List Byte) (j : Job) : (takeHead s n d j).1.now = s.now := (takeHead_hostOnly s n d j).now
@[simp] theorem takeHead_captured (s : State) (n : Nat) (d : List Byte) (j : Job) : (takeHead s n d j).1.captured = s.captured := (takeHead_hostOnly s n d j).captured
@[simp] theorem takeHead_pins (s : State) (n : Nat) (d : List Byte) (j : Job) : (takeHead s n d j).1.pins = s.pins := (takeHead_hostOnly s n d j).pins
@[simp] theorem takeHead_rs (s : State) (n : Nat) (d : List Byte) (j : Job) : (takeHead s n d j).1.rs = s.rs := (takeHead_hostOnly s n d j).rs
@[simp] theorem takeHead_tap (s : State) (n : Nat) (d : List Byte) (j : Job) : (takeHead s n d j).1.tap = s.tap := (takeHead_hostOnly s n d j).tap
@[simp] theorem takeHead_mb (s : State) (n : Nat) (d : List Byte) (j : Job) : (takeHead s n d j).1.mb = s.mb := (takeHead_hostOnly s n d j).mb
@[simp] theorem takeHead_tb (s : State) (n : Nat) (d : List Byte) (j : Job) : (takeHead s n d j).1.tb = s.tb := (takeHead_hostOnly s n d j).tb
@[simp] theorem takeHead_vfs (s : State) (n : Nat) (d : List Byte) (j : Job) : (takeHead s n d j).1.vfs = s.vfs := (takeHead_hostOnly s n d j).vfs
@[simp] theorem takeHead_sa (s : State) (n : Nat) (d : List Byte) (j : Job) : (takeHead s n d j).1.sa = s.sa := (takeHead_hostOnly s n d j).sa
@[simp] theorem takeHead_be (s : State) (n : Nat) (d : List Byte) (j : Job) : (takeHead s n d j).1.be = s.be := (takeHead_hostOnly s n d j).be
@[simp] theorem takeHead_pc (s : State) (n : Nat) (d : List Byte) (j : Job) : (takeHead s n d j).1.pc = s.pc := (takeHead_hostOnly s n d j).pc
@[simp] theorem takeHead_cc (s : State) (n : Nat) (d : List Byte) (j : Job) : (takeHead s n d j).1.cc = s.cc := (takeHead_hostOnly s n d j).cc
@[simp] theorem takeHead_mf (s : State) (n : Nat) (d : List Byte) (j : Job) : (takeHead s n d j).1.mf = s.mf := (takeHead_hostOnly s n d j).mf
@[simp] theorem takeHead_pb (s : State) (n : Nat) (d : List Byte) (j : Job) : (takeHead s n d j).1.pb = s.pb := (takeHead_hostOnly s n d j).pb
@[simp] theorem takeHead_th (s : State) (n : Nat) (d : List Byte) (j : Job) : (takeHead s n d j).1.th = s.th := (takeHead_hostOnly s n d j).th
@[simp] theorem takeHead_bg (s : State) (n : Nat) (d : List Byte) (j : Job) : (takeHead s n d j).1.bg = s.bg := (takeHead_hostOnly s n d j).bg
@[simp] theorem takeHead_du (s : State) (n : Nat) (d : List Byte) (j : Job) : (takeHead s n d j).1.du = s.du := (takeHead_hostOnly s n d j).du
@[simp] theorem takeHead_sp (s : State) (n : Nat) (d : List Byte) (j : Job) : (takeHead s n d j).1.sp = s.sp := (takeHead_hostOnly s n d j).sp
@[simp] theorem takeHead_obs (s : State) (n : Nat) (d : List Byte) (j : Job) : (takeHead s n d j).1.obs = s.obs := (takeHead_hostOnly s n d j).obs
@[simp] theorem takeHead_bus (s : State) (n : Nat) (d : List Byte) (j : Job) : (takeHead s n d j).1.bus = s.bus := (takeHead_hostOnly s n d j).bus

/-! ## Registers -/

@[simp] theorem hapPump_regs (s : State) : (hapPump s).regs = s.regs := by
  unfold hapPump
  generalize s.hap.wait = l
  suffices h : ∀ t : State, (l.foldl (fun s r => if r.wait == 0 && canIssue s r.cls then issueNow s r
      else { s with hap.wait := s.hap.wait ++ [r] }) t).regs = t.regs by exact h _
  induction l with
  | nil => exact fun _ => rfl
  | cons r l ih =>
    intro t
    rw [List.foldl_cons, ih]
    split <;> rfl

@[simp] theorem hapPump_hr (s : State) : (hapPump s).hr = s.hr := by
  unfold hapPump
  generalize s.hap.wait = l
  suffices h : ∀ t : State, (l.foldl (fun s r => if r.wait == 0 && canIssue s r.cls then issueNow s r
      else { s with hap.wait := s.hap.wait ++ [r] }) t).hr = t.hr by exact h _
  induction l with
  | nil => exact fun _ => rfl
  | cons r l ih =>
    intro t
    rw [List.foldl_cons, ih]
    split <;> rfl

@[simp] theorem hapReq_regs (s : State) (w : Bool) (a b c : Nat) (e : Bool) (d : List Byte) (p : Purpose) :
    (hapReq s w a b c e d p).regs = s.regs := by simp [hapReq]
@[simp] theorem hapReq_hr (s : State) (w : Bool) (a b c : Nat) (e : Bool) (d : List Byte) (p : Purpose) :
    (hapReq s w a b c e d p).hr = s.hr := by simp [hapReq]
@[simp] theorem putEvent_regs (s : State) (e : Event) : (putEvent s e).regs = s.regs := by simp [putEvent]

theorem flushOne_regs (s : State) : (flushOne s).regs = s.regs := by
  unfold flushOne
  split
  · split <;> simp
  · rfl

@[simp] theorem flushEvents_regs (s : State) : (flushEvents s).regs = s.regs := by
  unfold flushEvents
  have h : ∀ (l : List Nat) (t : State), (l.foldl (fun s _ => flushOne s) t).regs = t.regs := by
    intro l
    induction l with
    | nil => exact fun _ => rfl
    | cons _ l ih => intro t; rw [List.foldl_cons, ih, flushOne_regs]
  dsimp only
  split
  · rw [putEvent_regs]; exact h _ _
  · exact h _ _

/-- An event changes no register but the count of those discarded. -/
theorem getF_raiseEvent (s : State) (c k u : Nat) (d : List Byte) {g : Fld} (h : g.key ≠ Reg.HR_EV_DROP.COUNT.key) :
    getF (raiseEvent s c k u d) g = getF s g := by
  unfold raiseEvent
  split
  · simp [getF]
  · exact getF_setF_ne _ h _

@[simp] theorem putCpl_regs (s : State) (n slot tag st d : Nat) : (putCpl s n slot tag st d).regs = s.regs := by
  unfold putCpl; dsimp only; split
  · rfl
  · split <;> simp

@[simp] theorem formCpl_regs (s : State) (n slot tag st d : Nat) : (formCpl s n slot tag st d).regs = s.regs := by
  unfold formCpl; split <;> simp

@[simp] theorem ringIdle_regs (s : State) (n : Nat) : (ringIdle s n).regs = s.regs := by
  unfold ringIdle; split <;> rfl

@[simp] theorem complete_regs (s : State) (f : Flight) (st d : Nat) : (complete s f st d).regs = s.regs := by simp [complete]

@[simp] theorem fetchMore_regs (s : State) (n : Nat) : (fetchMore s n).regs = s.regs := by
  unfold fetchMore; dsimp only; split <;> simp

@[simp] theorem takeHead_regs (s : State) (n : Nat) (d : List Byte) (j : Job) : (takeHead s n d j).1.regs = s.regs := by
  simp [takeHead]

/-! ## Every command goes on -/

@[simp] theorem finish_eq (s : State) : finish s = .next (settle s) := rfl

end Sys2Proof.Machine
end

