-- ==== Sys2Proof/Laws/Hap.lean ====
section
/-! SUPPORT. What asking for a master request, an event or a completion does at the Host Access Port: requests are added to those
outstanding and none is taken away; quarantines and results stay. And what the passing of time changes. -/

namespace Sys2Proof.Machine

/-- Requests are added to those outstanding; quarantines, results, and whether requests may be issued stay. -/
def HapGrows (s t : State) : Prop :=
  (∃ l, t.hap.out = s.hap.out ++ l) ∧ t.hap.quar = s.hap.quar ∧ t.hap.done = s.hap.done ∧ t.hap.stopped = s.hap.stopped ∧
    t.hap.ss = s.hap.ss

theorem HapGrows.refl (s : State) : HapGrows s s := ⟨⟨[], by simp⟩, rfl, rfl, rfl, rfl⟩

theorem HapGrows.of_eq {s t : State} (h : t.hap = s.hap) : HapGrows s t := by
  unfold HapGrows; rw [h]; exact HapGrows.refl s

theorem HapGrows.trans {s t u : State} (h : HapGrows s t) (k : HapGrows t u) : HapGrows s u := by
  obtain ⟨⟨l, hl⟩, h1, h2, h3, h4⟩ := h
  obtain ⟨⟨m, hm⟩, k1, k2, k3, k4⟩ := k
  exact ⟨⟨l ++ m, by rw [hm, hl, List.append_assoc]⟩, by rw [k1, h1], by rw [k2, h2], by rw [k3, h3], by rw [k4, h4]⟩

theorem HapGrows.ite {c : Prop} [Decidable c] {s t u : State} (h : HapGrows s t) (k : HapGrows s u) :
    HapGrows s (if c then t else u) := by
  split
  · exact h
  · exact k

theorem HapGrows.foldl {β : Type} {f : State → β → State} (h : ∀ s b, HapGrows s (f s b)) (l : List β) (s : State) :
    HapGrows s (l.foldl f s) := by
  induction l generalizing s with
  | nil => exact HapGrows.refl s
  | cons b l ih => exact (h s b).trans (ih (f s b))

/-- A request outstanding stays outstanding. -/
theorem HapGrows.mem {s t : State} (h : HapGrows s t) {r : MReq} (hr : r ∈ s.hap.out) : r ∈ t.hap.out := by
  obtain ⟨⟨l, hl⟩, _⟩ := h
  rw [hl]; exact List.mem_append_left _ hr

theorem setWait_grows (s : State) (w : List MReq) : HapGrows s { s with hap.wait := w } := ⟨⟨[], by simp⟩, rfl, rfl, rfl, rfl⟩
theorem issueNow_grows (s : State) (r : MReq) : HapGrows s (issueNow s r) := ⟨⟨_, rfl⟩, rfl, rfl, rfl, rfl⟩

theorem hapPump_grows (s : State) : HapGrows s (hapPump s) :=
  (setWait_grows s []).trans (HapGrows.foldl (fun s r => HapGrows.ite (issueNow_grows s r) (setWait_grows s _)) _ _)

theorem hapReq_grows (s : State) (w : Bool) (a b c : Nat) (e : Bool) (d : List Byte) (p : Purpose) :
    HapGrows s (hapReq s w a b c e d p) := (setWait_grows s _).trans (hapPump_grows _)

theorem putEvent_grows (s : State) (e : Event) : HapGrows s (putEvent s e) :=
  HapGrows.trans (HapGrows.of_eq rfl) (hapReq_grows ..)

theorem flushOne_grows (s : State) : HapGrows s (flushOne s) := by
  unfold flushOne
  split
  · exact HapGrows.ite (HapGrows.trans (HapGrows.of_eq rfl) (putEvent_grows ..)) (HapGrows.refl _)
  · exact HapGrows.refl _

theorem flushEvents_grows (s : State) : HapGrows s (flushEvents s) :=
  (HapGrows.foldl (fun s _ => flushOne_grows s) (List.range s.hr.evHeld.length) s).trans
    (HapGrows.ite (HapGrows.trans (HapGrows.of_eq rfl) (putEvent_grows ..)) (HapGrows.refl _))

theorem raiseEvent_grows (s : State) (c k u : Nat) (d : List Byte) : HapGrows s (raiseEvent s c k u d) :=
  HapGrows.ite (HapGrows.trans (HapGrows.of_eq rfl) (flushEvents_grows _)) (HapGrows.of_eq rfl)

theorem putTel_grows (s : State) (e : Event) : HapGrows s (putTel s e) :=
  HapGrows.ite (HapGrows.trans (HapGrows.of_eq rfl) (hapReq_grows ..))
    (HapGrows.trans (t := incSat s Reg.HR_TEL_DROP.COUNT) (HapGrows.of_eq rfl)
      (HapGrows.ite (HapGrows.refl _) (HapGrows.trans (HapGrows.of_eq rfl) (raiseEvent_grows ..))))

theorem hapErr_grows (s : State) (f : Fld) (b : Nat) (k : Bool) (a t st : Nat) : HapGrows s (hapErr s f b k a t st) := by
  have h : HapGrows s (if k && hapErrClear s then
      setF (setF s Reg.HAP_ERR_ADDR_LO.ADDR (a % 2 ^ 32)) Reg.HAP_ERR_ADDR_HI.ADDR (a / 2 ^ 32) else s) :=
    HapGrows.ite (HapGrows.of_eq rfl) (HapGrows.refl _)
  unfold hapErr
  dsimp only
  generalize (if (k && hapErrClear s) = true then _ else s) = u at *
  split
  · exact h
  · refine h.trans (HapGrows.trans ?_ (raiseEvent_grows (setF u f 1) _ _ _ _))
    exact HapGrows.of_eq rfl

theorem hapFail_grows (s : State) (a t st : Nat) : HapGrows s (hapFail s a t st) :=
  HapGrows.ite (hapErr_grows ..) (HapGrows.ite (hapErr_grows ..) (HapGrows.ite (hapErr_grows ..)
    (HapGrows.ite (HapGrows.refl _) (hapErr_grows ..))))

theorem ringIdle_grows (s : State) (n : Nat) : HapGrows s (ringIdle s n) := HapGrows.ite (HapGrows.of_eq rfl) (HapGrows.refl _)

theorem putCpl_grows (s : State) (n slot tag st d : Nat) : HapGrows s (putCpl s n slot tag st d) := by
  unfold putCpl
  dsimp only
  split
  · exact HapGrows.of_eq rfl
  · split
    · exact HapGrows.of_eq rfl
    · refine HapGrows.trans ?_ (hapReq_grows _ _ _ _ _ _ _ _)
      exact HapGrows.of_eq rfl

theorem formCpl_grows (s : State) (n slot tag st d : Nat) : HapGrows s (formCpl s n slot tag st d) :=
  HapGrows.ite (HapGrows.of_eq rfl) (putCpl_grows ..)

theorem complete_grows (s : State) (f : Flight) (st d : Nat) : HapGrows s (complete s f st d) := by
  unfold complete
  refine HapGrows.trans (HapGrows.trans ?_ (formCpl_grows _ _ _ _ _ _)) (ringIdle_grows _ _)
  exact HapGrows.of_eq rfl

/-! ## HAP_ERR -/

/-- Recording an error leaves its bit set. -/
theorem hapErr_set (s : State) (f : Fld) (b : Nat) (k : Bool) (a t st : Nat) (hw : f.w = 1)
    (hd : f.key ≠ Reg.HR_EV_DROP.COUNT.key) : flagOn (hapErr s f b k a t st) f = true := by
  unfold hapErr
  dsimp only
  generalize (if (k && hapErrClear s) = true then _ else s) = u
  split
  · assumption
  · unfold flagOn
    rw [getF_raiseEvent _ _ _ _ _ hd, getF_setF_same, hw]; rfl

/-! ## Time -/

theorem advanceTo_now (s : State) (t : Nat) : (advanceTo s t).now = max s.now t := by
  unfold advanceTo; dsimp only; split
  · omega
  · show t = max s.now t; omega

theorem advanceTo_frame (s : State) (t : Nat) : (advanceTo s t).regs = s.regs ∧ (advanceTo s t).rs = s.rs ∧
    (advanceTo s t).hap = s.hap ∧ (advanceTo s t).hr = s.hr ∧ (advanceTo s t).be = s.be ∧ (advanceTo s t).th = s.th ∧
    (advanceTo s t).mf = s.mf ∧ (advanceTo s t).pins = s.pins ∧ (advanceTo s t).pending = s.pending ∧
    (advanceTo s t).bg = s.bg ∧ (advanceTo s t).build = s.build ∧ (advanceTo s t).free = s.free ∧ (advanceTo s t).tap = s.tap ∧
    (advanceTo s t).du = s.du ∧ (advanceTo s t).captured = s.captured ∧ (advanceTo s t).mb = s.mb ∧ (advanceTo s t).vfs = s.vfs ∧
    (advanceTo s t).sa = s.sa ∧ (advanceTo s t).pb = s.pb ∧ (advanceTo s t).sp = s.sp ∧ (advanceTo s t).obs = s.obs ∧
    (advanceTo s t).bus = s.bus := by
  unfold advanceTo; dsimp only; split <;> simp

@[simp] theorem advanceTo_regs (s : State) (t : Nat) : (advanceTo s t).regs = s.regs := (advanceTo_frame s t).1
@[simp] theorem advanceTo_rs (s : State) (t : Nat) : (advanceTo s t).rs = s.rs := (advanceTo_frame s t).2.1
@[simp] theorem advanceTo_hap (s : State) (t : Nat) : (advanceTo s t).hap = s.hap := (advanceTo_frame s t).2.2.1
@[simp] theorem advanceTo_hr (s : State) (t : Nat) : (advanceTo s t).hr = s.hr := (advanceTo_frame s t).2.2.2.1
@[simp] theorem advanceTo_be (s : State) (t : Nat) : (advanceTo s t).be = s.be := (advanceTo_frame s t).2.2.2.2.1
@[simp] theorem advanceTo_th (s : State) (t : Nat) : (advanceTo s t).th = s.th := (advanceTo_frame s t).2.2.2.2.2.1
@[simp] theorem advanceTo_mf (s : State) (t : Nat) : (advanceTo s t).mf = s.mf := (advanceTo_frame s t).2.2.2.2.2.2.1
@[simp] theorem advanceTo_pins (s : State) (t : Nat) : (advanceTo s t).pins = s.pins := (advanceTo_frame s t).2.2.2.2.2.2.2.1
@[simp] theorem advanceTo_pending (s : State) (t : Nat) : (advanceTo s t).pending = s.pending := (advanceTo_frame s t).2.2.2.2.2.2.2.2.1
@[simp] theorem advanceTo_bg (s : State) (t : Nat) : (advanceTo s t).bg = s.bg := (advanceTo_frame s t).2.2.2.2.2.2.2.2.2.1
@[simp] theorem advanceTo_build (s : State) (t : Nat) : (advanceTo s t).build = s.build := (advanceTo_frame s t).2.2.2.2.2.2.2.2.2.2.1
@[simp] theorem advanceTo_free (s : State) (t : Nat) : (advanceTo s t).free = s.free := (advanceTo_frame s t).2.2.2.2.2.2.2.2.2.2.2.1
@[simp] theorem advanceTo_tap (s : State) (t : Nat) : (advanceTo s t).tap = s.tap := (advanceTo_frame s t).2.2.2.2.2.2.2.2.2.2.2.2.1
@[simp] theorem advanceTo_du (s : State) (t : Nat) : (advanceTo s t).du = s.du := (advanceTo_frame s t).2.2.2.2.2.2.2.2.2.2.2.2.2.1
@[simp] theorem advanceTo_captured (s : State) (t : Nat) : (advanceTo s t).captured = s.captured := (advanceTo_frame s t).2.2.2.2.2.2.2.2.2.2.2.2.2.2.1
@[simp] theorem advanceTo_mb (s : State) (t : Nat) : (advanceTo s t).mb = s.mb := (advanceTo_frame s t).2.2.2.2.2.2.2.2.2.2.2.2.2.2.2.1
@[simp] theorem advanceTo_vfs (s : State) (t : Nat) : (advanceTo s t).vfs = s.vfs := (advanceTo_frame s t).2.2.2.2.2.2.2.2.2.2.2.2.2.2.2.2.1
@[simp] theorem advanceTo_sa (s : State) (t : Nat) : (advanceTo s t).sa = s.sa := (advanceTo_frame s t).2.2.2.2.2.2.2.2.2.2.2.2.2.2.2.2.2.1
@[simp] theorem advanceTo_pb (s : State) (t : Nat) : (advanceTo s t).pb = s.pb := (advanceTo_frame s t).2.2.2.2.2.2.2.2.2.2.2.2.2.2.2.2.2.2.1
@[simp] theorem advanceTo_sp (s : State) (t : Nat) : (advanceTo s t).sp = s.sp := (advanceTo_frame s t).2.2.2.2.2.2.2.2.2.2.2.2.2.2.2.2.2.2.2.1
@[simp] theorem advanceTo_obs (s : State) (t : Nat) : (advanceTo s t).obs = s.obs := (advanceTo_frame s t).2.2.2.2.2.2.2.2.2.2.2.2.2.2.2.2.2.2.2.2.1
@[simp] theorem advanceTo_bus (s : State) (t : Nat) : (advanceTo s t).bus = s.bus := (advanceTo_frame s t).2.2.2.2.2.2.2.2.2.2.2.2.2.2.2.2.2.2.2.2.2

/-- The passing of time leaves of the time base all but the counter. -/
theorem advanceTo_tb (s : State) (t : Nat) : (advanceTo s t).tb = { s.tb with time := (advanceTo s t).tb.time } := by
  unfold advanceTo; dsimp only; split <;> rfl

@[simp] theorem advanceTo_getF (s : State) (t : Nat) (f : Fld) : getF (advanceTo s t) f = getF s f := by simp [getF]
@[simp] theorem advanceTo_rails (s : State) (t : Nat) : (advanceTo s t).pc.rails = s.pc.rails := by
  unfold advanceTo; dsimp only; split <;> rfl
@[simp] theorem advanceTo_rail (s : State) (t r : Nat) : rail (advanceTo s t) r = rail s r := by simp [rail]

/-- A look-up in a table whose every value is changed by a function that keeps the default. -/
theorem tget_map {α : Type} (d : α) (g : Nat → α → α) (hd : ∀ k, g k d = d) (l : List (Nat × α)) (k : Nat) :
    tget d (l.map (fun p => (p.1, g p.1 p.2))) k = g k (tget d l k) := by
  induction l with
  | nil => simp [tget, hd]
  | cons p l ih =>
    obtain ⟨a, v⟩ := p
    simp only [List.map_cons, tget]
    split
    · next h => subst h; rfl
    · exact ih

/-- The passing of time changes a tile agent's counts alone. -/
theorem advanceTo_tile (s : State) (t k : Nat) : tile (advanceTo s t) k = tile s k ∨ tile (advanceTo s t) k = countTile s (t - s.now) k (tile s k) := by
  unfold advanceTo; dsimp only; split
  · exact .inl rfl
  · refine .inr ?_
    refine tget_map {} (countTile s (t - s.now)) ?_ s.cc.tiles k
    intro k; unfold countTile waiting; simp

end Sys2Proof.Machine
end

