-- ==== Sys2Proof/Laws/Parts.lean ====
section
/-! SUPPORT. What smaller shared operations may change: the part that each is about, and nothing else. -/

namespace Sys2Proof.Machine

/-- The marker of an audit changes the audit alone. -/
theorem markerPass_frame (s : State) (t : Nat) : { markerPass s t with cc.audit := s.cc.audit } = s := by
  unfold markerPass; split
  · rfl
  · split <;> rfl

/-- A mark of the brake stands in the open report periods alone. -/
theorem noteBrake_frame (s : State) : { noteBrake s with bg.sec := s.bg.sec, bg.min_ := s.bg.min_ } = s := by
  unfold noteBrake; split <;> rfl

/-- A change of OWN is taken up by the open report periods alone. -/
theorem noteOwn_frame (s : State) : { noteOwn s with bg.sec := s.bg.sec, bg.min_ := s.bg.min_ } = s := by
  unfold noteOwn; split <;> rfl

/-- A lane out of service changes its register bit and where its traffic goes. -/
theorem laneOut_frame (s : State) (hub lane : Nat) : { laneOut s hub lane with regs := s.regs, sp := s.sp } = s := by
  simp only [laneOut]; split
  · rfl
  · split <;> rfl

/-- What a transaction gives stands at the board buses. -/
theorem pmbTaken_frame (s : State) (k : Nat) (x : PmbTxn) (bs : List Byte) : { pmbTaken s k x bs with bus := s.bus } = s := by
  simp only [pmbTaken]; split <;> split <;> rfl

/-- Slots are respaced at the ports alone. -/
theorem respace_frame (s : State) (r : Nat) : { respace s r with pc.ports := s.pc.ports } = s := by
  unfold respace
  generalize railPorts s r = l
  suffices h : ∀ t : State, { t with pc.ports := s.pc.ports } = s → { l.foldl (fun t p => modPort t p (fun x => { x with
      slot := if portOn x then slotSteps s r p else 0 })) t with pc.ports := s.pc.ports } = s from h s rfl
  induction l with
  | nil => exact fun _ h => h
  | cons p l ih => exact fun t h => ih _ (by exact h)

/-- A beat that passes leaves no more responses than stood there. -/
theorem passBeat_length (l : List SlaveResp) : (passBeat l).length ≤ l.length := by
  cases l with
  | nil => exact Nat.le_refl _
  | cons r l =>
    simp only [passBeat]; split
    · exact Nat.le_succ _
    · exact Nat.le_refl _

/-- What an idle step passes on leaves every register as it is. -/
theorem idle_regs (s : State) : (idle s).regs = s.regs := by
  unfold idle tckRuns; split <;> simp only [tapEdge, advanceTo] <;> split <;> rfl

end Sys2Proof.Machine
end

