-- ==== Sys2Proof/Laws/Tap.lean ====
section
/-! SUPPORT. What edges of TCK may change: the TAP controller, and nothing else. -/

namespace Sys2Proof.Machine

/-- An edge of TCK changes the TAP alone. -/
theorem tapEdge_frame (s : State) (tms tdi : Bool) : { tapEdge s tms tdi with tap := s.tap } = s := rfl

/-- The controller moves by TMS alone. -/
theorem tapEdge_st (s : State) (tms tdi : Bool) : (tapEdge s tms tdi).tap.st = tapNext s.tap.st tms := by
  unfold tapEdge
  cases h : s.tap.st <;> simp only [h]
  unfold drShift scanShift
  dsimp only
  split
  · split <;> exact congrArg (tapNext · tms) h
  · exact congrArg (tapNext · tms) h
  · exact congrArg (tapNext · tms) h

/-- Where a state differs from s in its TAP alone, putting the TAP of s back gives s. -/
theorem tap_frame_trans {s t u : State} (h : { t with tap := s.tap } = s) (k : { u with tap := t.tap } = t) : { u with tap := s.tap } = s := by
  rw [← k] at h; exact h

/-- Shifting changes the TAP alone. -/
theorem tapShift_frame (bs : List Bool) : ∀ s : State, { tapShift s bs with tap := s.tap } = s := by
  induction bs with
  | nil => intro s; rfl
  | cons b l ih =>
    intro s
    cases l with
    | nil => rfl
    | cons c l => exact tap_frame_trans (tapEdge_frame s false b) (ih (tapEdge s false b))

/-- A pass through a data register changes the TAP alone. -/
theorem tapScan_frame (s : State) (ir : Nat) (bs : List Bool) : { tapScan s ir bs with tap := s.tap } = s :=
  tap_frame_trans (t := tapEdge { s with tap := { s.tap with ir := ir, st := .captureDr } } false false) rfl (tapShift_frame bs _)

/-- An update of FX_FREEZE changes the TAP alone. -/
theorem tapUpdate_frame (b : Byte) (s : State) : { tapUpdate b s with tap := s.tap } = s :=
  tap_frame_trans (tapScan_frame s 0x20 (bitsLsb b.toNat 8)) (tapEdge_frame _ true false)

/-- A scan that goes on changes the TAP alone. -/
theorem tckRuns_frame (s : State) : { tckRuns s with tap := s.tap } = s := by
  unfold tckRuns; split <;> rfl

end Sys2Proof.Machine
end

