-- ==== Sys2Proof/WellFormed.lean ====
section
/-! DEFINITION. Well-formed commands: every operand within the range of the thing it names, in the reference configuration
(R18). A request of the host is well-formed whatever it holds, since the block answers every one (R47, R48). -/

namespace Sys2Proof

/-- A firmware processor that exists (R350). -/
def coreOk : Core → Bool
  | .hub k => decide (k < 8)
  | .tile t => decide (t < Config.aflux.tiles)

/-- A structure of at most 4 MiB (R327), or the failure of its read. -/
def memOk : MemRead → Bool
  | .data bs _ => decide (bs.length ≤ 4194304)
  | .fail st => st != 0

/-- An action of a program, or a forecast (R214, R218). -/
def effectOk : Effect → Bool
  | .action k => decide (k < 1024)
  | .forecast k => decide (k < 65536)

/-- A flow reading of 16 bits and a temperature (R259). -/
def readingOk : FlowRead → Bool
  | .read f t => decide (f < 65536) && decide (-1024 ≤ t) && decide (t ≤ 4095)
  | .missed => true
  | .nack flow inlet => flow || inlet

/-- Censuses within the build (R386), and lanes within 18. -/
def releaseOk (o : ReleaseObs) : Bool :=
  decide (o.lanes0 < 2 ^ 18) && decide (o.lanes1 < 2 ^ 18) && (o.census0 ++ o.census1).all (fun t => decide (t < Config.aflux.tiles))

/-- A ring frame carries 12 bytes of image, and a 32-bit check (R392). -/
def ringFrameOk : RingFrame → Bool
  | .data _ bs => bs.length == 12
  | .close _ crc => decide (crc < 2 ^ 32)

/-- The end of a PMBus transaction, whose answer a block read bounds: a count, 32 bytes and the PEC (R55). -/
def pmbEndOk : PmbEnd → Bool
  | .answer bs => decide (bs.length ≤ 34)
  | _ => true

/-- The commands that take a kind of transaction: every command but CLEAR_FAULTS writes or reads, and one that reads has a reading kind
(R55). -/
def pmbTxnWf (t : PmbTxn) : Bool :=
  (t.kind == .sendByte) == (t.cmd == .clearFaults) &&
    (t.kind == .blockRead) == (t.cmd == .mfrId || t.cmd == .mfrModel) &&
    t.out.length == (match t.kind with
      | .writeByte => 1
      | .writeWord => 2
      | _ => 0)

/-- Failures that name units of the build (R389), and identities within their fields (R58). -/
def agreeOk (o : AgreeObs) : Bool :=
  o.dets.all (fun d => decide (d < 2048)) && o.snss.all (fun d => decide (d < 1056)) &&
    o.ports.all (fun p => decide (p < Config.aflux.ports)) && o.pmbus.all (fun p => pmbEndOk p.2) &&
    o.i3c.all (fun p => match p.2 with
      | some x => decide (x.pid < 2 ^ 48) && decide (x.bcr < 256) && decide (x.dcr < 256)
      | none => true)

/-- Whether a command is well-formed. DEDUCED (log 67). -/
def Instr.wf : Instr → Bool
  | .registerWrite _ => true
  | .captureRead _ => true
  | .hapMasterResponse _ => true
  | .hapTimeout _ => true
  | .misfitLastTimeout _ => true
  | .govVddOff => true
  | .powerOnReset => true
  | .resetNAssert => true
  | .resetNRelease => true
  | .trstNAssert => true
  | .optionLoadStart samples => samples.length == 8 && samples.all (fun p => decide (p.bootSrc < 4) && decide (p.clkMode < 4))
  | .fuseReadDone _ => true
  | .fuseAckTimeout => true
  | .domainRelease obs => releaseOk obs
  | .bringupStuck => true
  | .tlWaitTimeout => true
  | .oscStable _ => true
  | .tlLoss => true
  | .xtalLoss => true
  | .sourceSwitch => true
  | .revertToSource _ => true
  | .cdrLock ps => decide (ps < 2 ^ 28)
  | .tlFrame _ => true
  | .tlMarkMissed => true
  | .slewCycle => true
  | .trimWindow count => decide (count < 65536)
  | .vfsLevelChange tile => decide (tile < Config.aflux.tiles)
  | .vfsSettled rail => decide (rail < Config.aflux.rails)
  | .tileLevelReport tile => decide (tile < Config.aflux.tiles)
  | .vfsSettleTimeout rail => decide (rail < Config.aflux.rails)
  | .stepAngleUpdate _ wait => decide (wait < 2 ^ 32)
  | .angleExtrapolate => true
  | .angleTimer _ => true
  | .angleLoss => true
  | .trackerEnable _ => true
  | .beFrame obs => obs.badWords.all (fun p => decide (p.1 < 1024) && decide (p.2 < 16))
  | .profileTick => true
  | .beStopWrite _ => true
  | .beStartWrite _ => true
  | .brimWrite _ => true
  | .pgLimitWrite _ => true
  | .loopDataWrite _ => true
  | .loopWrite => true
  | .loopImageLoad mem => memOk mem
  | .domainStop => true
  | .domainStart => true
  | .hubFault _ => true
  | .compensatorUpdate vsns => vsns.all (fun p => decide (p.1 < Config.aflux.rails) && decide (p.2 < 8192))
  | .phaseReportFrame port _ _ => decide (port < Config.aflux.ports)
  | .railPeriodBoundary rail => decide (rail < Config.aflux.rails)
  | .shedHoldExpiry rail => decide (rail < Config.aflux.rails)
  | .fireHoldExpiry rail => decide (rail < Config.aflux.rails)
  | .uvfRise rail => decide (rail < Config.aflux.rails)
  | .fireEnd rail => decide (rail < Config.aflux.rails)
  | .fireMaxExpiry rail => decide (rail < Config.aflux.rails)
  | .railStart => true
  | .railStop => true
  | .railDelayExpiry rail => decide (rail < Config.aflux.rails)
  | .railRampDone rail => decide (rail < Config.aflux.rails)
  | .railSettled rail => decide (rail < Config.aflux.rails)
  | .railStartTimeout rail => decide (rail < Config.aflux.rails)
  | .hiccupExpiry rail => decide (rail < Config.aflux.rails)
  | .railStopDone rail => decide (rail < Config.aflux.rails)
  | .fastOffDone rail => decide (rail < Config.aflux.rails)
  | .phaseRetire => true
  | .railFltClear _ => true
  | .railSrcWrite _ => true
  | .vselChange _ => true
  | .pwrgdFall => true
  | .pwrgdRise => true
  | .shelfBrakeAssert => true
  | .brakeEscalation => true
  | .brakeMissCheck => true
  | .shelfBrakeDeassert => true
  | .detectorTrip det _ => decide (det < 2048)
  | .detectorClear det _ => decide (det < 2048)
  | .stretchHoldExpiry tile => decide (tile < Config.aflux.tiles)
  | .detectorSelfTest tile fails => decide (tile < Config.aflux.tiles) && fails.all (fun k => decide (k < 16))
  | .detectorStuck det => decide (det < 2048)
  | .engineStartRequest tile starts => decide (tile < Config.aflux.tiles) && starts.all (fun p => decide (p.1 < 64) && decide (p.2 < 256))
  | .engineEnd tile ends => decide (tile < Config.aflux.tiles) && ends.all (fun e => decide (e < 64))
  | .opMaxExpiry tile engine => decide (tile < Config.aflux.tiles) && decide (engine < 64)
  | .creditRelease tile _ => decide (tile < Config.aflux.tiles)
  | .tileReport tile _ => decide (tile < Config.aflux.tiles)
  | .creditReturn tile _ => decide (tile < Config.aflux.tiles)
  | .creditAuditStart _ => true
  | .auditNowWrite _ => true
  | .creditAuditReturn => true
  | .tileLost tile => decide (tile < Config.aflux.tiles)
  | .tileOrphan tile => decide (tile < Config.aflux.tiles)
  | .censusRequest tile => decide (tile < Config.aflux.tiles)
  | .clusterPowerOk tile trips => decide (tile < Config.aflux.tiles) && trips.all (fun p => decide (p.det < 16 ∧ p.a < 2048 ∧ p.b < 2048))
  | .clPwrHoldExpiry tile => decide (tile < Config.aflux.tiles)
  | .stepBoundary => true
  | .programSwitch => true
  | .planSwitch => true
  | .actionMaxExpiry effect => effectOk effect
  | .phasebookLoad mem => memOk mem
  | .forecast entry => memOk entry
  | .forecastCancel => true
  | .pbClearBins _ => true
  | .pbBinLog2Write _ => true
  | .pbUnload _ => true
  | .pbActionsDisable _ => true
  | .sensorSampleWindow counts => counts.all (fun p => decide (p.1 < 1056))
  | .thermalCeilingLift tile => decide (tile < Config.aflux.tiles)
  | .orderlyDrainDone => true
  | .orderlyDrainTimeout => true
  | .orderlyClustersOff => true
  | .thermalRearm => true
  | .flowOkLow => true
  | .flowOkHigh => true
  | .flowPoll => true
  | .flowReading reading => readingOk reading
  | .sizingRoundDone _ => true
  | .sizingTimeout => true
  | .observerLoad mem => memOk mem
  | .observerSwitch => true
  | .observerEnable _ => true
  | .observerSolve => true
  | .observerSettled => true
  | .limitSetWrite _ => true
  | .rainflowSample => true
  | .budgetCeilingLift => true
  | .secondBoundary => true
  | .minuteBoundary => true
  | .rptConsWrite _ => true
  | .exchangePeriod => true
  | .feltCredit _ => true
  | .feltAck _ => true
  | .feltDemand _ => true
  | .feltPace _ => true
  | .feltView _ => true
  | .feltAudit _ => true
  | .feltAuditReply _ => true
  | .feltStep _ => true
  | .feltSyncReq _ => true
  | .feltSyncAns _ => true
  | .syncWaitDone link => decide (link ≤ 32)
  | .feltBadMessage _ => true
  | .feltUndelivered _ => true
  | .feltRetry link => decide (link ≤ 32)
  | .feltGapTimeout link => decide (link ≤ 32)
  | .peerTimeout link => decide (link ≤ 32)
  | .rootAuditStart => true
  | .auditAbandon => true
  | .planLoad mem => memOk mem
  | .envelopeSet => true
  | .feltSync => true
  | .accountRead back => memOk back
  | .accountFlush => true
  | .qbindWrite _ => true
  | .accountFetchDone => true
  | .accountWriteback => true
  | .accountWritebackDone => true
  | .reportKeyRead => true
  | .doorbellPoll => true
  | .doorbellReadDone => true
  | .descriptorFetchDone => true
  | .descriptorBadOpcode => true
  | .completionWriteDone => true
  | .ringEnable _ => true
  | .ringDisable _ => true
  | .nop => true
  | .manifestLoad mem agree => memOk mem && agreeOk agree
  | .ready => true
  | .firmwareLoad mem _ => memOk mem
  | .firmwareImageStart => true
  | .tileBroadcastDone taken => taken.all (fun p => decide (p.1 < Config.aflux.tiles) && p.2.all ringFrameOk)
  | .blockResetEngine => true
  | .blockResetCluster => true
  | .blockResetPartition => true
  | .blockResetSubBlock => true
  | .blockResetWhole => true
  | .tileResetStrand tile => decide (tile < Config.aflux.tiles)
  | .tileResetDone tile => decide (tile < Config.aflux.tiles)
  | .tileResetTimeout tile => decide (tile < Config.aflux.tiles)
  | .subBlockHold _ => true
  | .subBlockRelease _ => true
  | .clusterPowerUp => true
  | .clusterPowerDown => true
  | .waveStart => true
  | .clusterPowerOkTimeout tile => decide (tile < Config.aflux.tiles)
  | .watchArm => true
  | .watchClear => true
  | .freeze => true
  | .thaw => true
  | .freezeTimedInstant => true
  | .freezeSettled => true
  | .thawWrite _ => true
  | .obsClearWrite _ => true
  | .opCountTransfer tile => decide (tile < Config.aflux.tiles)
  | .tapFreeze _ => true
  | .tapThaw _ => true
  | .scanCapture => true
  | .scanExit => true
  | .tapFirmwareLoad bytes => decide (bytes.length ≤ 4194304)
  | .fuseRecordBad _ => true
  | .fuseRecordSpare _ => true
  | .fuseRecordRetired _ => true
  | .sramRowRepair hub _ row _ kind _ => decide (hub < Config.aflux.hubs) && decide (row < 16384) && decide (kind < 6)
  | .mirrorLaneFail hub lane => decide (hub < Config.aflux.hubs) && decide (lane < 18)
  | .wearUpdate => true
  | .wearSelWrite _ => true
  | .coreTrap core => coreOk core
  | .coreDeadlineExpiry core => coreOk core
  | .coreRestarted core => coreOk core
  | .journalFrame obs => decide (obs.lagNs < 65536) && decide (obs.lanes < 262144)
  | .journalAck => true
  | .mirrorSynced => true
  | .takeoverRequest => true
  | .heartbeatAbsent => true
  | .heartbeatLoss _ => true
  | .mirrorLost _ => true
  | .forcedTakeover _ => true
  | .mbH2fDataWrite _ => true
  | .mbDoorbell _ => true
  | .mbF2hDataRead _ => true
  | .mbEcho _ => true
  | .mbFwInfo _ => true
  | .mbCoreState _ => true
  | .mbLockFirmware _ => true
  | .mbLockEnvelope _ => true
  | .mbUnknownType _ => true
  | .mbReplyTimeout _ => true
  | .telemetrySample => true
  | .pmbAlert _ => true
  | .pmbusTransactionFail record failed => decide (record < 256) && pmbTxnWf failed.txn
  | .pmbusRetry record res => decide (record < 256) && (res.map pmbEndOk).getD true
  | .i3cIbi record payload => decide (record < 256) && decide (payload.length ≤ 4)
  | .heartbeatReturn => true
  | .clPwrOkFall tile => decide (tile < Config.aflux.tiles)
  | .levelOrder tile => decide (tile < Config.aflux.tiles)
  | .quarantineRelease _ => true
  | .blockResetDrainTimeout => true
  | .snapshotValid => true
  | .mailboxFramingTimeout _ => true

end Sys2Proof
end

