-- ==== Sys2Proof/Tests/Slice0.lean ====
section
/-! SUPPORT. Tests: ill-formed commands are refused, the spec's worked examples hold, single commands do what their rules say, and
the hypotheses of every obligation are met together. Expected values come from the spec's tables and worked examples. -/

namespace Sys2Proof.Tests

open Sys2Proof Sys2Proof.Machine

-- One theorem at a time: many kernel evaluations at once would ask for more threads than the check allows.
set_option Elab.async false

/-! ## WellFormed: one ill-formed command for each check -/

theorem test_wf_straps : Instr.wf (.optionLoadStart []) = false ∧ Instr.wf (.optionLoadStart (List.replicate 8 ⟨4, 3, true⟩)) = false ∧
    Instr.wf (.optionLoadStart (List.replicate 8 ⟨3, 4, true⟩)) = false ∧ Instr.wf (.optionLoadStart (List.replicate 8 ⟨3, 3, true⟩)) = true := by decide
theorem test_wf_release : Instr.wf (.domainRelease { lanes0 := 2 ^ 18 }) = false ∧ Instr.wf (.domainRelease { lanes1 := 2 ^ 18 }) = false ∧
    Instr.wf (.domainRelease { census0 := [128] }) = false ∧ Instr.wf (.domainRelease { census1 := [127] }) = true := by decide
theorem test_wf_time : Instr.wf (.cdrLock (2 ^ 28)) = false ∧ Instr.wf (.trimWindow 65536) = false ∧ Instr.wf (.stepAngleUpdate 0 (2 ^ 32)) = false := by decide
theorem test_wf_tiles : ∀ i ∈ [Instr.vfsLevelChange 128, .tileLevelReport 128, .stretchHoldExpiry 128, .engineStartRequest 128 [], .engineEnd 128 [],
    .opMaxExpiry 128 0, .tileLost 128, .tileOrphan 128, .censusRequest 128, .clusterPowerOk 128 [], .clPwrHoldExpiry 128, .thermalCeilingLift 128,
    .tileResetStrand 128, .tileResetDone 128, .tileResetTimeout 128, .clusterPowerOkTimeout 128, .opCountTransfer 128, .clPwrOkFall 128, .levelOrder 128,
    .detectorSelfTest 128 [], .tileBroadcastDone [(128, [])], .tileBroadcastDone [(0, [.data 0 []])], .tileBroadcastDone [(0, [.close 0 (2 ^ 32)])]], Instr.wf i = false := by decide
theorem test_wf_rails : ∀ i ∈ [Instr.vfsSettled 12, .vfsSettleTimeout 12, .railPeriodBoundary 12, .shedHoldExpiry 12, .fireHoldExpiry 12, .uvfRise 12,
    .fireEnd 12, .fireMaxExpiry 12, .railDelayExpiry 12, .railRampDone 12, .railSettled 12, .railStartTimeout 12, .hiccupExpiry 12, .railStopDone 12,
    .fastOffDone 12, .compensatorUpdate [(12, 0)], .compensatorUpdate [(0, 8192)], .phaseReportFrame 192 0 true], Instr.wf i = false := by decide
theorem test_wf_parts : ∀ i ∈ [Instr.detectorSelfTest 0 [16], .detectorStuck 2048, .engineStartRequest 0 [(64, 0)], .engineStartRequest 0 [(0, 256)],
    .engineEnd 0 [64], .opMaxExpiry 0 64, .clusterPowerOk 0 [⟨16, 0, 0⟩], .clusterPowerOk 0 [⟨0, 2048, 0⟩], .beFrame { badWords := [(1024, 0)] }, .beFrame { badWords := [(0, 16)] },
    .sensorSampleWindow [(1056, 0)], .flowReading (.read 65536 0), .flowReading (.read 0 4096), .flowReading (.nack false false)], Instr.wf i = false := by decide
theorem test_wf_effects : ∀ i ∈ [Instr.actionMaxExpiry (.action 1024), .actionMaxExpiry (.forecast 65536), .syncWaitDone 33, .feltRetry 33, .feltGapTimeout 33,
    .peerTimeout 33], Instr.wf i = false := by decide
theorem test_wf_loads : ∀ i ∈ [Instr.loopImageLoad (.fail 0), .phasebookLoad (.fail 0), .forecast (.fail 0), .observerLoad (.fail 0), .planLoad (.fail 0),
    .accountRead (.fail 0), .manifestLoad (.fail 0) {}, .firmwareLoad (.fail 0) 0, .manifestLoad (.fail 1) { dets := [2048] },
    .manifestLoad (.fail 1) { snss := [1056] }, .manifestLoad (.fail 1) { ports := [192] }, .manifestLoad (.fail 1) { i3c := [(0, some ⟨2 ^ 48, 0, 0⟩)] }], Instr.wf i = false := by decide
theorem test_wf_spares : ∀ i ∈ [Instr.sramRowRepair 2 true 0 true 0 none, .sramRowRepair 0 true 16384 true 0 none, .sramRowRepair 0 true 0 true 6 none,
    .mirrorLaneFail 2 0, .mirrorLaneFail 0 18, .coreTrap (.hub 8), .coreDeadlineExpiry (.tile 128), .coreRestarted (.hub 8), .journalFrame ⟨65536, 0⟩, .journalFrame ⟨0, 262144⟩,
    .pmbusTransactionFail 256 ⟨⟨.sendByte, .clearFaults, []⟩, false⟩, .pmbusTransactionFail 0 ⟨⟨.readByte, .clearFaults, []⟩, false⟩,
    .pmbusTransactionFail 0 ⟨⟨.writeByte, .page, []⟩, false⟩, .pmbusRetry 256 none, .pmbusRetry 0 (some (.answer (zeros 35))), .i3cIbi 256 [], .i3cIbi 0 (zeros 5)], Instr.wf i = false := by decide
theorem test_wf_size (bs : List Byte) (h : bs.length = 4194305) : Instr.wf (.tapFirmwareLoad bs) = false ∧
    Instr.wf (.loopImageLoad (.data bs false)) = false := by
  have k : decide (bs.length ≤ 4194304) = false := by rw [h]; rfl
  exact ⟨k, k⟩

/-! ## Worked examples of the spec -/

/-- The loop of the example under R98: S 24,000, H 200, ALPHA and KI 0x4000, KI_SHIFT 4, steps 0x0800 and 0x0200. -/
def exLoop : Loop := {
  w0 := 1, w2 := 24000 + 65536 * 200, w3 := 0x4000 + 65536 * 0x4000, w4 := 0x0800 + 65536 * 0x0200, w5 := 0x0800 + 65536 * 0x7FFF
  w6 := 0x7FFF + 65536 * 4, yf := 23900, u := 30720 }
def exFrames : Loop := [(24500 : Int), 24500, 24100, 23600].foldl (fun x y => (lpEval x y 24000).1) exLoop
theorem test_loop_frame_one : let x := (lpEval exLoop 24500 24000).1; x.yf = 24200 ∧ x.e = 200 ∧ x.u = 30720 ∧ x.ci = -204800 ∧ x.c = -6 := by decide
theorem test_loop_four_frames : exFrames.yf = 23912 ∧ exFrames.e = -64 ∧ exFrames.u = 26624 ∧ exFrames.ci = -703488 ∧ exFrames.c = -21 := by decide
/-- The set-point move from 24,000 to 25,000 with Vm 100, Am 20 and Jm 5: ticks 7, 11 and 16 of the table. -/
def exMove (n : Nat) : Pg := (List.range n).foldl (fun g _ => pgStep 100 20 5 g) { x := 24000, t := 25000 }
theorem test_move_tick_seven : ((exMove 7).a, (exMove 7).v, (exMove 7).x) = ((15 : Int), (100 : Int), (24360 : Int)) := by decide +kernel
theorem test_move_tick_eleven : ((exMove 11).a, (exMove 11).v, (exMove 11).x) = ((-5 : Int), (95 : Int), (24755 : Int)) := by decide +kernel
theorem test_move_lands : ((exMove 16).a, (exMove 16).v, (exMove 16).x) = ((0 : Int), (0 : Int), (25000 : Int)) := by decide +kernel
/-- The rates of the step-angle example. -/
theorem test_rate : newRate 4096 3906250 = 281474 ∧ newRate 4096 3925000 = 280130 ∧ 281474 * 5000 / 2 ^ 28 = 5 := by decide
/-- The series offsets of the register index and their reset values (R456). -/
theorem test_series_offsets : (regRead State.reset 0x311C).1 = 0x01427D3C ∧ (regRead State.reset 0x3A40).1 = 0x0000FF00 ∧
    (regRead State.reset 0x4C28).1 = 0 := by decide +kernel
/-- FX_VERSION at 0x0000 reads 0x0004_0201 (R2). -/
theorem test_version : (regRead State.reset 0).1 = 0x00040201 := by decide +kernel
/-- One bit in error in a fuse word is corrected, two are not (R403). -/
theorem test_fuse_word : fuseCheck (fuseWord 0x123456) = .good ∧ fuseCheck (fuseWord 0x123456 ^^^ 16) = .corrected (fuseWord 0x123456) ∧
    fuseCheck (fuseWord 0x123456 ^^^ 17) = .bad := by decide +kernel

/-- FIPS 180-4's own example: the hash of "abc". -/
theorem test_sha384 : (sha384 [97, 98, 99]).take 8 = [0xcb, 0x00, 0x75, 0x3f, 0x45, 0xa3, 0x5e, 0x8b] := by decide +kernel
/-- RFC 6979, A.2.6: the key, and the signature of "sample" with SHA-384. -/
def keySample : Nat := 0x6B9D3DAD2E1B8C1C05B19875B6659F4DE23C3B667BF297BA9AA47740787137D896D5724E4C70A825F872C9EA60D2EDF5
theorem test_p384Public : (p384Public keySample).1 =
    0xEC3A4E415B4E19A4568618029F427FA5DA9A8BC4AE92E02E06AAE5286B300C64DEF8F0EA9055866064A254515480BC13 := by decide +kernel
theorem test_ecdsaSign : ecdsaSign keySample [115, 97, 109, 112, 108, 101] =
    (0x94EDBB92A5ECB8AAD4736E56C691916B3F88140666CE9FA73D64C4EA95AD133C81A648152E44ACF96E36DD1E80FABE46,
     0x99EF4AEB15F178CEA1FE40DB2603138F130E740A19624526203B6351D0A3A94FA329C145786E679E7B82C71A38628AC8) := by decide +kernel

/-! ## Witnesses: the hypotheses of every obligation are met together -/

theorem witness_StepRunsFrontCommand : ∃ s : State, s.pending = [.pwrgdRise, .flowOkLow] := ⟨{ State.reset with pending := [.pwrgdRise, .flowOkLow] }, rfl⟩
theorem witness_StepRunsFrontCommand_idle : State.reset.pending = [] := rfl

theorem witness_GstopFollowsItsHolds : GstopInv State.reset ∧ ∃ t, step State.reset = .next t := ⟨rfl, _, rfl⟩

theorem witness_SupplyAndResetPinsTakeEffect : State.reset.pins.vdd = true ∧ State.reset.rs.held = false ∧
    ∃ s : State, s.pins.vdd = false ∧ s.rs.held = true := ⟨rfl, rfl, { State.reset with pins.vdd := false, rs.held := true }, rfl, rfl⟩

theorem witness_OptionLoadReadsStrapsAndFuses : ∃ (s : State) (x : Straps) (l : List Straps), alive s = true ∧ s.rs.step = 0 ∧ s.rs.stopped = false ∧
    s.tb.rcStable = true ∧ l.all (· == x) = true ∧ x.bootSrc ≠ 0 ∧ x.clkMode ≠ 0 :=
  ⟨{ State.reset with tb.rcStable := true }, { bootSrc := 1, clkMode := 2 }, [{ bootSrc := 1, clkMode := 2 }], by decide⟩
theorem witness_OptionLoadReadsStrapsAndFuses_unequal : ∃ (s : State) (x : Straps) (l : List Straps), alive s = true ∧ s.rs.step = 0 ∧ s.rs.stopped = false ∧
    s.tb.rcStable = true ∧ l.all (· == x) = false :=
  ⟨{ State.reset with tb.rcStable := true }, { bootSrc := 1, clkMode := 2 }, [{}], by decide⟩
theorem witness_OptionLoadReadsStrapsAndFuses_good : ∃ (s : State) (w : Word32), alive s = true ∧ bootClock s = true ∧ s.rs.loading = true ∧ s.rs.fzReq = true ∧
    s.rs.fzAddr = 4094 ∧ fuseCheck w.toNat = .good := ⟨{ State.reset with tb.rcStable := true, rs.loading := true, rs.fzReq := true, rs.fzAddr := 4094 }, 0, by decide⟩
theorem witness_OptionLoadReadsStrapsAndFuses_bad : ∃ (s : State) (w : Word32), alive s = true ∧ bootClock s = true ∧ s.rs.loading = true ∧ s.rs.fzReq = true ∧
    s.rs.fzAddr < repairBase ∧ fuseCheck w.toNat = .bad := ⟨{ State.reset with tb.rcStable := true, rs.loading := true, rs.fzReq := true }, 3, by decide⟩

theorem witness_BringUpReleasesInOrder : ∃ s : State, alive s = true ∧ s.rs.stopped = false ∧ bootClock s = true ∧ s.rs.step = 1 ∧ s.rs.done = 1 ∧
    stepMayEnd s = true := ⟨{ State.reset with rs.step := 1, rs.done := 1, tb.rcStable := true }, by decide⟩
theorem witness_BringUpReleasesInOrder_core : ∃ s : State, alive s = true ∧ s.rs.stopped = false ∧ s.rs.step = 4 ∧ s.rs.done = 3 ∧ bootClock s = true ∧
    stepMayEnd s = true := ⟨{ State.reset with rs.step := 4, rs.done := 3 }, by decide⟩
theorem witness_BringUpReleasesInOrder_last : ∃ s : State, alive s = true ∧ s.rs.stopped = false ∧ s.rs.step = 8 ∧ s.rs.done < 8 ∧ bootClock s = true :=
  ⟨{ State.reset with rs.step := 8, rs.done := 7 }, by decide⟩
theorem witness_BringUpReleasesInOrder_wait : ∃ s : State, s.rs.step = 2 ∧ stepMayEnd s = false ∧ bootClock s = false :=
  ⟨{ State.reset with rs.step := 2, rs.done := 1 }, by decide⟩
theorem witness_BringUpReleasesInOrder_stuck : ∃ s : State, alive s = true ∧ bootClock s = true ∧ s.rs.stopped = false ∧ s.rs.step = 8 ∧ s.rs.done < s.rs.step :=
  ⟨{ State.reset with rs.step := 8, rs.done := 7 }, by decide⟩

/-- A read of an account that is outstanding. -/
def witReq (tag : Nat) (mis : Option Nat) : MReq := ⟨tag, false, 64, 1, 3, false, [], .acctFetch 7, 0, 10, mis, 0⟩
def witHap : State := { State.reset with hap.out := [witReq 5 none, witReq 6 (some 0)], hap.quar := [⟨9, .response⟩, ⟨10, .window⟩, ⟨11, .atTime 40⟩], hap.iso := [12] }
theorem witness_MasterResponseCompletesItsRequest : ∃ m : MasterResp, alive witHap = true ∧
    witHap.hap.out.find? (·.tag == m.tag.toNat) = some (witReq 5 none) ∧ ownRow (witReq 5 none).purpose = true ∧
    respFits (witReq 5 none) m = true ∧ m.chk = .good ∧ innerDoneNone witHap ∧ witHap.rs.draining = none ∧ witHap.hap.wait = [] ∧ m.status = 0 :=
  ⟨⟨5, 1, true, 0, [], .good⟩, by decide⟩
theorem witness_MasterResponseCompletesItsRequest_fail : ∃ m : MasterResp, alive witHap = true ∧
    witHap.hap.out.find? (·.tag == m.tag.toNat) = some (witReq 5 none) ∧ ownRow (witReq 5 none).purpose = true ∧
    respFits (witReq 5 none) m = true ∧ m.chk = .good ∧ innerDoneNone witHap ∧ witHap.rs.draining = none ∧ m.status = 3 :=
  ⟨⟨5, 1, true, 3, [], .good⟩, by decide⟩
theorem witness_MasterResponseCompletesItsRequest_stray : ∃ m : MasterResp, alive witHap = true ∧
    witHap.hap.out.any (·.tag == m.tag.toNat) = false ∧ witHap.hap.quar.any (·.tag == m.tag.toNat) = false ∧
    witHap.hap.iso.contains m.tag.toNat = false ∧ innerDoneNone witHap ∧ witHap.rs.draining = none := ⟨⟨7, 1, true, 0, [], .good⟩, by decide⟩
theorem witness_MasterResponseCompletesItsRequest_quarantined : ∃ m : MasterResp, alive witHap = true ∧
    witHap.hap.out.any (·.tag == m.tag.toNat) = false ∧ witHap.hap.quar.any (·.tag == m.tag.toNat) = true ∧
    witHap.hap.iso.contains m.tag.toNat = false ∧ innerDoneNone witHap ∧ witHap.rs.draining = none := ⟨⟨9, 1, true, 0, [], .good⟩, by decide⟩
theorem witness_MasterResponseCompletesItsRequest_wrapper : ∃ m : MasterResp, alive witHap = true ∧
    witHap.hap.out.any (·.tag == m.tag.toNat) = false ∧ witHap.hap.iso.contains m.tag.toNat = true ∧ m.chk = .good ∧ innerDoneNone witHap ∧
    witHap.rs.draining = none ∧ witHap.hap.wait = [] := ⟨⟨12, 1, true, 0, [], .good⟩, by decide⟩

theorem witness_TimeoutsQuarantineTags : witHap.hap.out.find? (fun r => r.tag == (5 : BitVec 8).toNat && r.misfitAt.isNone && r.timeoutUs != 0) =
    some (witReq 5 none) ∧ ownRow (witReq 5 none).purpose = true ∧ innerDoneNone witHap ∧ witHap.rs.draining = none := by decide
theorem witness_TimeoutsQuarantineTags_misfit : witHap.hap.out.find? (fun r => r.tag == (6 : BitVec 8).toNat && r.misfitAt.isSome && r.timeoutUs != 0) =
    some (witReq 6 (some 0)) ∧ witHap.rs.draining = none := by decide
theorem witness_TimeoutsQuarantineTags_window : ∃ s : State, s.hap.quar.find? (·.tag == (10 : BitVec 8).toNat) = some ⟨(10 : BitVec 8).toNat, .window⟩ ∧
    hostOpen s = true := ⟨{ witHap with rs.done := 8 }, by decide⟩
theorem witness_TimeoutsQuarantineTags_time : witHap.hap.quar.find? (·.tag == (11 : BitVec 8).toNat) = some ⟨(11 : BitVec 8).toNat, .atTime 40⟩ := by decide

theorem witness_TagsAreNeverShared : TagsInv witHap ∧ (∃ t, exec (.hapTimeout 5) witHap = .next t) ∧ (∃ t, exec (.misfitLastTimeout 6) witHap = .next t) ∧
    (∃ t, exec (.quarantineRelease 11) witHap = .next t) ∧ ∃ t, exec (.hapMasterResponse ⟨5, 1, true, 0, [], .good⟩) witHap = .next t :=
  ⟨by decide, ⟨_, rfl⟩, ⟨_, rfl⟩, ⟨_, rfl⟩, _, rfl⟩

/-- Clocks released, with the strap CLK_MODE 11. -/
def witClk : State := setF { State.reset with rs.step := 2, tb.tlOn := true, tb.xtalOn := true, tb.tlStable := true, tb.xtalStable := true, tb.running := true }
  Reg.RS_STRAPS.CLK_MODE 3
theorem witness_ReferenceSourcesAreChosen : released witClk 2 = true ∧ alive witClk = true ∧ witClk.tb.tlOn = true ∧ witClk.tb.waited = false ∧
    clkMode witClk = 3 := by decide
theorem witness_ReferenceSourcesAreChosen_counts : State.reset.pins.vdd = true ∧ State.reset.tb.rcFrom = some 0 ∧ (∃ s : State, released s 2 = true ∧
    s.tb.tlOn = true ∧ s.tb.xtalOn = true ∧ s.tb.tlFrom = some 5 ∧ s.tb.xtalFrom = some 5 ∧ s.tb.pllFrom = some 5 ∧ s.tb.pllStable = false ∧
    s.tb.waited = true ∧ s.tb.tlLost = true ∧ aimSource s = .rc ∧ s.tb.xtalLost = false) ∧ clkMode (setF witClk Reg.RS_STRAPS.CLK_MODE 2) = 2 :=
  ⟨rfl, rfl, ⟨{ witClk with tb.tlFrom := some 5, tb.xtalFrom := some 5, tb.pllFrom := some 5, tb.waited := true, tb.tlLost := true }, by decide⟩, by decide⟩
theorem witness_ReferenceSourcesAreChosen_loss : ∃ s : State, released s 2 = true ∧ s.tb.tlOn = true ∧ s.tb.src = .tl := ⟨{ witClk with tb.src := .tl }, by decide⟩
theorem witness_ReferenceSourcesAreChosen_xtal : ∃ s : State, released s 2 = true ∧ s.tb.xtalOn = true ∧ s.tb.src = .xtal := ⟨{ witClk with tb.src := .xtal }, by decide⟩
theorem witness_ReferenceSourcesAreChosen_switch : ∃ s : State, s.tb.switchTo = some .rc ∧ s.tb.src ≠ .rc ∧ s.tb.lostHigher = true :=
  ⟨{ witClk with tb.src := .xtal, tb.switchTo := some .rc, tb.lostHigher := true }, by decide⟩
theorem witness_ReferenceSourcesAreChosen_revert : ∃ s : State, released s 2 = true ∧ getF s Reg.TB_CFG.REVERT_HOLD_MS ≠ 0 ∧ s.tb.tlStable = true ∧
    s.tb.xtalStable = true ∧ clkMode s = 3 ∧ s.tb.src = .rc := ⟨setF witClk Reg.TB_CFG.REVERT_HOLD_MS 5, by decide⟩
theorem witness_ReferenceSourcesAreChosen_never : getF (setF witClk Reg.TB_CFG.REVERT_HOLD_MS 0) Reg.TB_CFG.REVERT_HOLD_MS = 0 := by decide

theorem witness_TimingLinkCarriesRackTime : released witClk 2 = true ∧ witClk.tb.tlOn = true ∧ witClk.tb.badMarks < 2 ∧
    crc16 (leBytes 8 (0 : BitVec 64).toNat ++ [0]) ≠ (0 : BitVec 16).toNat := by decide +kernel
theorem witness_TimingLinkCarriesRackTime_third : ∃ s : State, released s 2 = true ∧ s.tb.tlOn = true ∧ 2 ≤ s.tb.badMarks :=
  ⟨{ witClk with tb.badMarks := 2 }, by decide⟩
theorem witness_TimingLinkCarriesRackTime_good : ∃ (s : State) (f : TlFrame), released s 2 = true ∧ s.tb.tlOn = true ∧
    crc16 (leBytes 8 f.time.toNat ++ [f.flags]) = f.crc.toNat ∧ f.flags.getLsbD 0 = true ∧ s.tb.src = .tl ∧ s.tb.lastField = none ∧ s.tb.aligned = false :=
  ⟨{ witClk with tb.src := .tl }, ⟨1000, 1, BitVec.ofNat 16 (crc16 (leBytes 8 1000 ++ [1]))⟩, by decide +kernel⟩
theorem witness_TimingLinkCarriesRackTime_order : ∃ (s : State) (f : TlFrame), released s 2 = true ∧ s.tb.tlOn = true ∧
    crc16 (leBytes 8 f.time.toNat ++ [f.flags]) = f.crc.toNat ∧ f.flags.getLsbD 0 = true ∧ (frameTick s).tb.lastField = some 6000 ∧ f.time.toNat ≠ 6000 :=
  ⟨{ witClk with tb.lastField := some 5000 }, ⟨1000, 1, BitVec.ofNat 16 (crc16 (leBytes 8 1000 ++ [1]))⟩, by decide +kernel⟩
theorem witness_TimingLinkCarriesRackTime_slew : ∃ (s : State) (f : TlFrame), released s 2 = true ∧ s.tb.tlOn = true ∧
    crc16 (leBytes 8 f.time.toNat ++ [f.flags]) = f.crc.toNat ∧ f.flags.getLsbD 0 = true ∧ s.tb.src = .tl ∧
    (frameTick s).tb.lastField = some f.time.toNat ∧ s.tb.aligned = true ∧ s.tb.disagree = 3 ∧ s.tb.slewLeft = 0 ∧
    frameDiff (frameTick s) f.time.toNat ≠ 0 ∧ (frameDiff (frameTick s) f.time.toNat).natAbs ≤ 100000 :=
  ⟨{ witClk with tb.src := .tl, tb.lastField := some 0, tb.aligned := true, tb.disagree := 3 }, ⟨1000, 1, BitVec.ofNat 16 (crc16 (leBytes 8 1000 ++ [1]))⟩, by decide +kernel⟩
theorem witness_TimingLinkCarriesRackTime_slewing : ∃ s : State, released s 2 = true ∧ s.tb.slewLeft ≠ 0 :=
  ⟨{ witClk with tb.slewLeft := -100000 }, by decide⟩
theorem witness_TimingLinkCarriesRackTime_trim : ∃ s : State, released s 2 = true ∧ trimRef s ≠ 0 ∧ trimRef s ≠ 3 ∧ windowEnds s = true ∧
    trimExpect s = 4096 ∧ getF s Reg.TB_TRIM.CODE = 0x3FF := ⟨setF { witClk with tb.src := .xtal } Reg.TB_TRIM.CODE 0x3FF, by decide⟩
theorem witness_TimingLinkCarriesRackTime_trim0 : ∃ s : State, released s 2 = true ∧ trimRef s = 3 ∧ windowEnds s = true ∧ trimExpect s = 6400 ∧
    getF s Reg.TB_TRIM.CODE = 0 := ⟨setF { witClk with tb.marks := true, tb.trimMarks := 16 } Reg.TB_TRIM.CODE 0, by decide⟩

/-- A manifest that describes rail 2 with ports 0 to 2, a spare port 3, and tile agent 5 with two engines, two detectors and a sensor. -/
def witMf : Manifest := {
  tiles := [(5, { rail := 2, present := true, engines := 3, dets := 3, snss := 1 })]
  rails := [(2, ⟨[0, 1, 2], [3], 4800, 3, [500, 510, 520, 530, 540, 550, 560, 570, 580, 590, 600, 610, 620, 630, 640, 650]⟩)] }
/-- A block that is ready, with that manifest, its clusters on and its three cores running. -/
def witRun : State := setF { State.reset with
  rs.step := 8, rs.done := 8, mf := some witMf, hr.mfAccepted := true, be.stopped := 0, be.pcStopped := false, pins.gstop := false
  cc.tiles := [(5, { pwrEn := true, pwrOk := true, level := 8, cmd := 8, applied := 8 })], pc.rails := [(2, { st := .up })]
  du.cores := [(0, { st := 1 }), (1, { st := 1 }), (2, { st := 1 })], du.tcores := [(5, { st := 1 })] } (Reg.RAIL_CFG.SRC 2) 1
theorem witness_VoltageFrequencySequencing : ∃ s : State, released s 6 = true ∧ (mfTile s 5).present = true ∧ grantLevel s 5 < (tile s 5).cmd :=
  ⟨{ witRun with cc.tiles := [(5, { cmd := 8, levelOne := true })] }, by decide⟩
theorem witness_VoltageFrequencySequencing_raise : released witRun 6 = true ∧ (mfTile witRun 5).present = true ∧ (tile witRun 5).cmd < grantLevel witRun 5 ∧
    (tile witRun 5).pwrOk = true ∧ vfsFault witRun (mfTile witRun 5).rail = false ∧ (rail witRun (mfTile witRun 5).rail).st = .up := by decide
theorem witness_VoltageFrequencySequencing_equal : ∃ s : State, released s 6 = true ∧ (mfTile s 5).present = true ∧ (tile s 5).cmd = grantLevel s 5 :=
  ⟨{ witRun with cc.tiles := [(5, { cmd := 1, levelOne := true })] }, by decide⟩
theorem witness_VoltageFrequencySequencing_settle : ∃ s : State, (rail s 2).vfsOk = some 3 ∧ (rail s 2).vfsAt = some 2 ∧ released s 6 = true ∧ (vfsRail s 2).raising = true :=
  ⟨{ witRun with pc.rails := [(2, { st := .up, vfsOk := some 3, vfsAt := some 2 })], vfs := [(2, { raising := true })] }, by decide⟩
theorem witness_VoltageFrequencySequencing_report : released witRun 6 = true ∧ tileDutyRuns witRun 5 = true ∧ (tile witRun 5).orphan = false := by decide
theorem witness_VoltageFrequencySequencing_order : ∃ s : State, (tile s 5).order = some 3 ∧ tileRuns s 5 = true :=
  ⟨{ witRun with cc.tiles := [(5, { order := some 3 })] }, by decide⟩

/-- A loop whose integrator is far out, so that its write-back saturates. -/
def witLoop : Loop := { w0 := 1, w1 := 0, w2 := 200 * 65536, w3 := 0, w4 := 0x02000800, w5 := 0x7FFF0800, w6 := 0x7FFF, u := 0x4000, tracked := true, ci := 2 ^ 31 }
theorem witness_WriteBackRoundsToEven : ∃ s : State, (loop (applyOldest s 0) 0).srcAbs = false ∧
    (lpEval (loop (applyOldest s 0) 0) (loop (applyOldest s 0) 0).y (loop (applyOldest s 0) 0).s).2.2 = true :=
  ⟨{ witRun with be.loops := [(0, witLoop)] }, by decide⟩

theorem witness_LoopsAreDueByRate : ∃ s : State, (∀ p ∈ s.be.loops, p.1 = 1 → lpDue (getF s Reg.BE_FRAME.COUNT) p.1 p.2 = false) ∧ s.be.loops ≠ [] ∧
    lpDiv (loop s 1) = 1 := ⟨{ witRun with be.loops := [(1, { witLoop with w1 := 65536 })] }, by decide⟩
theorem witness_LoopsAreDueByRate_every : lpDiv witLoop = 0 := by decide

theorem witness_EvaluationFollowsTheLoopLaw : (∃ y, lpH witLoop < (lpEval witLoop y 0).1.e) ∧ (∃ sp, (lpEval witLoop 0 sp).1.e < -lpH witLoop) ∧
    lpAlpha witLoop = 0 ∧ (lpEval { witLoop with tracked := false, ci := 0 } 0 0).1.ifrz = false ∧ (lpEval witLoop 0 0).1.ifrz = true ∧
    (lpEval { witLoop with ci := 0 } 200 0).1.e = lpH witLoop ∧ lpAlpha { witLoop with w3 := 0x4000 } ≠ 0 :=
  ⟨⟨32767, by decide⟩, ⟨32767, by decide⟩, by decide⟩

theorem witness_ArbitrationTakesTheLowest : ∃ s : State, 5 ∈ allActs s ∧ bitAt s.be.stopped (actDom s 5) = false ∧
    ∃ p ∈ s.be.loops, lpRuns s p.2 = true ∧ 5 ∈ actsOf s (lpAct p.2) :=
  ⟨{ witRun with be.loops := [(0, { witLoop with w0 := 1 + 65536 * 5 })] }, by decide⟩
theorem witness_ArbitrationTakesTheLowest_stopped : bitAt State.reset.be.stopped (actDom State.reset 5) = true := by decide
theorem witness_ArbitrationTakesTheLowest_track : ∃ x : Loop, actsOf witRun (lpAct x) = [5] ∧ (tget 0x7FFF witRun.be.arb 5 : Nat) = 0x7FFF ∧
    lpTrk x = true ∧ x.win = false ∧ x.srcAbs = false := ⟨{ witLoop with w0 := 1 + 65536 * 5, w1 := 2 ^ 24 }, by decide⟩

theorem witness_StoppedDomainIsHeldUnderTheBrim_words : ∃ s : State, bitAt s.be.stopped 0 = false ∧
    (s.be.words.filter (fun w => lpDom (loop s w.loop) == 0)).length = 2 ∧ (s.be.words.filter (fun w => !(lpDom (loop s w.loop) == 0))).length = 1 :=
  ⟨{ witRun with be.loops := [(0, witLoop), (1, { witLoop with w0 := 17 })], be.words := [⟨0, 2, 9, none⟩, ⟨1, 2, 8, none⟩, ⟨0, 3, 7, some 4⟩] }, by decide⟩
theorem witness_StoppedDomainIsHeldUnderTheBrim : bitAt witRun.be.stopped 0 = false ∧ bitAt witRun.be.stopped 15 = false ∧ 5 ∈ allActs witRun ∧ actDom witRun 5 = 0 := by
  decide

theorem witness_ProfileGeneratorKeepsItsLimits : (0 : Int) < 0x7FFFFFFF ∧ ∃ g : Pg, g.v = 0 ∧ g.a = 0 ∧ 0 < g.t - g.x ∧ g.t - g.x ≤ 0x7FFFFFFF ∧ g.x < g.t :=
  ⟨by decide, { t := 0x7FFFFFFF }, by decide⟩
theorem witness_ProfileGeneratorKeepsItsLimits_down : ∃ g : Pg, -3 ≤ g.a ∧ g.a ≤ 3 ∧ g.t < g.x := ⟨{ x := 5, a := -3 }, by decide⟩

theorem witness_BandEngineFrameAndTick : released witRun 6 = true ∧ beRuns witRun = true ∧ released State.reset 6 = false := by decide
theorem witness_BandEngineFrameAndTick_reset : released { witRun with rs.subBlk := 0x40 } 6 = true ∧ beRuns { witRun with rs.subBlk := 0x40 } = false := by decide

/-- A descriptor of 64 bytes: opcode, TAG 7, TARGET and operands from byte 8 on. -/
def witDesc (op target : Nat) (ops : List (Nat × Nat)) : List Byte :=
  [BitVec.ofNat 8 op, 0, 7, 0] ++ leBytes 4 target ++ (List.range 56).map (fun k => BitVec.ofNat 8 ((tget 0 ops (k + 8))))
/-- A state whose ring 0 is enabled and holds one descriptor at its head. -/
def witRing (s : State) (d : List Byte) : State :=
  setRing (setF (setF (setF s (Reg.RING_CFG.EN 0) 1) (Reg.RING_CFG.SIZE_LOG2 0) 4) (Reg.RING_CFG.SEC 0) 1) 0
    { ready := [d], prod := 1, fetchIdx := 1, idle := false }
def witTurn (s : State) (d : List Byte) (job : Job) (sp : OpSpec) : Prop := Turn (witRing s d) 0 d ∧ Passes (witRing s d) 0 d job sp
theorem witness_BandEngineCommands_write : witTurn witRun (witDesc 0x10 0x06000003 [(8, 1), (9, 2), (24, 200)]) .loopWrite
    (lwSpec (witDesc 0x10 0x06000003 [(8, 1), (9, 2), (24, 200)])) := by unfold witTurn; decide +kernel
theorem witness_BandEngineCommands_open : readOpen (witRing witRun (witDesc 0x11 0 [(9, 16), (16, 128)])) 0 = true ∧ readOpen { witRing witRun
    (witDesc 0x11 0 [(9, 16), (16, 128)]) with hap.stopped := true } 0 = false := by decide +kernel
theorem witness_BandEngineCommands_image : witTurn witRun (witDesc 0x11 0 [(9, 16), (16, 128)]) .taken (loadSpec true (witDesc 0x11 0 [(9, 16), (16, 128)])) := by
  unfold witTurn; decide +kernel
/-- An image of one loop of domain 1. -/
def witImg : List Byte :=
  let e := leBytes 4 0x06000003 ++ zeros 4 ++ leBytes 4 0x10 ++ zeros 52
  leBytes 4 0x444E4142 ++ leBytes 2 1 ++ leBytes 2 1 ++ leBytes 4 2 ++ leBytes 4 9 ++ leBytes 4 (crc32 e) ++ zeros 44 ++ e
theorem witness_BandEngineCommands_imageOk : witImg.length = 128 ∧ 64 + 64 * imgCount witImg = 128 ∧ imgOk witImg = true ∧
    (bitList (imgMask witImg) 16).find? (fun k => !bitAt (2 : Nat) k) = none ∧ (bitList (imgMask witImg) 16).find? (fun k => !bitAt (0 : Nat) k) = some 1 := by
  decide +kernel
theorem witness_BandEngineCommands_running : lwRunning witRun (loop witRun 3) (lwWords (witDesc 0x10 0x06000003 [(8, 1), (9, 0), (16, 1)])) = some 0 ∧
    lwRunning witRun (loop witRun 3) (lwWords (witDesc 0x10 0x06000003 [(8, 1), (9, 2), (24, 200)])) = none ∧ loopLive witRun 3 = false ∧
    loopLive { witRun with be.loops := [(3, witLoop)] } 3 = true := by decide +kernel
theorem witness_BandEngineCommands_stop : witTurn witRun (witDesc 0x12 0 [(8, 3)]) .domReq (domSpec (witDesc 0x12 0 [(8, 3)])) := by unfold witTurn; decide +kernel
theorem witness_BandEngineCommands_start : witTurn witRun (witDesc 0x13 0 [(10, 1)]) .domReq (domSpec (witDesc 0x13 0 [(10, 1)])) := by unfold witTurn; decide +kernel
theorem witness_BandEngineCommands_arm : witTurn witRun (witDesc 0x60 0 [(8, 31), (9, 1), (22, 9), (24, 1)]) .taken
    (watchSpec witRun (witDesc 0x60 0 [(8, 31), (9, 1), (22, 9), (24, 1)])) := by unfold witTurn; decide +kernel
theorem witness_BandEngineCommands_clear : witTurn witRun (witDesc 0x60 0 []) .taken (watchSpec witRun (witDesc 0x60 0 [])) := by unfold witTurn; decide +kernel

def witPort (st : PortSt) (l : Nat) : Port := { st := st, rail := some 2, lphase := some l }
def witPorts (r : Rail) : State := { witRun with pc.rails := [(2, r)], pc.ports := [(0, witPort .active 0), (1, witPort .standby 1), (2, witPort .fire 2)] }
theorem witness_FireTakesEveryPhase : ∃ s : State, pcRuns s = true ∧ (mfRail s 2).isSome = true ∧ getPc s (Reg.RAIL_FIRE.UVF_EN 2) = 1 ∧ canFire s 2 = true :=
  ⟨setF (witPorts { st := .up }) (Reg.RAIL_FIRE.UVF_EN 2) 1, by decide⟩
theorem witness_FireTakesEveryPhase_end : pcRuns (witPorts { st := .up, firing := true }) = true ∧ (rail (witPorts { st := .up, firing := true }) 2).firing = true ∧
    uvfHigh (witPorts { st := .up, firing := true }) 2 = false ∧
    (getPc (witPorts { st := .up, firing := true }) (Reg.RAIL_FIRE.FIRE_UV_MV 2) = 0 ∨
      deficit (witPorts { st := .up, firing := true }) 2 ≤ 2 * getPc (witPorts { st := .up, firing := true }) (Reg.RAIL_FIRE.FIRE_UV_MV 2)) := by decide
theorem witness_FireTakesEveryPhase_hold : pcRuns (witPorts { st := .up, fireHold := true }) = true ∧ (rail (witPorts { st := .up, fireHold := true }) 2).fireHold = true := by
  decide

def witJob (start : Bool) : RailJob := { key := none, start := start, groups := [], cur := [2], delayAt := 5, mask := [2] }
def witRail (r : Rail) (start : Bool) : State := { witPorts r with pc.jobs := [witJob start] }
theorem witness_RailStartSteps_delay : pcRuns (witRail { st := .delay } true) = true ∧ jobOf (witRail { st := .delay } true) 2 = some (witJob true) ∧
    (rail (witRail { st := .delay } true) 2).st = .delay := by decide
theorem witness_RailStartSteps_stop : pcRuns (witRail { st := .up } false) = true ∧ jobOf (witRail { st := .up } false) 2 = some (witJob false) ∧
    railDown (witRail { st := .up } false) 2 = false ∧ (rail (witRail { st := .up } false) 2).st ≠ .stopping := by decide
theorem witness_RailStartSteps_ramp : (rail (witRail { st := .ramp, tgt := mv 400 } true) 2).st = .ramp ∧
    (rail (witRail { st := .ramp, tgt := mv 400 } true) 2).tgt = mv (storedMv (witRail { st := .ramp, tgt := mv 400 } true) 2) := by decide
theorem witness_RailStartSteps_settle : ∃ s : State, (rail s 2).settledAt = some 9 ∧ pcRuns s = true ∧ (rail s 2).st = .settle :=
  ⟨witRail { st := .settle, settledAt := some 9 } true, by decide⟩
theorem witness_RailStartSteps_hiccup : ∃ s : State, pcRuns s = true ∧ (rail s 2).st = .hiccup := ⟨witRail { st := .hiccup } true, by decide⟩

theorem witness_RailsGoDown : pcRuns (witRail { st := .stopping } false) = true ∧ (rail (witRail { st := .stopping } false) 2).st = .stopping ∧
    (rail (witRail { st := .stopping } false) 2).fastOff = false ∧ (rail (witRail { st := .stopping } false) 2).tgt = 0 := by decide
theorem witness_RailsGoDown_fast : pcRuns (witRail { st := .stopping, fastOff := true } false) = true ∧
    (rail (witRail { st := .stopping, fastOff := true } false) 2).fastOff = true ∧ (rail (witRail { st := .stopping, fastOff := true } false) 2).tgt = 0 := by decide
theorem witness_RailsGoDown_fall : released witRun 6 = true ∧ railsOff witRun = false ∧ witRun.th.sd = .run ∧ 2 ∈ mfRails witRun := by decide
theorem witness_RailsGoDown_none : released State.reset 6 = false ∧ railsOff State.reset = true := by decide
theorem witness_RailsGoDown_port : 1 ∈ railPorts witRun 2 ∧ portOn (port (witPorts { st := .up }) 0) = true := by decide

def witReady (s : State) : State := setF s Reg.RS_STATUS.PHASE 11
theorem witness_RailCommandsAreJudged : witTurn witRun (witDesc 0x20 0 [(8, 4)]) .railStart (railSpec witRun (witDesc 0x20 0 [(8, 4)])) ∧
    getF witRun Reg.RS_STATUS.PHASE ≠ 11 := by unfold witTurn; decide +kernel
theorem witness_RailCommandsAreJudged_start : witTurn (witReady witRun) (witDesc 0x20 0 [(8, 4)]) .railStart (railSpec (witReady witRun) (witDesc 0x20 0 [(8, 4)])) ∧
    getF (witReady witRun) Reg.RS_STATUS.PHASE = 11 ∧ witRun.th.sd = .run ∧ witRun.pins.pwrgd = true ∧ railBusy witRun (railMask (witDesc 0x20 0 [(8, 4)])) = none ∧
    ∀ r ∈ railMask (witDesc 0x20 0 [(8, 4)]), (rail witRun r).st ≠ .faulted := by unfold witTurn; decide +kernel
theorem witness_RailCommandsAreJudged_stop : ∃ s : State, witTurn s (witDesc 0x21 0 [(8, 4)]) .railStop (railSpec s (witDesc 0x21 0 [(8, 4)])) ∧
    railBusy s (railMask (witDesc 0x21 0 [(8, 4)])) = none ∧ ∀ r ∈ railMask (witDesc 0x21 0 [(8, 4)]), ∀ k ∈ railTiles s r, (tile s k).pwrEn = false :=
  ⟨{ witRun with cc.tiles := [] }, by unfold witTurn; decide +kernel⟩
theorem witness_RailCommandsAreJudged_powered : ∃ s : State, witTurn s (witDesc 0x21 0 [(8, 4)]) .railStop (railSpec s (witDesc 0x21 0 [(8, 4)])) ∧
    railBusy s (railMask (witDesc 0x21 0 [(8, 4)])) = none ∧
    (railMask (witDesc 0x21 0 [(8, 4)])).find? (fun r => (railTiles s r).any (fun k => (tile s k).pwrEn)) = some 2 :=
  ⟨{ witRun with cc.tiles := [(5, { pwrEn := true })] }, by unfold witTurn; decide +kernel⟩
theorem witness_RailCommandsAreJudged_retire : ∃ sp : OpSpec, sp = {
      target := decide (dTarget (witDesc 0x22 0x05000200 []) / 2 ^ 24 = 5) && validUnit (witPorts { st := .up }) (dTarget (witDesc 0x22 0x05000200 [])) } ∧ witTurn (witPorts { st := .up }) (witDesc 0x22 0x05000200 []) .taken sp ∧
    carrier (witPorts { st := .up }) 2 0 = some 0 ∧ carrier (witPorts { st := .up }) 2 7 = none :=
  ⟨_, rfl, by unfold witTurn; decide +kernel⟩

/-- A well-formed report frame: READY, IPH 64, with its CRC. -/
def witFrame : BitVec 48 := BitVec.ofNat 48 (2 * 2 ^ 46 + 64 * 2 ^ 32 + 2 ^ 16 + crc8 (bitsAt (2 * 2 ^ 46 + 64 * 2 ^ 32 + 2 ^ 16) 8 38) 38)
theorem witness_ReportsAndRegulation : (port (witPorts { st := .up }) 0).rail = some 2 ∧ pcRuns (witPorts { st := .up }) = true ∧
    edged (port (witPorts { st := .up }) 0) = true ∧ frameOk witFrame.toNat = true ∧ frameFault (takeFrame (witPorts { st := .up }) 2 witFrame.toNat
      (edgePassed (witPorts { st := .up }) 2 0) (port (witPorts { st := .up }) 0)) witFrame.toNat = 0 := by decide +kernel
theorem witness_ReportsAndRegulation_drain : (byPhase (witPorts { st := .up }) 2 .active).getLast? = some 0 := by decide
theorem witness_ReportsAndRegulation_bad : edged (port (witPorts { st := .up }) 2) = false ∧ frameOk (0 : BitVec 48).toNat = false ∧
    (port witRun 9).rail = none := by decide +kernel
theorem witness_ReportsAndRegulation_period : pcRuns (witPorts { st := .up }) = true ∧ periodRuns (witPorts { st := .up }) 2 = true ∧
    periodRuns (witPorts { st := .test }) 2 = true := by decide
theorem witness_ReportsAndRegulation_shed : ∃ s : State, (rail s 2).belowSince = some 3 ∧ pcRuns s = true ∧ (rail s 2).st = .up ∧ (rail s 2).firing = false ∧
    (rail s 2).fireHold = false ∧ (rail s 2).drain = none := ⟨witPorts { st := .up, belowSince := some 3 }, by decide⟩
theorem witness_ReportsAndRegulation_pins : ∃ s : State, released s 6 = true ∧ (port s 0).rail = some 2 ∧ (port s 0).st = .draining ∧
    (rail s 2).drain = some ⟨0, true, 1⟩ ∧ nActive s 2 ≠ 0 ∧ (rail s 2).st ≠ .hiccup ∧ (rail s 2).st ≠ .faulted ∧ released State.reset 6 = false :=
  ⟨{ witRun with pc.rails := [(2, { st := .up, drain := some ⟨0, true, 1⟩ })], pc.ports := [(0, witPort .draining 0)] }, by decide⟩

theorem witness_ShelfBrakeActs : witRun.pins.brake = false ∧ pcRuns witRun = true ∧ pcRuns State.reset = false := by decide
def witBrake (p : Nat) : State := setF { witRun with pins.brake := true, pc.brake := true, pc.rails := [(2, { st := .up, power := p })] } Reg.PC_BRAKE1.ESC_US 5
theorem witness_ShelfBrakeActs_esc : pcRuns (witBrake 0) = true ∧ (witBrake 0).pins.brake = true ∧ (witBrake 0).pc.brake = true ∧ (witBrake 0).pc.escDone = false ∧
    (witBrake 0).pc.missDone = false ∧ getPc (witBrake 0) Reg.PC_BRAKE1.ESC_US ≠ 0 ∧ overLevel (witBrake 0) = false ∧ overLevel (witBrake (2 ^ 40)) = true := by decide

theorem witness_ShutdownSteps : released witRun 6 = true ∧ witRun.th.sd = .run := by decide
theorem witness_ShutdownSteps_drain : ∃ s : State, s.th.sd = .orderly ∧ s.th.ordStep = 2 ∧ (∀ k ∈ mfTiles s, tileRstNow s k = true ∨ (tile s k).hH = 0) ∧ mfTiles s ≠ [] :=
  ⟨{ witRun with th.sd := .orderly, th.ordStep := 2 }, by decide⟩
theorem witness_ShutdownSteps_off : ∃ s : State, s.th.sd = .orderly ∧ s.th.ordStep = 3 ∧ ∃ k ∈ mfTiles s, tileRstNow s k = false ∧ (tile s k).pwrOk = true :=
  ⟨{ witRun with th.sd := .orderly, th.ordStep := 3 }, by decide⟩
theorem witness_ShutdownSteps_low : ∃ s : State, s.th.sd = .orderly ∧ s.th.ordStep = 3 ∧ ∀ k ∈ mfTiles s, tileRstNow s k = true ∨ (tile s k).pwrOk = false :=
  ⟨{ witRun with th.sd := .orderly, th.ordStep := 3, cc.tiles := [] }, by decide⟩
theorem witness_ShutdownSteps_rearm : witTurn (witReady { witRun with th.sd := .down }) (witDesc 0x41 0 []) .taken { target := noTarget (witDesc 0x41 0 []) } ∧
    rearmReason (witReady { witRun with th.sd := .down }) = 0 ∧ rearmReason witRun = 1 := by unfold witTurn; decide +kernel

def witTile (x : Tile) : State := { witRun with cc.tiles := [(5, x)] }
theorem witness_DetectorsDriveStretchAndUvf : tileRuns witRun (81 / 16) = true ∧ detOn witRun 5 1 = true := by decide
theorem witness_DetectorsDriveStretchAndUvf_hold : (tile (witTile { clearAt := some 9 }) 5).clearAt = some 9 := by decide
theorem witness_DetectorsDriveStretchAndUvf_test : ∃ s : State, tileDutyRuns s 5 = true ∧ getF s Reg.DT_TEST.PERIOD_US ≠ 0 ∧ detOn s 5 0 = true ∧ detOn s 5 1 = true ∧
    (det (tile s 5) 0).fails = 1 ∧ (det (tile s 5) 0).spareOk = false ∧ (det (tile s 5) 1).fails = 0 :=
  ⟨setF { witTile { pwrOk := true, dets := [(0, { fails := 1, spareOk := false })] } with du.tcores := [(5, { st := 1 })] } Reg.DT_TEST.PERIOD_US 9, by decide⟩
theorem witness_DetectorsDriveStretchAndUvf_stuck : (tile (witTile { sole := some (1, 3) }) (81 / 16)).sole = some (81 % 16, 3) ∧
    tileRuns (witTile { sole := some (1, 3) }) (81 / 16) = true := by decide
theorem witness_DetectorsDriveStretchAndUvf_none : (List.range 16).filter (detOn (witTile {}) 5) = [] := by decide
theorem witness_DetectorsDriveStretchAndUvf_some : ∃ d ∈ (List.range 16).filter (detOn (witTile { pwrOk := true, dets := [(1, { st := true })] }) 5),
    (det (tile (witTile { pwrOk := true, dets := [(1, { st := true })] }) 5) d).st = true := ⟨1, by decide⟩

theorem witness_GrantsConserveCredits : tileRuns witRun 5 = true ∧ grantBlocked witRun 5 = false ∧ grantBlocked (witTile {}) 5 = true := by decide
theorem witness_GrantsConserveCredits_end : (eng (tile (witTile { held := 7, engs := [(1, { running := true, cost := 7 })] }) 5) 1).running = true ∧
    (eng (tile (witTile { held := 7, engs := [(1, { running := true, cost := 7 })] }) 5) 1).cost ≤
      (tile (witTile { held := 7, engs := [(1, { running := true, cost := 7 })] }) 5).held ∧ (eng (tile witRun 5) 1).running = false := by decide
theorem witness_GrantsConserveCredits_max : ∃ s : State, (eng (tile s 5) 1).running = true ∧ (eng (tile s 5) 1).opMax = false ∧ getF s Reg.CC_OPMAX.OP_MAX_US ≠ 0 :=
  ⟨setF (witTile { held := 7, engs := [(1, { running := true, cost := 7 })] }) Reg.CC_OPMAX.OP_MAX_US 9, by decide⟩

theorem witness_CreditMessagesAreCounted : (tile (witTile { down := [⟨3, 7, 0⟩] }) 5).down = [⟨3, 7, 0⟩] ∧ tileRuns (witTile { down := [⟨3, 7, 0⟩] }) 5 = true ∧
    3 < (7 + 2 ^ 32 - (tile (witTile { down := [⟨3, 7, 0⟩] }) 5).rcvTot) % 2 ^ 32 := by decide
theorem witness_CreditMessagesAreCounted_orphan : (tile (witTile { down := [⟨3, 7, 0⟩], orphan := true }) 5).down = [⟨3, 7, 0⟩] ∧
    (tile (witTile { down := [⟨3, 7, 0⟩], orphan := true }) 5).orphan = true ∧ (tile (witTile {}) 5).down = [] ∧ tileRuns State.reset 5 = false := by decide
theorem witness_CreditMessagesAreCounted_marker : ∃ a : CcAudit, (witTile { down := [⟨3, 7, 0⟩] }).cc.audit = none ∧ tget 0 a.ahead 5 = 1 ∧ tget 0 a.ahead 6 = 0 ∧
    a.entries ≠ [] := ⟨⟨auditEntries (witTile { down := [⟨3, 7, 0⟩] }), auditAhead (witTile { down := [⟨3, 7, 0⟩] }), false⟩, by decide⟩
theorem witness_CreditMessagesAreCounted_up : (tile (witTile { up := [⟨3, 7⟩] }) 5).up = [⟨3, 7⟩] ∧
    3 < (7 + 2 ^ 32 - (tile (witTile { up := [⟨3, 7⟩] }) 5).hRet) % 2 ^ 32 := by decide

theorem witness_AuditsKeepTheCountExact : released witRun 6 = true ∧ ∃ s : State, s.cc.audit = some ⟨[], [], true⟩ ∧
    (if true then (0 : Int) else s.cc.reserve) + auditSum s ⟨[], [], true⟩ ≠ s.cc.total :=
  ⟨by decide, { witRun with cc.audit := some ⟨[], [], true⟩, cc.total := 8 }, by decide⟩
theorem witness_AuditsKeepTheCountExact_lost : released witRun 7 = true ∧ (mfTile witRun 5).present = true ∧ tget none witRun.rs.tileRst 5 = none ∧
    (tile witRun 5).lost = false ∧ tileRuns witRun 5 = true ∧ (tile witRun 5).orphan = false := by decide
theorem witness_AuditsKeepTheCountExact_equal : ∃ s : State, s.cc.audit = some ⟨[], [], false⟩ ∧ (s.cc.reserve : Int) + auditSum s ⟨[], [], false⟩ = s.cc.total :=
  ⟨{ witRun with cc.audit := some ⟨[], [], false⟩ }, by decide⟩
theorem witness_AuditsKeepTheCountExact_census : ∃ s u : State, s.cc.census.contains 5 = true ∧ tileRuns s 5 = true ∧ s.cc.census.filter (· != 5) = [] ∧
    u.cc.census.contains 5 = true ∧ tileRuns u 5 = true ∧ u.cc.census.filter (· != 5) ≠ [] :=
  ⟨{ witRun with cc.census := [5] }, { witRun with cc.census := [5, 6] }, by decide⟩
theorem witness_AuditsKeepTheCountExact_brim : ({ orphan := true } : Tile).orphan = true ∧ 1 ≤ ({ orphan := true } : Tile).brimRx := by decide

def witSa (x : Sa) : State := { witRun with sa := x }
theorem witness_StepAngleIsTracked : released (witSa { state := .acquiring }) 6 = true ∧ (witSa { state := .acquiring }).sa.state ≠ .off ∧
    toggleGone (advanceTo (witSa { state := .acquiring }) (0 + 3)) = false ∧ (witSa { state := .acquiring }).sa.first = false := by decide
theorem witness_StepAngleIsTracked_afterLoss : released (witSa { state := .lost }) 6 = true ∧ toggleGone (advanceTo (witSa { state := .lost }) (0 + 3)) = false ∧
    65536 < ((65537 : Angle) - (witSa { state := .lost }).sa.aX).toNat ∧ 2 ^ 31 ≤ ((2 ^ 31 : Angle) - (witSa { state := .lost }).sa.aX).toNat := by decide
theorem witness_StepAngleIsTracked_later : ∃ s : State, released s 6 = true ∧ s.sa.state = .tracking ∧ s.sa.first = true ∧
    toggleGone (advanceTo s (s.now + 3)) = false ∧ ((65536 : Angle) - s.sa.aX).toNat ≤ 65536 := ⟨witSa { state := .tracking, first := true }, by decide⟩
theorem witness_StepAngleIsTracked_behind : ∃ s : State, released s 6 = true ∧ s.sa.state = .tracking ∧ s.sa.first = true ∧
    toggleGone (advanceTo s (s.now + 3)) = false ∧ 2 ^ 31 ≤ ((0 : Angle) - s.sa.aX).toNat ∧ 2 ^ 32 - ((0 : Angle) - s.sa.aX).toNat ≤ leadMax s :=
  ⟨setF (witSa { state := .tracking, first := true, aX := 256 }) Reg.SA_CFG.LEAD_MAX 1, by decide⟩
theorem witness_StepAngleIsTracked_lost : ∃ s : State, released s 6 = true ∧ s.sa.state ≠ .off ∧ s.sa.toggleAt = some 0 ∧ s.now + 9 < 0 + 10 :=
  ⟨witSa { state := .tracking, toggleAt := some 0 }, by decide⟩
def witAngleFc : State := { witSa { state := .tracking, aX := 256 } with
  pb.fcs := [{ id := 7, queue := 0, acct := 0, layer := 3, oper := 4, start := 0, span := 9, lead := 0, energy := 0, peak := 0 }],
  pb.active := [{ eff := .forecast 7, kind := 0, target := 0, value := 0, endAt := 9, since := 0, frame := 0 }] }
theorem witness_StepAngleIsTracked_bins : (activeForecast witAngleFc).isSome = true ∧ binOf witAngleFc witAngleFc.sa.aX ≠ binOf witAngleFc 255 ∧ getF witAngleFc Reg.PB_CFG.BIN_LOG2 ≤ 16 := by decide
theorem witness_StepAngleIsTracked_timer : ∃ (s : State) (x : Timer), timer s (3 : BitVec 8).toNat = some x ∧ released s 6 = true ∧ timerDue s x = true :=
  ⟨witSa { state := .tracking, timers := [(3, some ⟨0, 0, .plan 0⟩)] }, ⟨0, 0, .plan 0⟩, by decide⟩
theorem witness_StepAngleIsTracked_notDue : ∃ (s : State) (x : Timer), timer s (3 : BitVec 8).toNat = some x ∧ released s 6 = true ∧ timerDue s x = false :=
  ⟨witSa { state := .tracking, timers := [(3, some ⟨9, 0, .plan 0⟩)] }, ⟨9, 0, .plan 0⟩, by decide⟩
theorem witness_StepAngleIsTracked_loss : ∃ s : State, released s 6 = true ∧ getF s Reg.SA_CFG.LOSS_MS ≠ 0 ∧ s.sa.state = .tracking :=
  ⟨setF (witSa { state := .tracking }) Reg.SA_CFG.LOSS_MS 5, by decide⟩

theorem witness_PhaseBookLearnsAndSwitches : ∃ s : State, beRuns s = true ∧ s.sa.state = .tracking ∧ s.pb.excluded = false ∧ flagOn s Reg.PB_CFG.LEARN = true :=
  ⟨setF (witSa { state := .tracking }) Reg.PB_CFG.LEARN 1, by decide⟩
theorem witness_PhaseBookLearnsAndSwitches_excluded : ∃ s : State, beRuns s = true ∧ s.sa.state = .tracking ∧ s.pb.excluded = true :=
  ⟨{ witSa { state := .tracking } with pb.excluded := true }, by decide⟩
theorem witness_PhaseBookLearnsAndSwitches_bin : ({} : Bin).seen = false ∧ ({ seen := true } : Bin).seen = true ∧ ({ seen := true } : Bin).peak ≤ ({} : Meas).peak := by decide
def witProg : PbProgram := { id := 9, bins := [], chans := [], actions := [] }
theorem witness_PhaseBookLearnsAndSwitches_switch : ∃ s : State, beRuns s = true ∧ dutyRuns s 2 = true ∧ s.pb.pend = some (witProg, 4) :=
  ⟨{ witRun with pb.pend := some (witProg, 4) }, by decide⟩
theorem witness_PhaseBookLearnsAndSwitches_unload : ∃ s : State, beRuns s = true ∧ dutyRuns s 2 = true ∧ s.pb.pend = none ∧ s.pb.unload = true :=
  ⟨{ witRun with pb.unload := true }, by decide⟩
def witAct : PbActive := { eff := .action 3, kind := 1, target := 0, value := 9, endAt := 0, since := 7, frame := 0 }
theorem witness_PhaseBookLearnsAndSwitches_max : ({ witRun with pb.active := [witAct] } : State).pb.active.find? (·.eff == .action 3) = some witAct := by decide

theorem witness_PhaseBookCommandsAreJudged : witTurn (witSa { state := .tracking }) (witDesc 0x30 0 [(9, 16), (16, 80)]) .pbLoad
    (loadSpec true (witDesc 0x30 0 [(9, 16), (16, 80)])) ∧ progLen (leBytes 6 0 ++ [1, 0] ++ zeros 72) = 80 ∧
    (programCheck witRun (leBytes 6 0 ++ [1, 0] ++ zeros 72)).isSome = true := by unfold witTurn; decide +kernel
def witFc : State := setF { witRun with mf := some { witMf with accounts := some (0x1000, 0x2000) } } Reg.PB_CFG.FC_EN 1
theorem witness_PhaseBookCommandsAreJudged_forecast : witTurn witFc (witDesc 0x31 0 [(8, 1), (24, 1)]) .taken (forecastSpec (witDesc 0x31 0 [(8, 1), (24, 1)])) ∧
    flagOn witFc Reg.PB_CFG.FC_EN = true ∧ witFc.mf.bind (·.accounts) = some (0x1000, 0x2000) ∧ mapEntry (leBytes 4 (2 ^ 31 + 7)) = some 7 ∧
    mapEntry (leBytes 4 7) = none ∧ flagOn witRun Reg.PB_CFG.FC_EN = false := by unfold witTurn; decide +kernel
theorem witness_PhaseBookCommandsAreJudged_open : readOpen (witRing witFc []) 0 = true ∧ readOpen (witRing witFc []) 2 = true ∧
    readOpen { witRing witFc [] with hap.stopped := true } 0 = false ∧ readOpen { witRing witFc [] with hap.stopped := true } 2 = false := by decide +kernel
theorem witness_PhaseBookCommandsAreJudged_take : witRun.pb.fcs.length < 256 ∧
    ahead (BitVec.ofNat 32 (leAt (witDesc 0x31 0 [(8, 1), (24, 1)]) 20 4) + BitVec.ofNat 32 (leAt (witDesc 0x31 0 [(8, 1), (24, 1)]) 24 2)) witRun.sa.aX = true ∧
    ahead (BitVec.ofNat 32 (leAt (witDesc 0x31 0 []) 20 4) + BitVec.ofNat 32 (leAt (witDesc 0x31 0 []) 24 2)) witRun.sa.aX = false := by decide +kernel
theorem witness_PhaseBookCommandsAreJudged_cancel : witTurn witFc (witDesc 0x31 0 [(8, 1), (10, 1)]) .taken (cancelSpec (witDesc 0x31 0 [(8, 1), (10, 1)])) := by
  unfold witTurn; decide +kernel

theorem witness_BuildIsFixed : ∃ t, exec .powerOnReset State.reset = .next t := ⟨_, rfl⟩

/-- A read (0) or a write (1) of the register at an offset. -/
def witQ (ty : BitVec 2) (off v : Nat) (sec : Bool := false) (chk : Chk := .good) : SlaveReq :=
  ⟨ty, 7, BitVec.ofNat 16 (off / 32 * 32), 0, BitVec.ofNat 32 (15 * 2 ^ (off % 32)), BitVec.ofNat 256 (v * 2 ^ (8 * (off % 32))), sec, chk⟩
theorem witness_RequestsAreAnswered : Accepted witRun (witQ 1 0x2014 5) 1 0x2014 ∧ reqVal (witQ 1 0x2014 5) = 5 ∧ Accepted witRun (witQ 0 0x0408 0) 0 0x0408 := by
  decide +kernel
theorem witness_RequestsAreAnswered_errors : witRun.pins.vdd = true ∧ answers witRun (reqOff (witQ 1 0x2014 5)) = true ∧ (witQ 1 0x2014 5 false .bad).chk = .bad ∧
    reqFits (witQ 2 0x2014 5) = false ∧ (witQ 2 0x2014 5).chk = .good ∧ isolated (setF witRun Reg.RS_SUB.HOLD 32) (reqOff (witQ 1 0x2014 5)) = true ∧
    answers (setF witRun Reg.RS_SUB.HOLD 32) (reqOff (witQ 1 0x2014 5)) = true ∧
    reqFits (witQ 1 0x2014 5) = true ∧ (witQ 1 0x2014 5 false .corrected).chk = .corrected := by decide +kernel
theorem witness_RequestsAreAnswered_secure : answers witRun (reqOff (witQ 1 0x1080 5)) = true ∧ reqFits (witQ 1 0x1080 5) = true ∧
    isolated witRun (reqOff (witQ 1 0x1080 5)) = false ∧ reqOff (witQ 1 0x1080 5) = 0x1080 ∧ (witQ 1 0x1080 5).sec = false := by decide +kernel
theorem witness_RequestsAreAnswered_closed : State.reset.pins.vdd = true ∧ answers State.reset (reqOff (witQ 1 0x2014 5)) = false ∧
    ({ State.reset with pins.vdd := false } : State).pins.vdd = false := by decide +kernel

theorem witness_FieldTypesGovernWrites : allStopped State.reset = true ∧ allStopped witRun = false ∧ clampNat 1 4095 (bitsAt 5 0 12) ≠ getF witRun Reg.BE_DISP_FS.FS ∧
    clampNat 1 4095 (bitsAt 0x800 0 12) = getF witRun Reg.BE_DISP_FS.FS ∧ clampNat 8 12 (bitsAt 0 20 4) ≠ getF witRun Reg.PB_CFG.BIN_LOG2 ∧
    BuildOk witRun.build := by decide +kernel

/-- As witRun, with every domain and the phase controllers stopped. -/
def witStop : State := { witRun with be.stopped := 0xFFFF, be.pcStopped := true }
theorem witness_BandAndAngleWritesTakeEffect : Accepted witStop (witQ 1 0x0440 1) 1 0x0440 ∧ allStopped witStop = true ∧ flagOn witStop Reg.SA_CFG.EN = false ∧
    bitAt (reqVal (witQ 1 0x0440 1)) 0 = true ∧ flagOn (setF witStop Reg.SA_CFG.EN 1) Reg.SA_CFG.EN = true ∧ bitAt (reqVal (witQ 1 0x0440 0)) 0 = false ∧
    Accepted (setF witStop Reg.SA_CFG.EN 1) (witQ 1 0x0440 0) 1 0x0440 ∧ allStopped witRun = false ∧ Accepted witRun (witQ 1 0x0440 1) 1 0x0440 := by decide +kernel
theorem witness_BandAndAngleWritesTakeEffect_ask : Accepted witRun (witQ 1 0x2004 6) 1 0x2004 ∧ Accepted witRun (witQ 1 0x2008 6) 1 0x2008 ∧
    bitsAt (reqVal (witQ 1 0x2008 6)) 0 17 ≠ 0 ∧ Accepted witRun (witQ 1 0x2020 6) 1 0x2020 ∧ Accepted witRun (witQ 1 0x2024 6) 1 0x2024 ∧
    Accepted witRun (witQ 1 0x203C 6) 1 (0x2028 + 4 * 5) ∧ Accepted witRun (witQ 1 0x2BEC 6) 1 (0x240C + 32 * 63) ∧ Accepted witRun (witQ 1 0x2400 6) 1 0x2400 ∧
    Accepted witRun (witQ 1 0x2404 6) 1 0x2404 ∧ Accepted witRun (witQ 1 0x2408 6) 1 0x2408 := by
  refine ⟨?_, ?_, ?_, ?_, ?_, ?_, ?_, ?_, ?_, ?_⟩ <;> decide +kernel
def witLdata : State := { witRun with be.loops := [(0, witLoop)] }
theorem witness_BandAndAngleWritesTakeEffect_word : Accepted witLdata (witQ 1 0x20D8 0x7FFF) 1 (0x20C0 + 4 * 6) ∧ wordOk 6 (reqVal (witQ 1 0x20D8 0x7FFF)) = true ∧
    lpRuns witLdata (loop witLdata (getF witLdata Reg.BE_LSEL.LOOP)) = true ∧ lpRuns witRun (loop witRun (getF witRun Reg.BE_LSEL.LOOP)) = false ∧
    wordOk 6 (reqVal (witQ 1 0x20D8 0x8000)) = false ∧ Accepted witLdata (witQ 1 0x20FC 0) 1 (0x20C0 + 4 * 15) ∧
    256 ≤ ({ witLdata with be.words := List.replicate 256 ⟨0, 6, 0, none⟩ } : State).be.words.length := by decide +kernel
theorem witness_BandAndAngleWritesTakeEffect_struct : Accepted witLdata (witQ 1 0x20C0 0x31) 1 0x20C0 ∧ Accepted witStop (witQ 1 0x20C0 0x31) 1 0x20C0 ∧
    Accepted witStop (witQ 1 0x20C4 0x31) 1 (0x20C0 + 4) ∧
    clrBits (reqVal (witQ 1 0x20C0 0x31)) 0xE ≠ lpWord (loop witLdata 0) 0 ∧ bitAt witLdata.be.stopped (lpDom (loop witLdata 0)) = false ∧
    clrBits (reqVal (witQ 1 0x20C0 0x31)) 0xE ≠ lpWord (loop witStop 0) 0 ∧ clrBits (reqVal (witQ 1 0x20C4 0x31)) 0xFE000000 ≠ lpWord (loop witStop 0) 1 ∧
    bitAt witStop.be.stopped (lpDom (loop witStop 0)) = true ∧ bitAt witStop.be.stopped (bitsAt (reqVal (witQ 1 0x20C0 0x31)) 4 4) = true ∧
    getF witStop Reg.BE_LSEL.LOOP = 0 := by decide +kernel

theorem witness_UnitWritesTakeEffect : BuildOk witRun.build ∧ 11 < witRun.build.rails ∧ Accepted witRun (witQ 1 0x33F4 31) 1 (0x3134 + 64 * 11) ∧
    Accepted witRun (witQ 1 0x31B4 31) 1 (0x3134 + 64 * 2) ∧ ∃ s : State, (rail s 2).st = .faulted ∧ Accepted s (witQ 1 0x31B4 31) 1 (0x3134 + 64 * 2) :=
  ⟨by decide +kernel, by decide +kernel, by decide +kernel, by decide +kernel, { witRun with pc.rails := [(2, { st := .faulted })] }, by decide +kernel⟩
theorem witness_UnitWritesTakeEffect_src : Accepted witRun (witQ 1 0x3180 0x6400) 1 (0x3100 + 64 * 2) ∧ railSrc witRun 2 ≠ railSrc (setF witRun (Reg.RAIL_CFG.SRC 2) 0) 2 ∧
    (rail witRun 2).st = .up ∧ Accepted witRun (witQ 1 0x4018 0x10064) 1 0x4018 ∧ bitAt (reqVal (witQ 1 0x4018 0x10064)) 16 = true := by decide +kernel
theorem witness_UnitWritesTakeEffect_pb : Accepted witRun (witQ 1 0x2C14 1) 1 0x2C14 ∧ bitAt (reqVal (witQ 1 0x2C14 1)) 0 = true ∧
    bitAt (reqVal (witQ 1 0x2C14 1)) 1 = false ∧ bitAt (reqVal (witQ 1 0x2C14 2)) 1 = true ∧ Accepted witRun (witQ 1 0x2C14 2) 1 0x2C14 ∧
    witRun.sa.state ≠ .tracking ∧ beRuns witRun = true ∧ dutyRuns witRun 2 = true ∧ witRun.pb.pend = none ∧
    Accepted witStop (witQ 1 0x2C00 0x800000) 1 0x2C00 ∧ clampNat 8 12 (bitsAt (reqVal (witQ 1 0x2C00 0x800000)) 20 4) ≠ getF witStop Reg.PB_CFG.BIN_LOG2 ∧
    flagOn (setF witStop Reg.PB_CFG.ACTIONS 1) Reg.PB_CFG.ACTIONS = true ∧ bitAt (reqVal (witQ 1 0x2C00 0x800000)) 2 = false := by decide +kernel
theorem witness_UnitWritesTakeEffect_observer : Accepted witRun (witQ 1 0x5000 1) 1 0x5000 ∧ flagOn witRun Reg.TH_CFG.OBS_EN = false ∧
    bitAt (reqVal (witQ 1 0x5000 1)) 0 = true ∧ ∃ s : State, s.th.model.isSome = true ∧ Accepted s (witQ 1 0x5000 1) 1 0x5000 ∧
    flagOn s Reg.TH_CFG.OBS_EN = false := ⟨by decide +kernel, by decide +kernel, by decide +kernel, { witRun with th.model := some ⟨9, []⟩ }, by decide +kernel⟩
def witLim : State := setF witRun (Reg.TH_LS_C.T_TRIP 3) 0x700
theorem witness_UnitWritesTakeEffect_limit : Accepted witLim (witQ 1 0x5040 (0x600 + 0x640 * 65536)) 1 (0x5010 + 16 * 3 + 4 * 0) ∧
    bitsAt (reqVal (witQ 1 0x5040 (0x600 + 0x640 * 65536))) 0 12 = 0x600 ∧ bitsAt (reqVal (witQ 1 0x5040 (0x600 + 0x640 * 65536))) 16 12 = 0x640 ∧
    getF witLim (Reg.TH_LS_C.T_REARM 3) < 0x640 ∧ 0x640 < getF witLim (Reg.TH_LS_B.T_SD 3) ∧
    getF witLim (Reg.TH_LS_B.T_SD 3) < getF witLim (Reg.TH_LS_B.T_LIM 3) ∧ getF witLim (Reg.TH_LS_B.T_LIM 3) ≤ getF witLim (Reg.TH_LS_C.T_TRIP 3) := by decide +kernel

theorem witness_HostWritesTakeEffect : Accepted witRun (witQ 1 0x0DF8 0x401) 1 (0x0A08 + 16 * 63) ∧ (ring witRun 63).idle = true ∧ ringEn witRun 63 = false ∧
    bitAt (reqVal (witQ 1 0x0DF8 0x401)) 0 = true ∧ Accepted (setF witRun (Reg.RING_CFG.EN 63) 1) (witQ 1 0x0DF8 0x400) 1 (0x0A08 + 16 * 63) ∧
    ringEn (setF witRun (Reg.RING_CFG.EN 63) 1) 63 = true ∧ bitAt (reqVal (witQ 1 0x0DF8 0x400)) 0 = false ∧
    clampNat 4 12 (bitsAt (reqVal (witQ 1 0x0DF8 0x400)) 8 4) = getF (setF witRun (Reg.RING_CFG.EN 63) 1) (Reg.RING_CFG.SIZE_LOG2 63) := by decide +kernel
theorem witness_HostWritesTakeEffect_bind : BuildOk witRun.build ∧ 127 < witRun.build.tiles ∧ Accepted witRun (witQ 1 0x65FC 5) 1 (0x6400 + 4 * 127) ∧
    Accepted witRun (witQ 1 0x608C 5) 1 0x608C ∧ Accepted witRun (witQ 1 0x8054 5) 1 0x8054 ∧ Accepted witRun (witQ 1 0x7024 1) 1 0x7024 ∧
    Accepted witRun (witQ 1 0x7078 1) 1 0x7078 ∧ Accepted witRun (witQ 1 0x9004 1) 1 0x9004 ∧ bitAt (reqVal (witQ 1 0x9004 1)) 0 = true := by
  refine ⟨?_, ?_, ?_, ?_, ?_, ?_, ?_, ?_, ?_⟩ <;> decide +kernel
theorem witness_HostWritesTakeEffect_hold : Accepted witRun (witQ 1 0x010C 0x40) 1 0x010C ∧
    (∀ k < 8, bitAt (bitsAt (reqVal (witQ 1 0x010C 0x40)) 1 8) k = (bitAt (getF witRun Reg.RS_SUB.HOLD) k != (k == 6 - 1))) ∧
    bitAt (getF witRun Reg.RS_SUB.HOLD) (6 - 1) = false ∧ Accepted (setF witRun Reg.RS_SUB.HOLD 32) (witQ 1 0x010C 0) 1 0x010C ∧
    (∀ k < 8, bitAt (bitsAt (reqVal (witQ 1 0x010C 0)) 1 8) k = (bitAt (getF (setF witRun Reg.RS_SUB.HOLD 32) Reg.RS_SUB.HOLD) k != (k == 6 - 1))) ∧
    bitAt (getF (setF witRun Reg.RS_SUB.HOLD 32) Reg.RS_SUB.HOLD) (6 - 1) = true := by decide +kernel
theorem witness_HostWritesTakeEffect_refused : Accepted witRun (witQ 1 0x010C 0x80) 1 0x010C ∧ subMay witRun 7 = false ∧ subMay witRun 6 = true ∧
    bitAt (getF witRun Reg.RS_SUB.HOLD) (7 - 1) = false ∧
    ∀ k < 8, bitAt (bitsAt (reqVal (witQ 1 0x010C 0x80)) 1 8) k = (bitAt (getF witRun Reg.RS_SUB.HOLD) k != (k == 7 - 1)) := by decide +kernel
theorem witness_HostWritesTakeEffect_mailbox : Accepted witRun (witQ 1 0x10C0 5 true) 1 (0x1000 + 64 * 3) ∧ (mbox witRun 3).h2f.length < 16 ∧
    (mbox witRun 3).partAt = none ∧ Accepted witRun (witQ 0 0x1004 0) 0 (0x1004 + 64 * 0) ∧ witRun.captured.find? (·.1 == 0x1004 + 64 * 0) = none := by decide +kernel
theorem witness_HostWritesTakeEffect_full : ∃ s : State, 16 ≤ (mbox s 0).h2f.length ∧ Accepted s (witQ 1 0x1000 5) 1 (0x1000 + 64 * 0) :=
  ⟨{ witRun with mb := [(0, { h2f := List.replicate 16 0 })] }, by decide +kernel⟩

/-- Sensor 40 is one of tile agent 5. -/
def witTh (x : Sns) : State := { witRun with mf := some { witMf with snss := [(40, {})] }, th.sns := [(40, x)] }
theorem witness_SensorsAndCeilingsFollowTheirRules : released (witTh {}) 6 = true ∧ (sns (witTh { st := .trusted }) 40).st = .trusted ∧
    hardOk (witTh { st := .trusted }) 40 { st := .trusted } 0 (snsConvert (witTh { st := .trusted }) 40 0 0 0) = true ∧
    hardOk (witTh { st := .trusted }) 40 { st := .trusted } 5 (snsConvert (witTh { st := .trusted }) 40 0 0 5) = false ∧
    getF (witTh { st := .trusted, disRun := 200 }) Reg.TH_XCHK.XC_COUNT ≤ (sns (witTh { st := .trusted, disRun := 200 }) 40).disRun + 1 ∧
    (sns (witTh { st := .trusted }) 40).disRun + 1 < getF (witTh { st := .trusted }) Reg.TH_XCHK.XC_COUNT ∧
    (sns (witTh { st := .suspect, disRun := 200, agreeRun := 200 }) 40).st = .suspect ∧
    8 * getF (witTh { st := .suspect, disRun := 200, agreeRun := 200 }) Reg.TH_XCHK.XC_COUNT ≤ 201 ∧ snsInReset (witTh {}) 40 = false := by decide
def witCeil (x : Sns) : State := { witTh x with th.ceils := [(5, ⟨4, 0, [40]⟩)] }
theorem witness_SensorsAndCeilingsFollowTheirRules_ceil : (thCeil (witTh {}) 5).callers = [] ∧ (thCeil (witCeil {}) 5).callers ≠ [] ∧
    ((positions (witCeil { st := .trusted })).filter (fun p => (thCeil (witCeil { st := .trusted }) 5).callers.contains p.id)).all (posCool (witCeil { st := .trusted })) = true ∧
    ((positions (witCeil { st := .trusted, used := 4000 })).filter (fun p => (thCeil (witCeil { st := .trusted, used := 4000 }) 5).callers.contains p.id)).all
      (posCool (witCeil { st := .trusted, used := 4000 })) = false ∧ 8 * thSet witRun 0 Reg.TH_LS_B.T_LIM ≤ (⟨40, 32000, 0, 0, some 5⟩ : Pos).t := by decide

def witSize : State := { witTh { sum := 6400, mean := some 100 } with th.sizing := { on := true, n := 64 } }
theorem witness_SizingAndCoolantAreTaken : witSize.th.sizing.on = true ∧ witSize.th.sizing.n = 64 ∧ dutyRuns witSize 1 = true ∧
    dutyRuns { witSize with du.cores := [] } 1 = false ∧
    sizingMet { witSize with th.sizing.step2At := some 0, th.sizing.n := 0 } [(40, 100)] = true ∧
    ((mfSns witSize).filter (fun n => (sns witSize n).st == .unsized)).map (fun n => (n, roundEven (sns witSize n).sum 64)) = [(40, 100)] ∧
    sizingMet { witTh {} with th.sizing := { on := true } } [(40, 100)] = false := by decide
def witTray : State := { witRun with mf := some { witMf with tray := some ⟨1, 1, 2, 1, 0, 5⟩ } }
theorem witness_SizingAndCoolantAreTaken_poll : released witTray 6 = true ∧ flowNamed witTray = true ∧ witTray.th.polling = false ∧ subIn witTray 5 = false ∧
    getF witTray Reg.TH_FLOW.MISS_LIMIT ≤ ({ witTray with th.polling := true, th.missed := 2 } : State).th.missed + 1 ∧
    witTray.th.missed + 1 < getF witTray Reg.TH_FLOW.MISS_LIMIT ∧ flagOn witTray Reg.TH_FLOW_STATUS.LOST = false ∧
    witTray.mf.bind (·.tray) = some ⟨1, 1, 2, 1, 0, 5⟩ ∧ ({ witTray with th.sizing.on := true } : State).th.sizing.on = true ∧ dutyRuns witTray 1 = true ∧
    50 * 100 < getF witTray Reg.TH_FLOW.LOW_PCT * 65 ∧ (getF witTray Reg.TH_FLOW.LOW_PCT + 5) * 50 ≤ 50 * 100 ∧ 30 * 100 < getF witTray Reg.TH_FLOW.MIN_PCT * 65 ∧
    getF (setF witTray Reg.TH_FLOW_NOM.NOM_FLOW 65) Reg.TH_FLOW_NOM.NOM_FLOW = 65 := by decide

/-- A thermal model of one node, with a CRC of its own. -/
def witNode : List Byte := List.replicate 10 0xFF ++ zeros 16 ++ [0xFF, 0xFF] ++ zeros 4
def witModel (crc : Nat) : List Byte := leBytes 4 0x4D4F4442 ++ leBytes 2 1 ++ leBytes 2 1 ++ leBytes 4 9 ++ leBytes 4 crc ++ zeros 48 ++ witNode
theorem witness_ObserverAndCycleCountingAdvance : witTurn witRun (witDesc 0x40 0 [(9, 16), (16, 96)]) .obsLoad (loadSpec true (witDesc 0x40 0 [(9, 16), (16, 96)])) := by
  unfold witTurn; decide +kernel
theorem witness_ObserverAndCycleCountingAdvance_open : readOpen (witRing witRun []) 0 = true ∧ readOpen { witRing witRun [] with hap.stopped := true } 0 = false := by decide +kernel
theorem witness_ObserverAndCycleCountingAdvance_model : leAt (witDesc 0x40 0 [(9, 16), (16, 96)]) 16 4 = 96 ∧ (witModel 0).length = 96 ∧
    64 + 32 * leAt (witModel 0) 6 2 = 96 ∧ modelCheck witRun (witModel (crc32 witNode)) = 0 ∧ modelCheck witRun (witModel 0) = 2 := by decide +kernel
def witObs : State := setF (setF { witRun with th.model := some (parseModel (witModel 0)), th.settling := true, th.solves := 100 } Reg.TH_CFG.OBS_EN 1) Reg.TH_CFG.RF_EN 1
theorem witness_ObserverAndCycleCountingAdvance_solve : released witObs 6 = true ∧ witObs.th.model.isSome = true ∧ flagOn witObs Reg.TH_CFG.OBS_EN = true ∧
    witObs.th.settling = true ∧ 100 ≤ witObs.th.solves ∧ flagOn witObs Reg.TH_CFG.RF_EN = true ∧
    (∀ b ∈ (parseNode (witModel 0) 64).nbs, b = 0xFFFF) ∧ (parseNode (witModel 0) 64).b = 0 ∧ (parseNode (witModel 0) 64).c = 0 ∧
    ({ witObs with th.solves := 99 } : State).th.solves < 100 := by decide +kernel
theorem witness_ObserverAndCycleCountingAdvance_switch : ∃ s : State, s.th.pend = some (⟨9, []⟩, 4) ∧ released s 6 = true :=
  ⟨{ witRun with th.pend := some (⟨9, []⟩, 4) }, by decide⟩

theorem witness_BudgetPeriodsAndPlansAdvance : ∃ s : State, released s 6 = true ∧ s.bg.ceil = true ∧ (advanceTo s (s.bg.ceilAt + us 100)).bg.pfSum = 0 ∧
    0 ≤ 98 * l1Sum (advanceTo s (s.bg.ceilAt + us 100)) ∧ 0 ≤ 98 * l2Sum (advanceTo s (s.bg.ceilAt + us 100)) ∧ s.mf.isSome = true :=
  ⟨{ witRun with bg.ceil := true }, by decide⟩
theorem witness_BudgetPeriodsAndPlansAdvance_over : ∃ s : State, released s 6 = true ∧ s.bg.ceil = true ∧
    98 * l1Sum (advanceTo s (s.bg.ceilAt + us 100)) < ((advanceTo s (s.bg.ceilAt + us 100)).bg.pfSum : Int) * 100 := ⟨{ witRun with bg.ceil := true, bg.pfSum := 9 }, by decide⟩
theorem witness_BudgetPeriodsAndPlansAdvance_envelope : witTurn { witRun with bg.formed := true } (witDesc 0x50 0 [(8, 1), (12, 5)]) .taken
    (envSpec { witRun with bg.formed := true, bg.ceilC := 9 } (witDesc 0x50 0 [(8, 1), (12, 5)])) ∧
    (envSpec { witRun with bg.formed := true, bg.ceilC := 9 } (witDesc 0x50 0 [(8, 1), (12, 5)])).operand = none := by unfold witTurn; decide +kernel
def witPlan (crc : Nat) : List Byte := leBytes 4 0x4E414C50 ++ leBytes 2 1 ++ leBytes 2 1 ++ leBytes 4 7 ++ leBytes 4 crc ++ zeros 16 ++ [0, 0, 8, 0]
theorem witness_BudgetPeriodsAndPlansAdvance_plan : witTurn (witSa { state := .tracking }) (witDesc 0x32 0 [(9, 16), (16, 36)]) .planLoad
    (loadSpec true (witDesc 0x32 0 [(9, 16), (16, 36)])) ∧ leAt (witDesc 0x32 0 [(9, 16), (16, 36)]) 16 4 = 36 ∧ (witPlan 0).length = 36 ∧
    32 + 4 * leAt (witPlan 0) 6 2 = 36 ∧ planOk (witPlan (crc32 [0, 0, 8, 0])) = true ∧ planOk (witPlan 0) = false := by unfold witTurn; decide +kernel
theorem witness_BudgetPeriodsAndPlansAdvance_open : readOpen (witRing witRun []) 0 = true ∧ readOpen { witRing witRun [] with hap.stopped := true } 0 = false := by decide +kernel
theorem witness_BudgetPeriodsAndPlansAdvance_switch : ∃ s : State, s.bg.pendPlan = some (⟨7, [(0, 8)]⟩, 4) ∧ released s 6 = true ∧ dutyRuns s 2 = true :=
  ⟨{ witRun with bg.pendPlan := some (⟨7, [(0, 8)]⟩, 4) }, by decide⟩

/-- A formed group: parent peer 1, a child peer 2; this member is peer 5 of group 3. -/
def witFelt (l : Link) (k : Nat) : State := { witRun with
  mf := some { witMf with group := some ⟨3, 5, some 1, 100, 10, 500, 0, [2]⟩ },
  bg.formed := true, bg.own := 40, bg.pool := 60, bg.initial := 100, bg.floor := 10, bg.ceilC := 500, bg.links := [(k, l)] }
def witMsg (peer : BitVec 14) (type fields : Nat) : FmpMsg := { peer := peer, payload := BitVec.ofNat 128 (type * 2 ^ 124 + 3 * 2 ^ 112 + fields) }
def witUp : Link := { peer := 2, st := .up }
theorem witness_FeltMessagesTakeEffect : FeltMsg (witFelt witUp 1) (witMsg 2 1 (7 * 2 ^ 80 + 7 * 2 ^ 56)) 1 1 witUp ∧ fits witUp ⟨7, 7⟩ = true ∧
    fits witUp ⟨0, 7⟩ = false ∧ fits witUp ⟨9, 7⟩ = false ∧ witUp.ooo = [] ∧ (witFelt witUp 1).bg.ownFloor = false := by decide
theorem witness_FeltMessagesTakeEffect_kinds : FeltMsg (witFelt { witUp with sent := 9 } 1) (witMsg 2 2 (7 * 2 ^ 80)) 2 1 { witUp with sent := 9 } ∧
    FeltMsg (witFelt witUp 1) (witMsg 2 2 (7 * 2 ^ 80)) 2 1 witUp ∧ 2 ^ 31 ≤ (witUp.sent + 2 ^ 32 - 7) % 2 ^ 32 ∧ (9 + 2 ^ 32 - 7) % 2 ^ 32 < 2 ^ 31 ∧
    FeltMsg (witFelt witUp 1) (witMsg 2 3 (7 * 2 ^ 88)) 3 1 witUp ∧ FeltMsg (witFelt witUp 1) (witMsg 2 4 (2 ^ 27)) 4 1 witUp ∧
    (parsePace (witMsg 2 4 (2 ^ 27)).payload.toNat).valid = true ∧ FeltMsg (witFelt witUp 0) (witMsg 2 5 (2 ^ 27)) 5 0 witUp ∧
    FeltMsg (witFelt witUp 0) (witMsg 2 8 (2 ^ 60)) 8 0 witUp ∧ badFelt (witFelt witUp 1) (witMsg 3 1 0) = true ∧ feltRuns (witFelt witUp 1) = true ∧
    dutyRuns (witFelt witUp 0) 1 = true ∧ dutyRuns { witFelt witUp 0 with du.cores := [] } 1 = false ∧ timerDue (witFelt witUp 0) ⟨0, 0, .step 0⟩ = false ∧ timerDue { witFelt witUp 0 with sa.state := .tracking } ⟨0, 0, .step 0⟩ = true ∧
    flagOn (witFelt witUp 1) Reg.BG_CFG.FELT_EN = false := by
  refine ⟨?_, ?_, ?_, ?_, ?_, ?_, ?_, ?_, ?_, ?_, ?_, ?_, ?_, ?_, ?_, ?_⟩ <;> decide

theorem witness_FeltLinksSynchroniseAndAudit : FeltMsg (witFelt witUp 1) (witMsg 2 9 0) 9 1 witUp ∧ witUp.st ≠ .waiting ∧
    FeltMsg (witFelt { witUp with st := .waiting } 1) (witMsg 2 9 0) 9 1 { witUp with st := .waiting } ∧
    FeltMsg (witFelt { witUp with st := .waiting, peer := 9 } 1) (witMsg 9 9 0) 9 1 { witUp with st := .waiting, peer := 9 } ∧
    link (witFelt { witUp with st := .answering } 1) 1 = some { witUp with st := .answering } ∧
    FeltMsg (witFelt { witUp with st := .waiting } 1) (witMsg 2 10 (5 * 2 ^ 80)) 10 1 { witUp with st := .waiting } ∧ (witFelt witUp 1).bg.ownFloor = false := by
  refine ⟨?_, ?_, ?_, ?_, ?_, ?_, ?_⟩ <;> decide
theorem witness_FeltLinksSynchroniseAndAudit_sync : witTurn (witFelt witUp 1) (witDesc 0x51 0x09000002 []) .taken
    { target := feltTarget (witFelt witUp 1) (witDesc 0x51 0x09000002 []) } ∧ linkOf (witFelt witUp 1) (dTarget (witDesc 0x51 0x09000002 []) % 2 ^ 24) = some (1, witUp) := by
  unfold witTurn; decide +kernel
theorem witness_FeltLinksSynchroniseAndAudit_audit : FeltMsg (witFelt witUp 0) (witMsg 2 6 (7 * 2 ^ 96)) 6 0 witUp ∧
    FeltMsg { witFelt witUp 1 with bg.audit := some 0, bg.epoch := 7 } (witMsg 2 7 (7 * 2 ^ 96)) 7 1 witUp ∧
    ({ witFelt witUp 1 with bg.audit := some 0, bg.epoch := 7 } : State).bg.audit.isSome = true ∧
    isRoot { witFelt witUp 1 with mf := some { witMf with group := some ⟨3, 5, none, 100, 10, 500, 0, [2]⟩ } } = true ∧
    getF (witFelt witUp 1) Reg.BG_AUDIT.PERIOD_MS ≠ 0 ∧ (witFelt witUp 1).bg.issued - 5 ≠ 0 := by
  refine ⟨?_, ?_, ?_, ?_, ?_, ?_⟩ <;> decide
theorem witness_FeltLinksSynchroniseAndAudit_back : ∃ (s : State) (m : FmpMsg) (l : Link), feltRuns s = true ∧ m.undeliv = true ∧ badFelt s m = false ∧
    bitsAt m.payload.toNat 124 4 = 1 ∧ linkOf s m.peer.toNat = some (1, l) ∧ link s 1 = some l ∧ l.st = .up ∧
    getF s Reg.BG_FELT.RETRY_MAX ≤ ((l.retries.find? (·.credit == ⟨7, 7⟩)).map (·.tries)).getD 0 :=
  ⟨witFelt { witUp with retries := [⟨⟨7, 7⟩, 99, none⟩] } 1, { witMsg 2 1 (7 * 2 ^ 80 + 7 * 2 ^ 56) with undeliv := true }, { witUp with retries := [⟨⟨7, 7⟩, 99, none⟩] },
    by decide⟩
theorem witness_FeltLinksSynchroniseAndAudit_retry : ∃ (s : State) (l : Link), link s 1 = some l ∧ l.st = .up ∧ l.retries.find? (·.due.isSome) = some ⟨⟨7, 7⟩, 0, some 9⟩ ∧
    l.gapAt = some 3 ∧ feltRuns s = true ∧ l.lost = false :=
  ⟨witFelt { witUp with retries := [⟨⟨7, 7⟩, 0, some 9⟩], gapAt := some 3 } 1, { witUp with retries := [⟨⟨7, 7⟩, 0, some 9⟩], gapAt := some 3 }, by decide⟩

theorem witness_FeltCreditsAreConserved : FeltInv (witFelt witUp 1) ∧ ∃ t, exec (.feltCredit (witMsg 2 1 (7 * 2 ^ 80 + 7 * 2 ^ 56))) (witFelt witUp 1) = .next t :=
  ⟨⟨by decide, by decide⟩, _, rfl⟩

theorem witness_AccountsAreFetchedAndWrittenBack : (5 : Nat) / 1000 < 2 ^ 64 := by decide
def witAcct : State := { witFc with bg.accts := [(7, { nj := 9, dirty := true })] }
theorem witness_AccountsAreFetchedAndWrittenBack_read : witTurn witAcct (witDesc 0x52 0x0A000007 []) .result
    (destSpec true (dTarget (witDesc 0x52 0x0A000007 []) / 2 ^ 24 == 10 && validUnit witAcct (dTarget (witDesc 0x52 0x0A000007 []))) (witDesc 0x52 0x0A000007 [])) ∧
    resident witAcct 7 = true ∧ resident witFc 7 = false ∧ readOpen (witRing witFc []) 2 = true ∧ (parseAcct ((acctBytes 9 false 0 0).take 32)).2 = true := by unfold witTurn; decide +kernel
theorem witness_AccountsAreFetchedAndWrittenBack_flush : witTurn witAcct (witDesc 0x53 0 []) .acctFlush { target := noTarget (witDesc 0x53 0 []) } ∧
    (acct witAcct 7).dirty = true ∧ (acct witAcct 7).writing = false ∧ (∃ p ∈ witAcct.bg.accts, p.2.dirty = true) ∧ hostOpen witAcct = true ∧
    (witAcct.mf.bind (·.accounts)).isSome = true ∧ dutyRuns witAcct 2 = true ∧ witFc.bg.accts = [] := by
  unfold witTurn; refine ⟨by decide +kernel, ?_, ?_, ?_, ?_, ?_, ?_, ?_⟩ <;> decide
def witDone (p : Purpose) (st : Nat) (bs : List Byte) : State := { witAcct with hap.done := [⟨p, st, bs⟩] }
theorem witness_AccountsAreFetchedAndWrittenBack_done :
    (witDone (.acctFetch 8) 3 []).hap.done.find? (fun d => match d.purpose with | .qmap .. | .acctFetch _ => true | _ => false) = some ⟨.acctFetch 8, 3, []⟩ ∧
    (bind { witDone (.qmap 5 0 []) 0 (leBytes 4 0x80000007) with bg.binds := [(5, { look := some 0 })] } 5).look = some 0 ∧
    mapLen 0x1000 0 = 32 ∧ mapLen 0x101E 0 = 64 ∧ bitAt (leAt (leBytes 4 0x80000007) 0 4) 31 = true ∧
    (witDone (.acctWb 7) 0 []).hap.done.find? (fun d => match d.purpose with | .acctWb _ => true | _ => false) = some ⟨.acctWb 7, 0, []⟩ ∧
    (witDone (.acctWb 7) 0 []).bg.flushes = [] := ⟨
    by decide +kernel, by decide +kernel, by decide +kernel, by decide +kernel, by decide +kernel, by decide +kernel, by decide +kernel⟩
theorem witness_AccountsAreFetchedAndWrittenBack_key : witTurn witRun (witDesc 0x54 0 []) .result (destSpec false (noTarget (witDesc 0x54 0 [])) (witDesc 0x54 0 [])) := by
  unfold witTurn; decide +kernel

def witDb : State := setF (setF witRun Reg.HR_DB_BASE_LO.EN 1) (Reg.RING_CFG.EN 3) 1
theorem witness_RingsFetchCheckAndComplete : hostRuns witDb = true ∧ dutyRuns witDb 2 = true ∧ witDb.hap.stopped = false ∧ flagOn witDb Reg.HR_DB_BASE_LO.EN = true ∧
    ringEn witDb 3 = true ∧ ringEn witDb 4 = false := by decide
def witRd (p : Purpose) (st : Nat) (r : Ring) : State := { witDb with hap.done := [⟨p, st, []⟩], hr.rings := [(3, r)] }
theorem witness_RingsFetchCheckAndComplete_done : (witRd .dbProd 0 {}).hap.done.find? (fun d => isDoorbell d.purpose) = some ⟨.dbProd, 0, []⟩ ∧
    (witRd .dbCplCons 0 {}).hap.done.find? (fun d => isDoorbell d.purpose) = some ⟨.dbCplCons, 0, []⟩ ∧
    (witRd .dbEvCons 0 {}).hap.done.find? (fun d => isDoorbell d.purpose) = some ⟨.dbEvCons, 0, []⟩ ∧
    (witRd (.fetch 3 0 1) 0 { fetching := true }).hap.done.find? (fun d => isFetch d.purpose) = some ⟨.fetch 3 0 1, 0, []⟩ ∧
    (ring (witRd (.fetch 3 0 1) 0 { fetching := true }) 3).fetching = true ∧ ringEn (witRd (.fetch 3 0 1) 0 { fetching := true }) 3 = true ∧
    (witRd (.cpl 3 0) 0 { cplOut := [0], cplProd := 1 }).hap.done.find? (fun d => isCpl d.purpose) = some ⟨.cpl 3 0, 0, []⟩ ∧
    0 ∈ (ring (witRd (.cpl 3 0) 0 { cplOut := [0], cplProd := 1 }) 3).cplOut ∧ witDb.rs.whole ≠ some (3, 0) ∧ journalled witDb = false ∧
    coverIdx ((ring (witRd (.cpl 3 0) 0 { cplOut := [0], cplProd := 1 }) 3).cplOut.filter (· != 0)) 1 ≠ coverIdx [0] 1 ∧ (ring witDb 3).error = false := by
  refine ⟨rfl, rfl, rfl, rfl, ?_, ?_, rfl, ?_, ?_, ?_, ?_, ?_⟩ <;> decide
theorem witness_RingsFetchCheckAndComplete_turn : witTurn witRun (witDesc 0x01 0 []) .taken { manifest := false, target := noTarget (witDesc 0x01 0 []) } ∧
    definedOp (dOp (witDesc 0xFE 0 [])) = false ∧ Turn (witRing witRun (witDesc 0xFE 0 [])) 0 (witDesc 0xFE 0 []) := by unfold witTurn; decide +kernel
theorem witness_RingsFetchCheckAndComplete_checks : (firstReserved {} (witDesc 0x01 0 [(9, 4)])).isSome = true ∧ firstReserved {} (witDesc 0x01 0 []) = none ∧
    ringSec witRun 3 = false ∧ witRun.hr.mfAccepted = true ∧ State.reset.hr.mfAccepted = false ∧ noTarget (witDesc 0x01 5 []) = false := by decide +kernel
theorem witness_RingsFetchCheckAndComplete_fails : ∀ st ∈ [1, 4], (witRd .dbProd st {}).hap.done.find? (fun d => isDoorbell d.purpose) = some ⟨.dbProd, st, []⟩ ∧
    (witRd (.fetch 4 0 1) st {}).hap.done.find? (fun d => isFetch d.purpose) = some ⟨.fetch 4 0 1, st, []⟩ ∧
    (ring (witRd (.fetch 4 0 1) st {}) 4).fetching = false ∧ (ring { witDb with hr.rings := [(4, { fetching := true })] } 4).fetching = true ∧
    (witRd (.cpl 3 1) st { cplOut := [0] }).hap.done.find? (fun d => isCpl d.purpose) = some ⟨.cpl 3 1, st, []⟩ ∧
    1 ∉ (ring (witRd (.cpl 3 1) st { cplOut := [0] }) 3).cplOut := by decide
theorem witness_RingsFetchCheckAndComplete_none : hostRuns State.reset = false ∧ takeTurn State.reset = none ∧
    State.reset.hap.done.find? (fun d => isDoorbell d.purpose) = none ∧ getF (setF witRun Reg.HR_TEL_CFG.PERIOD_US 0) Reg.HR_TEL_CFG.PERIOD_US = 0 ∧
    flagOn witRun Reg.HR_TEL_CFG.EN = false := by decide
theorem witness_RingsFetchCheckAndComplete_late : journalled { witRun with du.synced := true } = true ∧ hostRuns { witRun with rs.subBlk := 0x100 } = false ∧
    journalled { witRun with rs.subBlk := 0x100 } = false ∧ (ring { witDb with hr.rings := [(3, { error := true })] } 3).error = true ∧
    subIn { witRun with rs.subBlk := 0x40 } (subOf 0x10) = true ∧ subOf 0x10 ≠ 0 := by decide
theorem witness_RingsFetchCheckAndComplete_tel : ∃ s : State, hostRuns s = true ∧ getF s Reg.HR_TEL_CFG.PERIOD_US ≠ 0 ∧ flagOn s Reg.HR_TEL_CFG.EN = true ∧
    ringRoom s.hr.telProd s.hr.telCons (telSize s) = true := ⟨setF (setF witRun Reg.HR_TEL_CFG.PERIOD_US 50) Reg.HR_TEL_CFG.EN 1, by decide⟩

def witPow (on : Nat) : List Byte := witDesc 0x05 0 [(8, on), (16, 32)]
def witOff : State := { witRun with cc.tiles := [] }
def witWave (j : WaveJob) : State := { witOff with rs.waves := [j], hr.flights := [⟨4, 0, 0, 7, 5, .clusterUp⟩] }
theorem witness_ClusterPowerGoesInWaves : witTurn (witReady witOff) (witPow 1) .clusterUp (powerSpec (witReady witOff) (witPow 1)) ∧
    isReady (witReady witOff) = true ∧ isReady witOff = false ∧ powerRefused (witReady witOff) (namedTiles (witPow 1)) = none ∧ powerRefused (witReady witRun) (namedTiles (witPow 0)) = none ∧
    (namedTiles (witPow 1)).filter (fun c => !(tile witOff c).pwrOk) = [5] ∧ (namedTiles (witPow 1)).filter (fun c => !(tile witRun c).pwrOk) = [] ∧
    powerRefused (witTile { lost := true }) (namedTiles (witPow 1)) = some 5 := by
  unfold witTurn; decide +kernel
theorem witness_ClusterPowerGoesInWaves_down : witTurn (witReady witRun) (witPow 0) .taken (powerSpec (witReady witRun) (witPow 0)) := by
  unfold witTurn; decide +kernel
theorem witness_ClusterPowerGoesInWaves_next : ∃ j : WaveJob, (witWave j).rs.waves.find? (fun j => j.now.isEmpty && !j.left.isEmpty) = some j := ⟨⟨4, [5], [], 0, 0, none⟩, by decide⟩
theorem witness_ClusterPowerGoesInWaves_ok : ∃ j : WaveJob, tileRuns (witWave j) 5 = true ∧ (mfTile (witWave j) 5).present = true ∧ (tile (witWave j) 5).pwrOk = false ∧
    (witWave j).rs.waves.find? (fun j => j.now.contains 5) = some j ∧ j.now = [5] ∧ j.left = [] ∧ j.failed = none ∧
    (witWave j).hr.flights.find? (·.key == j.key) = some ⟨4, 0, 0, 7, 5, .clusterUp⟩ := ⟨⟨4, [], [5], 0, 0, none⟩, by decide⟩
theorem witness_ClusterPowerGoesInWaves_hold : ∃ s : State, (tile s 5).pwrOk = true ∧ (tile s 5).hold10 = true ∧ tileRuns s 5 = true :=
  ⟨witTile { pwrOk := true, hold10 := true }, by decide⟩
theorem witness_ClusterPowerGoesInWaves_fall : ∃ (s : State) (f : Flight), (tile s 5).pwrOk = true ∧ f ∈ s.hr.flights ∧ f.job = .clusterDown [5] :=
  ⟨{ witRun with hr.flights := [⟨4, 0, 0, 7, 5, .clusterDown [5]⟩] }, ⟨4, 0, 0, 7, 5, .clusterDown [5]⟩, by decide⟩

def witRst (scope target tiles : Nat) : List Byte := witDesc 0x04 target [(8, scope), (16, tiles)]
theorem witness_TileResetsRunTheirSteps : witTurn witRun (witRst 1 0x07000140 0) .engReset (engSpec witRun (witRst 1 0x07000140 0)) ∧
    inRst witRun (dTarget (witRst 1 0x07000140 0) % 2 ^ 24 / 64) = false ∧ (engSpec witRun (witRst 9 0 0)).operand = some 8 := by unfold witTurn; decide +kernel
theorem witness_TileResetsRunTheirSteps_cluster : witTurn witRun (witRst 2 0x01000005 0) .taken (clusterSpec witRun (witRst 2 0x01000005 0)) := by
  unfold witTurn; decide +kernel
theorem witness_TileResetsRunTheirSteps_part : witTurn witRun (witRst 3 0x08000000 32) .taken (partSpec witRun (witRst 3 0x08000000 32)) ∧
    namedTiles (witRst 3 0x08000000 32) = [5] ∧ namedTiles (witRst 3 0x08000000 0) = [] := by unfold witTurn; decide +kernel
theorem witness_TileResetsRunTheirSteps_in (b : Bool) : ∃ s : State, tget none s.rs.tileRst 5 = some ⟨4, 0, b, 2⟩ ∧ inRst s 5 = true :=
  ⟨{ witRun with rs.tileRst := [(5, some ⟨4, 0, b, 2⟩)] }, by revert b; decide⟩
theorem witness_TileResetsRunTheirSteps_engine : (eng ({ engs := [(3, { running := true, cost := 4 })] } : Tile) 3).running = true := by decide

def witSub (c : Nat) : List Byte := witDesc 0x04 0x08000000 [(8, 4), (9, c)]
def witRes : State := { witRun with du.cores := [(0, { st := 1 }), (1, { st := 1 }), (2, { st := 1 }), (4, { st := 2 })], pc.rails := [] }
theorem witness_HubResetsRunTheirScopes : ∀ c ∈ [1, 2, 3, 4], witTurn witRes (witSub c) .taken (subSpec witRes (witSub c)) ∧ subIn witRes c = false ∧
    subMay witRes c = true := by unfold witTurn; decide +kernel
theorem witness_HubResetsRunTheirScopes_high : ∀ c ∈ [5, 6, 7], witTurn witRes (witSub c) .taken (subSpec witRes (witSub c)) ∧ subIn witRes c = false ∧
    subMay witRes c = true := by unfold witTurn; decide +kernel
theorem witness_HubResetsRunTheirScopes_cores : (Machine.core witRes 1).st = 1 ∧ (Machine.core witRes 4).st ≠ 6 ∧ subMay witRun 1 = false ∧
    (subSpec witRun (witSub 8)).operand = some 9 := by decide
theorem witness_HubResetsRunTheirScopes_left : coreSub 1 = 2 ∧ coreSub 4 = 4 ∧ bitAt (4 : Nat) 2 = true ∧ (Machine.core witRes 1).st ≠ 5 ∧ dutyRuns witRes 1 = true ∧
    (∀ r ∈ [4, 5, 6, 7], (Machine.core witRes r).st ≠ 5) ∧ (Machine.core { witRes with du.cores := [(1, { st := 5 })] } 1).st = 5 ∧
    ([⟨4, 0, 0, 7, 4, .subReset 2⟩] : List Flight).filter (fun g => g.job == .subReset 2) = [⟨4, 0, 0, 7, 4, .subReset 2⟩] := by decide
theorem witness_HubResetsRunTheirScopes_whole : witTurn witRun (witDesc 0x04 0x08000000 [(8, 5)]) .whole (wholeSpec witRun (witDesc 0x04 0x08000000 [(8, 5)])) ∧
    (ring (witRing witRun (witDesc 0x04 0x08000000 [(8, 5)])) 0).error = false := by unfold witTurn; decide +kernel
theorem witness_HubResetsRunTheirScopes_drain : ∃ (s : State) (a : Nat), s.rs.draining = some a ∧ s.hap.out ≠ [] := ⟨{ witHap with rs.draining := some 3 }, 3, by decide⟩

/-- A build of one tile agent, one port and one rail, and a manifest of 168 bytes for it. -/
def witBuild : State := setF { State.reset with build := { tiles := 1, hubs := 1, ports := 1, rails := 1 }, rs.step := 8, rs.done := 8
                                                du.mode := 0, rs.census0 := [0], rs.lat0 := 2, du.cores := [(2, { st := 1 })] } Reg.RS_STATUS.PHASE 8
def witMan : List Byte :=
  let body := leBytes 2 1 ++ leBytes 2 1 ++ leBytes 4 96 ++ leBytes 2 2 ++ leBytes 2 0 ++ leBytes 4 120 ++ leBytes 2 3 ++ leBytes 2 0 ++ leBytes 4 120 ++
    leBytes 2 4 ++ leBytes 2 1 ++ leBytes 4 120 ++ [0, 0, 1, 1] ++ zeros 20 ++ [0, 1, 0, 0] ++ zeros 36 ++ zeros 8
  leBytes 4 0x464E414D ++ leBytes 2 1 ++ leBytes 2 4 ++ leBytes 4 9 ++ leBytes 4 (crc32 body) ++ leBytes 4 168 ++ leBytes 4 (fxBuild witBuild.build) ++
    zeros 5 ++ [1] ++ zeros 34 ++ body
def witLoad (op : Nat) (len : Nat) : List Byte := witDesc op 0 [(16, len % 256), (17, len / 256)]
theorem witness_ManifestComesIntoForce : witTurn witBuild (witLoad 2 168) .taken (loadSpec false (witLoad 2 168)) ∧ witBuild.hr.mfAccepted = false := by
  unfold witTurn; decide +kernel
theorem witness_ManifestComesIntoForce_ok : manifestReason witBuild witMan 168 = 0 ∧ leAt witMan 16 4 = 168 ∧ witMan.take 168 = witMan := by decide +kernel
theorem witness_ManifestComesIntoForce_bus : busWorks { witBuild with du.cores := [(1, { st := 1 }), (2, { st := 1 })] } = true ∧ busWorks witBuild = false ∧
    readOpen (witRing witBuild []) 0 = true ∧ readOpen { witRing witBuild [] with hap.stopped := true } 0 = false := by decide +kernel
theorem witness_ManifestComesIntoForce_agree : agree witBuild (parseManifest witMan) {} = none ∧
    (agree witBuild (parseManifest witMan) { ports := [0] }).isSome = true := by decide +kernel
theorem witness_ManifestComesIntoForce_crc : crc32 (zeros 4) ≠ leAt (zeros 4) 0 4 := by decide +kernel
theorem witness_ManifestComesIntoForce_ready : ∃ s : State, hostOpen s = true ∧ getF s Reg.RS_STATUS.PHASE = 10 ∧ s.du.mode = 0 ∧ s.rs.zeroing = false ∧
    flagOn s Reg.TH_SIZE.DONE = true ∧ flagOn witBuild Reg.TH_SIZE.DONE = false := ⟨setF (setF witBuild Reg.RS_STATUS.PHASE 10) Reg.TH_SIZE.DONE 1, by decide⟩

def witFw (kind : Nat) : List Byte := leBytes 4 0x57464C46 ++ leBytes 2 1 ++ leBytes 1 kind ++ [0] ++ leBytes 4 9 ++ leBytes 4 32 ++ zeros 144
def witFwDesc (kind len : Nat) : List Byte := witDesc 0x03 0 [(16, len), (20, kind)]
def witBoot (n : Nat) : State := setF witRes Reg.RS_STRAPS.BOOT_SRC n
theorem witness_FirmwareImagesAreJudgedAndStarted : witTurn (witBoot 3) (witFwDesc 2 160) (.firmware 0 []) (firmwareSpec (witFwDesc 2 160)) ∧
    readOpen (witRing (witBoot 3) []) 3 = true ∧ dutyRuns (witBoot 3) 0 = true ∧ getF (witBoot 3) Reg.RS_STRAPS.BOOT_SRC = 3 ∧ (witBoot 3).hr.lockFw = false ∧ (witBoot 3).du.image = none ∧
    imageReason (witBoot 3) 2 false (witFw 2) = 0 ∧ leAt (witFw 2) 12 4 = 32 ∧
    dutyRuns State.reset 0 = false := by unfold witTurn; decide +kernel
theorem witness_FirmwareImagesAreJudgedAndStarted_tap : getF (witBoot 1) Reg.RS_STRAPS.BOOT_SRC = 1 ∧ released (witBoot 1) 8 = true ∧ dutyRuns (witBoot 1) 0 = true ∧
    (witFw 1).length = 128 + leAt (witFw 1) 12 4 ∧ imageReason (witBoot 1) (byteAt (witFw 1) 6) false (witFw 1) = 0 ∧
    imageReason (witBoot 1) (byteAt (witFw 9) 6) false (witFw 9) ≠ 0 := by decide +kernel
def witImage (k : Nat) : State := { witRes with du.image := some ⟨k, 9, []⟩ }
theorem witness_FirmwareImagesAreJudgedAndStarted_start : ∀ k ∈ [1, 2, 3, 4, 5], released (witImage k) 8 = true ∧ (witImage k).du.image = some ⟨k, 9, []⟩ ∧
    standby (witImage k) = some 4 ∧ (witImage k).rs.bcast = none ∧ (∀ q ∈ [4, 5, 6, 7], (Machine.core (witImage k) q).st ≠ 7) ∧ (k ≤ 3 → (Machine.core (witImage k) (k - 1)).st = 1) := by decide
theorem witness_FirmwareImagesAreJudgedAndStarted_none : released witRun 8 = true ∧ standby witRun = none := by decide
def witBcast : Bcast := ⟨false, bcastFrames [1], [5], 0⟩
theorem witness_FirmwareImagesAreJudgedAndStarted_bcast : ({ witRun with rs.bcast := some witBcast } : State).rs.bcast = some witBcast ∧
    witBcast.left.filter (fun t => framesTaken witBcast [(5, [])] t != witBcast.frames && !bcastCheck (framesTaken witBcast [(5, [])] t)) = [5] ∧
    witBcast.left.filter (fun t => framesTaken witBcast [] t != witBcast.frames && !bcastCheck (framesTaken witBcast [] t)) = [] ∧ witBcast.tries < 3 := by
  decide +kernel

def witFz (act : Nat) : List Byte := witDesc 0x61 0 [(8, act)]
def witAt (lo t : Nat) : State := setF (setF { witRun with tb.time := t, tb.running := true, obs.timedKey := some 4 } Reg.OBS_FRZ_CFG.AT_EN 1) Reg.OBS_FRZ_AT_LO.TIME lo
theorem witness_FreezesHoldAndThaw : ∀ act ∈ [0, 1], witTurn (witAt 9 5) (witFz act) .freeze (freezeSpec (witFz act)) ∧
    flagOn (witAt 9 5) Reg.OBS_FRZ_CFG.AT_EN = true ∧ flagOn witRun Reg.OBS_FRZ_CFG.AT_EN = false ∧ (freezeSpec (witFz 2)).operand = some 8 := by
  unfold witTurn; decide +kernel
theorem witness_FreezesHoldAndThaw_at : frzAt (witAt 9 5) = 9 ∧ (witAt 9 5).tb.time < 9 ∧ frzAt (witAt 9 9) = (witAt 9 9).tb.time ∧ frzAt (witAt 9 12) < (witAt 9 12).tb.time ∧
    alive (witAt 9 5) = true ∧ (witAt 9 5).tb.running = true ∧ (witAt 9 5).obs.timedKey = some 4 := by decide
theorem witness_FreezesHoldAndThaw_frozen : flagOn (setF witRun Reg.OBS_FRZ_STATUS.FROZEN 1) Reg.OBS_FRZ_STATUS.FROZEN = true ∧
    flagOn witRun Reg.OBS_FRZ_STATUS.FROZEN = false := by decide
theorem witness_FreezesHoldAndThaw_tap : bitAt (1 : Byte).toNat 0 = true ∧ bitAt (1 : Byte).toNat 1 = false ∧ bitAt (2 : Byte).toNat 1 = true ∧ bitAt (2 : Byte).toNat 0 = false ∧
    bitAt (3 : Byte).toNat 0 = bitAt (3 : Byte).toNat 1 ∧ alive witRun = true := by decide
theorem witness_FreezesHoldAndThaw_count : tileRuns witRun 5 = true ∧ tileRuns State.reset 5 = false ∧
    ∃ x : OpInc, TableOk ({} : OpInc) (tile (witTile { ops := [(3, x)] }) 5).ops :=
  ⟨by decide, by decide, { grants := 2 }, by unfold TableOk; decide⟩
theorem witness_FreezesHoldAndThaw_marks : ∃ s : State, s.obs.marker = true ∧ s.obs.snapCap = true := ⟨{ witRun with obs.marker := true, obs.snapCap := true }, by decide⟩
theorem witness_FreezesHoldAndThaw_scan : ∃ s : State, s.tap.st = .shiftDr ∧ s.tap.ir = 0x21 ∧ s.tap.scanWord = 0 ∧ s.tap.out = [] ∧ s.tap.dr = bitsLsb (scanOut s 0) 32 ∧
    witRun.tap.st ≠ .shiftDr := ⟨{ witRun with tap := { ir := 0x21, st := .shiftDr, dr := bitsLsb 0x4E414353 32 } }, by decide⟩

def witRec (kind target : Nat) : List Byte := witDesc 0x70 target [(8, kind)]
def witBad : State := { witRun with du.tcores := [(5, { st := 6 })] }
theorem witness_RepairsAreMappedAndRecorded : witTurn witBad (witRec 1 0x01000005) .fuse (fuseSpec witBad (witRec 1 0x01000005)) ∧
    toRecord witBad 1 0x01000005 = [record 1 5] ∧ toRecord witRun 1 0x01000005 = [] := by unfold witTurn; decide +kernel
theorem witness_RepairsAreMappedAndRecorded_kinds : ∀ k ∈ [2, 3], witTurn witRun (witRec k 0x05000200) .fuse (fuseSpec witRun (witRec k 0x05000200)) := by
  unfold witTurn; decide +kernel
theorem witness_RepairsAreMappedAndRecorded_word : emptyWord witBad = some 3072 ∧ ((0 : Word32)).toNat ≠ fuseWord (record 1 5) ∧
    (([] : List Word32).headD (BitVec.ofNat 32 (fuseWord (record 1 5)))).toNat = fuseWord (record 1 5) := by decide +kernel
theorem witness_RepairsAreMappedAndRecorded_second : emptyWord (voidWord witBad 3072 (fuseWord (record 1 5))) = some 3073 ∧
    (([0, 0] : List Word32).tail.headD (BitVec.ofNat 32 (fuseWord (record 1 5)))).toNat ≠ fuseWord (record 1 5) := by decide +kernel
theorem witness_RepairsAreMappedAndRecorded_row : released witRun 3 = true ∧ 1 < witRun.build.hubs ∧ rowsFree witRun 1 true ≠ 0 ∧
    tget 0 witRun.sp.ce (rowKey 1 true 5) + 1 < getF witRun Reg.SP_CFG.ROW_CE_LIMIT ∧ witRun.du.mode = 1 ∧ ¬ released State.reset 3 = true := by decide
theorem witness_RepairsAreMappedAndRecorded_full : ∃ s : State, released s 3 = true ∧ rowsFree s 1 true = 0 ∧
    getF (setF s Reg.SP_CFG.ROW_CE_LIMIT 1) Reg.SP_CFG.ROW_CE_LIMIT ≤ tget 0 s.sp.ce (rowKey 1 true 40) + 1 :=
  ⟨{ witRun with sp.mapped := (List.range 16).map (rowKey 1 true) }, by decide +kernel⟩
theorem witness_RepairsAreMappedAndRecorded_image : ∃ s : State, released s 3 = true ∧ s.du.mode ≠ 1 ∧ s.hr.flights = [] ∧ s.du.tapWait = none ∧ 0 < s.build.hubs ∧
    getF s (Reg.FW_IMAGE.ID 0) ≠ 0 ∧ getF s (Reg.FW_IMAGE.ID 3) ≠ 0 ∧ (Machine.core s 0).st = 1 ∧ standby s = some 4 ∧ s.du.asked = false ∧ 0 = s.du.active :=
  ⟨setF (setF { witRes with du.mode := 0 } (Reg.FW_IMAGE.ID 0) 7) (Reg.FW_IMAGE.ID 3) 7, by decide⟩
theorem witness_RepairsAreMappedAndRecorded_spare : witRun.sp.laneAt = [] ∧ spareLane witRun 1 = some 16 := by decide
theorem witness_RepairsAreMappedAndRecorded_lane : witRun.du.mode = 1 ∧ bitAt (getF witRun (laneFld 1)) 4 = false ∧ lanesFailed witRun 1 < 2 ∧
    bitAt (getF (setF witRun (laneFld 1) 16) (laneFld 1)) 4 = true := by decide
theorem witness_RepairsAreMappedAndRecorded_wear : released witRun 6 = true ∧ released State.reset 6 = false ∧ getF witRun Reg.SP_WEAR_SEL.REGION ≤ 128 := by decide

theorem witness_CoresAreCoveredAndRestart : alive witRes = true ∧ (Machine.core witRes 0).st = 1 ∧ standby witRes = some 4 ∧ (Machine.core witRes 4).st = 2 ∧
    standby witRun = none ∧ (Machine.core witRun 1).st = 1 ∧ (Machine.core State.reset 1).st ≠ 1 ∧ (Machine.core State.reset 5).st ≠ 2 ∧ (Machine.core State.reset 5).st ≠ 3 := by decide
def witDown : State := { witRes with du.cores := [(0, { st := 5, byFault := true }), (1, { st := 1 }), (2, { st := 1 }), (4, { st := 5 })] }
theorem witness_CoresAreCoveredAndRestart_back : alive witDown = true ∧ canRestart witDown (Machine.core witDown 0) = true ∧
    (Machine.core witDown 0).byFault = true ∧ canRestart witDown (Machine.core witDown 4) = true ∧ standby witDown = none ∧ needsCover witDown 0 = true ∧
    canRestart witDown (Machine.core witDown 1) = false := by decide
theorem witness_CoresAreCoveredAndRestart_reserve : ∃ s : State, (Machine.core s 4).st = 3 ∧ (Machine.core s 4).duty = some 0 ∧ standby s = some 5 ∧ alive s = true ∧
    canRestart s (Machine.core s 6) = true ∧ ∀ j < 3, needsCover s j = false :=
  ⟨{ witRes with du.cores := [(0, { st := 6 }), (1, { st := 1 }), (2, { st := 1 }), (4, { st := 3, duty := some 0 }), (5, { st := 2 }), (6, { st := 5 })] }, by decide⟩
theorem witness_CoresAreCoveredAndRestart_tile : ∃ s : State, tileRuns s 5 = true ∧ (tcore s 5).st = 1 ∧ canRestart s (tcore s 5) = false ∧
    tileRuns s 6 = true ∧ canRestart s (tcore s 6) = true := ⟨{ witRes with du.tcores := [(5, { st := 1 }), (6, { st := 5 })] }, by decide⟩

theorem witness_DuplexFollowsTheJournal : witRun.du.mode = 1 ∧ hostOpen witRun = true ∧ released witRun 6 = true ∧ bitList 0 18 = [] ∧ faultJudged witRun .lane = true ∧ faultJudged witRun .rcLoss = true ∧ faultJudged State.reset .rcLoss = false ∧ witBuild.du.mode ≠ 1 ∧
    faultJudged witBuild .stateUe = true ∧ lanesOut witRun ≤ 2 ∧ 2 < lanesOut (setF witRun (laneFld 1) 7) := by decide
theorem witness_DuplexFollowsTheJournal_early : ∃ s : State, alive s = true ∧ faultJudged s .lane = false ∧ faultJudged s .rcLoss = true ∧ hostOpen s = false ∧
    released { s with du.mode := 1 } 6 = false ∧ alive { s with rs.held := true } = false := ⟨{ State.reset with rs.done := 2 }, by decide⟩
theorem witness_DuplexFollowsTheJournal_cpl : ∃ s : State, s.du.mode = 1 ∧ s.hr.cplWait.filter (·.wait == 1) = [⟨3, 0, 1, 0, 0, 1⟩] ∧ hostRuns s = true ∧
    (ring s 3).error = false ∧ ringEn s 3 = true ∧ s.bg.signWait = 2 :=
  ⟨{ setF witRun (Reg.RING_CFG.EN 3) 1 with hr.cplWait := [⟨3, 0, 1, 0, 0, 1⟩], bg.signWait := 2 }, by decide⟩
theorem witness_DuplexFollowsTheJournal_asked : ∃ s : State, s.du.mode = 1 ∧ s.du.asked = true ∧ witRun.du.asked = false := ⟨{ witRun with du.asked := true }, by decide⟩
theorem witness_DuplexFollowsTheJournal_wait : ∃ s : State, s.du.mode = 1 ∧ s.du.waitTx.filter (fun p => p.2 == 1) ≠ [] :=
  ⟨{ witRun with du.waitTx := [(⟨2, 5, false, false⟩, 1)] }, by decide⟩

def witBox (b : Mbox) : State := { witRun with mb := [(0, b), (2, b)] }
theorem witness_MailboxesAnswerAndBusesRetry : ∀ h ∈ [0, 2 ^ 24 + 2 ^ 20], ∀ ms ∈ [[], [[2 ^ 24 + 2 ^ 20, 7], [0x81 * 2 ^ 24]]],
    mbRuns (witBox { db := true, h2f := ms.flatten ++ [h] }) 2 = true ∧ (mbox (witBox { db := true, h2f := ms.flatten ++ [h] }) 2).db = true ∧
    (mbox (witBox { db := true, h2f := ms.flatten ++ [h] }) 2).h2f = ms.flatten ++ [h] ∧ ms.length ≤ 16 ∧ (hdrType h = 0 ∨ ([] : List Nat).length < hdrLen h) ∧
    mbRuns State.reset 2 = false := by decide
theorem witness_MailboxesAnswerAndBusesRetry_whole : ∀ m ∈ [[2 ^ 24 + 2 ^ 20, 7], [0x81 * 2 ^ 24]], ∃ h p, m = h :: p ∧ 1 ≤ hdrType h ∧ hdrLen h = p.length := by
  intro m hm
  rcases List.mem_cons.mp hm with rfl | hm
  · exact ⟨_, _, rfl, by decide, by decide⟩
  · rw [List.mem_singleton.mp hm]; exact ⟨_, _, rfl, by decide, by decide⟩
theorem witness_MailboxesAnswerAndBusesRetry_full : ∃ b : Mbox, (mbox (witBox b) 2).msgs = [[0x01 * 2 ^ 24]] ∧ (mbox (witBox b) 2).replies = [] ∧
    (mbox (witBox b) 2).f2h.length = 16 := ⟨{ msgs := [[0x01 * 2 ^ 24]], f2h := List.replicate 16 0 }, by decide⟩
theorem witness_MailboxesAnswerAndBusesRetry_part : ∃ b : Mbox, (mbox (witBox b) 2).partAt = some 5 ∧ (mbox witRun 2).partAt = none := ⟨{ partAt := some 5 }, by decide⟩
theorem witness_MailboxesAnswerAndBusesRetry_types : ∀ h ∈ [0x01, 0x02, 0x03, 0x20, 0x21, 0x7F], ∀ c ∈ [(0 : BitVec 2), 2],
    mbRuns (witBox { msgs := [[2 ^ 24 * h]] }) c.toNat = true ∧ (mbox (witBox { msgs := [[2 ^ 24 * h]] }) c.toNat).msgs = [[2 ^ 24 * h]] ∧ hdrType (2 ^ 24 * h) = h := by decide
theorem witness_MailboxesAnswerAndBusesRetry_unknown : mbKnown 0x7F = false ∧ (mbox witRun 2).replies = [] ∧ (mbox witRun 2).msgs = [] := by decide
theorem witness_MailboxesAnswerAndBusesRetry_late : ∃ b : Mbox, (mbox (witBox b) 2).replies = [(5, [1, 2])] := ⟨{ replies := [(5, [1, 2])] }, by decide⟩
def witTxn : PmbTxn := ⟨.readByte, .statusByte, []⟩
def witBus (again : Option (Nat × PmbTxn)) : State := { witRun with mf := some { witMf with pmbus := [(0x40, 2)], i3c := [[8, 2], [9, 0], [10, 2]] }, bus.again := again, bus.retry := [(0, ⟨witTxn, 5⟩)], bus.i3c := [(0, { addressed := true, events := true })] }
theorem witness_MailboxesAnswerAndBusesRetry_bus : pmbusAddr (witBus none) 0 = some 0x40 ∧ pmbusAddr (witBus none) 1 = none ∧ (witBus (some (0, witTxn))).bus.again = some (0, witTxn) ∧ pmbTxnOk witTxn = true ∧ pmbTxnOk ⟨.sendByte, .clearFaults, []⟩ = true ∧ (witBus none).bus.again ≠ some (0, witTxn) ∧
    (witBus none).bus.retry.find? (·.1 == 0) = some (0, ⟨witTxn, 5⟩) ∧ (witBus none).bus.retry.find? (·.1 == 1) = none ∧ released (witBus none) 8 = true ∧
    busWorks (witBus none) = true ∧ busWorks State.reset = false ∧ pmbReads .readByte = true ∧ pmbReads .writeByte = false := by decide
theorem witness_MailboxesAnswerAndBusesRetry_end : pmbGood 0x40 witTxn .nack = false ∧ pmbGood 0x40 witTxn (.answer [1, BitVec.ofNat 8 (pec (pmbSent 0x40 witTxn ++ [1]))]) = true ∧
    pmbGood 0x40 ⟨.sendByte, .clearFaults, []⟩ (.answer []) = true := by decide +kernel
theorem witness_MailboxesAnswerAndBusesRetry_ibi : (witBus none).mf.bind (fun m => m.i3c[0]?) = some [8, 2] ∧ (witBus none).mf.bind (fun m => m.i3c[1]?) = some [9, 0] ∧
    (witBus none).mf.bind (fun m => m.i3c[2]?) = some [10, 2] ∧ ibiNamed [8, 2] = true ∧ ibiNamed [9, 0] = false ∧ (i3cTarget (witBus none) 0).events = true ∧
    (i3cTarget (witBus none) 2).events = false := by decide

theorem test_on_time : onSteps (witPorts { duty := 3878 }) 2 4 = 568 ∧ roundEven (1 * 9600) 144 = 67 := by decide

end Sys2Proof.Tests
end

section
/-! PROOFS. Writes of set-up registers by field type (R8, R9, R10): which register an offset names, what writeFields leaves in each
field of a register, and what follows from a write. -/

namespace Sys2Proof.Machine

/-! ## A write of a register -/

/-- Outside the ring registers and the two ring sizes, the whole of a write reaches the fields. -/
theorem gate_open {s : State} {off v : Nat} {sec : Bool} (hring : ¬(0x0A00 ≤ off ∧ off < 0x0E00)) (hev : off ≠ 0x0818)
    (htel : off ≠ 0x0828) : gate s off v sec = (s, some v) := by
  simp [gate, hring, hev, htel]

/-- A write outside them writes the fields of its register, and what follows from it is worked out. -/
theorem regWrite_of_regAt {s : State} {off i : Nat} {d : RegDef} (hreg : regAt s.build off = some (d, i)) (v : Nat) (sec : Bool)
    (hring : ¬(0x0A00 ≤ off ∧ off < 0x0E00) := by decide) (hev : off ≠ 0x0818 := by decide)
    (htel : off ≠ 0x0828 := by decide) : regWrite s off v sec = afterWrite s (writeFields s d off i v) off v := by
  simp [regWrite, hreg, gate_open hring hev htel]

/-- A write to a reserved offset has no effect (R10). -/
theorem regWrite_reserved {s : State} {off : Nat} (hreg : regAt s.build off = none) (v : Nat) (sec : Bool) :
    regWrite s off v sec = s := by
  simp [regWrite, hreg]

/-- A reserved offset reads 0 (R10). -/
theorem regWord_reserved {s : State} {off : Nat} (hreg : regAt s.build off = none) : regWord s off = 0 := by
  simp [regWord, hreg]

/-! ## The fields of a register after a write -/

/-- A write of v to a register is one that R9 discards: it would change an SU field while a domain runs. -/
def suDiscarded (s : State) (d : RegDef) (off i v : Nat) : Bool := suChanges s (fieldsOf d off i) v && !allStopped s

/-- Takes a write of v, worked out from the fields of s, into one field of t; an SU field of a discarded write is left. -/
def storeField (s : State) (bad : Bool) (v : Nat) (t : State) (p : FDef × Fld) : State :=
  if p.1.ty == .su && bad then t else setF t p.2 (fieldWrite s v p)

theorem writeFields_eq (s : State) (d : RegDef) (off i v : Nat) :
    writeFields s d off i v =
      let t := (fieldsOf d off i).foldl (storeField s (suDiscarded s d off i v) v) s
      if suDiscarded s d off i v then regEventRaise t 1 off v else t := rfl

theorem suDiscarded_of_stopped {s : State} (h : allStopped s = true) (d : RegDef) (off i v : Nat) :
    suDiscarded s d off i v = false := by
  simp [suDiscarded, h]

/-- While a domain runs, one SU field that would change is enough to discard the write. -/
theorem suDiscarded_of_mem {s : State} {d : RegDef} {off i v : Nat} {p : FDef × Fld} (hrun : allStopped s = false)
    (hp : p ∈ fieldsOf d off i) (hsu : p.1.ty = .su) (hne : fieldWrite s v p ≠ getF s p.2) : suDiscarded s d off i v = true := by
  have hany : suChanges s (fieldsOf d off i) v = true := List.any_eq_true.mpr ⟨p, hp, by simp [hsu, hne]⟩
  simp [suDiscarded, hany, hrun]

/-- A discarded write changes no register but the count of events lost. -/
theorem getF_regEventRaise (s : State) (code off v : Nat) {g : Fld} (hg : g.key ≠ Reg.HR_EV_DROP.COUNT.key) :
    getF (regEventRaise s code off v) g = getF s g := getF_raiseEvent s _ _ _ _ hg

/-- Fields that stand elsewhere keep their values while a list of fields is written. -/
theorem getF_foldl_storeField_ne (s : State) (bad : Bool) (v : Nat) {g : Fld} :
    ∀ (l : List (FDef × Fld)) (t : State), (∀ p ∈ l, g.key ≠ p.2.key) → getF (l.foldl (storeField s bad v) t) g = getF t g
  | [], _, _ => rfl
  | p :: l, t, h => by
    obtain ⟨hp, hl⟩ := List.forall_mem_cons.mp h
    rw [List.foldl_cons, getF_foldl_storeField_ne s bad v l _ hl, storeField]
    split
    · rfl
    · exact getF_setF_ne _ hp _

/-- Of fields that stand apart, each takes its own new value, or none while it is an SU field of a discarded write. -/
theorem getF_foldl_storeField_mem (s : State) (bad : Bool) (v : Nat) {p : FDef × Fld} {l : List (FDef × Fld)} (t : State)
    (hl : l.Pairwise (fun a b => a.2.key ≠ b.2.key)) (hp : p ∈ l) :
    getF (l.foldl (storeField s bad v) t) p.2 =
      if p.1.ty == .su && bad then getF t p.2 else fieldWrite s v p % 2 ^ p.2.w := by
  induction l generalizing t with
  | nil => cases hp
  | cons q l ih =>
    obtain ⟨hq, hl⟩ := List.pairwise_cons.mp hl
    rw [List.foldl_cons]
    rcases List.mem_cons.mp hp with rfl | hp
    · rw [getF_foldl_storeField_ne s bad v l _ hq, storeField]
      split
      · rfl
      · exact getF_setF_same _ _ _
    · have hkey : getF (storeField s bad v t q) p.2 = getF t p.2 :=
        getF_foldl_storeField_ne s bad v [q] t (by simpa using (hq p hp).symm)
      rw [ih _ hl hp, hkey]

/-- What a write leaves in a field of the register, by the field's type (R8, R9). -/
theorem getF_writeFields {s : State} {d : RegDef} {off i : Nat} {p : FDef × Fld} (v : Nat)
    (hl : (fieldsOf d off i).Pairwise (fun a b => a.2.key ≠ b.2.key)) (hp : p ∈ fieldsOf d off i)
    (hk : p.2.key ≠ Reg.HR_EV_DROP.COUNT.key) :
    getF (writeFields s d off i v) p.2 =
      if p.1.ty == .su && suDiscarded s d off i v then getF s p.2 else fieldWrite s v p % 2 ^ p.2.w := by
  rw [← getF_foldl_storeField_mem s _ v s hl hp, writeFields_eq]
  dsimp only
  split
  · exact getF_regEventRaise _ _ _ _ hk
  · rfl

/-- A register with one field, of type SU: a write sets the field where its domain is stopped or the value is the present one, and
is discarded with one event otherwise (R9). -/
theorem writeFields_single_su {s : State} {d : RegDef} {off i : Nat} {p : FDef × Fld} (v : Nat) (hf : fieldsOf d off i = [p])
    (hsu : p.1.ty = .su) :
    writeFields s d off i v =
      if allStopped s = true ∨ fieldWrite s v p = getF s p.2 then setF s p.2 (fieldWrite s v p) else regEventRaise s 1 off v := by
  have hbad : suDiscarded s d off i v = (fieldWrite s v p != getF s p.2 && !allStopped s) := by
    simp [suDiscarded, suChanges, hf, hsu]
  rw [writeFields_eq, hf, hbad]
  by_cases hset : allStopped s = true ∨ fieldWrite s v p = getF s p.2
  · have hkeep : (fieldWrite s v p != getF s p.2 && !allStopped s) = false := by
      rcases hset with h | h <;> simp [h]
    simp [hkeep, hset, storeField]
  · obtain ⟨hrun, hne⟩ := not_or.mp hset
    simp [hrun, hne, storeField, hsu]

/-- A 1 written to a W1C bit clears it, and a 0 leaves it. -/
theorem clrBits_bit (old v k : Nat) : clrBits old (bitsAt v k 1) % 2 = if bitAt v k then 0 else old % 2 := by
  unfold clrBits bitsAt bitAt
  rcases Nat.mod_two_eq_zero_or_one (v / 2 ^ k) with h | h
  · simp [h]
  · simp only [Nat.pow_one, h, Nat.and_one_is_mod, beq_self_eq_true, if_true]; omega

/-! ## The registers named in the statement -/

/-- BE_DISP_FS.FS, an SU field (R99). -/
def beDispFsField : FDef := ⟨0, 12, 1, .su, true, .clamp 1 4095, fun _ _ => 0x800⟩
/-- BE_DISP_FS. -/
def beDispFsReg : RegDef := ⟨0x2014, 4, fun _ => 1, [beDispFsField]⟩

theorem regAt_beDispFs (b : Build) : regAt b 0x2014 = some (beDispFsReg, 0) := rfl
theorem fieldsOf_beDispFs : fieldsOf beDispFsReg 0x2014 0 = [(beDispFsField, Reg.BE_DISP_FS.FS)] := rfl

/-- PB_CFG.LSHIFT, an RW field (R200). -/
def pbLshiftField : FDef := ⟨4, 4, 1, .rw, true, .none, fun _ _ => 3⟩
/-- PB_CFG.BIN_LOG2, an SU field (R200). -/
def pbBinLog2Field : FDef := ⟨20, 4, 1, .su, true, .clamp 8 12, fun _ _ => 0xC⟩
/-- A one-bit RW field of PB_CFG. -/
def pbFlagField (k : Nat) : FDef := ⟨k, 1, 1, .rw, true, .none, fun _ _ => 0⟩
/-- PB_CFG. -/
def pbCfgReg : RegDef := ⟨0x2C00, 4, fun _ => 1, (List.range 4).map pbFlagField ++
  [pbLshiftField, ⟨8, 9, 1, .su, true, .clamp 0 256, fun _ _ => 0xC0⟩, pbBinLog2Field]⟩

theorem regAt_pbCfg (b : Build) : regAt b 0x2C00 = some (pbCfgReg, 0) := rfl
theorem fieldsOf_pbCfg_apart : (fieldsOf pbCfgReg 0x2C00 0).Pairwise (fun a b => a.2.key ≠ b.2.key) := by decide
theorem pbLshift_mem : (pbLshiftField, Reg.PB_CFG.LSHIFT) ∈ fieldsOf pbCfgReg 0x2C00 0 :=
  List.mem_of_getElem? (i := 4) rfl
theorem pbBinLog2_mem : (pbBinLog2Field, Reg.PB_CFG.BIN_LOG2) ∈ fieldsOf pbCfgReg 0x2C00 0 :=
  List.mem_of_getElem? (i := 6) rfl

/-- A bit of HAP_ERR, a W1C field (R54). -/
def hapErrField (k : Nat) : FDef := ⟨k, 1, 1, .w1c, true, .none, fun _ _ => 0⟩
/-- HAP_ERR. -/
def hapErrReg : RegDef := ⟨0x0F04, 4, fun _ => 1, (List.range 7).map hapErrField⟩

theorem regAt_hapErr (b : Build) : regAt b 0x0F04 = some (hapErrReg, 0) := rfl
theorem fieldsOf_hapErr :
    fieldsOf hapErrReg 0x0F04 0 = (List.range 7).map (fun k => (hapErrField k, ⟨0x0F04, k, 1, 0⟩)) := rfl
theorem fieldsOf_hapErr_apart : (fieldsOf hapErrReg 0x0F04 0).Pairwise (fun a b => a.2.key ≠ b.2.key) := by decide
theorem hapErr_mem {k : Nat} (hk : k < 7) : (hapErrField k, ⟨0x0F04, k, 1, 0⟩) ∈ fieldsOf hapErrReg 0x0F04 0 :=
  fieldsOf_hapErr ▸ List.mem_map.mpr ⟨k, List.mem_range.mpr hk, rfl⟩

/-- HAP_ERR_ADDR_LO.ADDR, an RO field (R54). -/
def hapErrAddrField : FDef := ⟨0, 32, 1, .ro, true, .none, fun _ _ => 0⟩
/-- HAP_ERR_ADDR_LO. -/
def hapErrAddrReg : RegDef := ⟨0x0F08, 4, fun _ => 1, [hapErrAddrField]⟩

theorem regAt_hapErrAddr (b : Build) : regAt b 0x0F08 = some (hapErrAddrReg, 0) := rfl
theorem fieldsOf_hapErrAddr : fieldsOf hapErrAddrReg 0x0F08 0 = [(hapErrAddrField, Reg.HAP_ERR_ADDR_LO.ADDR)] := rfl

/-- BE_STOP, whose fields are WO (R115). -/
def beStopReg : RegDef := ⟨0x2004, 4, fun _ => 1,
  [⟨0, 16, 1, .wo, false, .none, fun _ _ => 0⟩, ⟨16, 1, 1, .wo, false, .none, fun _ _ => 0⟩]⟩

theorem regAt_beStop (b : Build) : regAt b 0x2004 = some (beStopReg, 0) := rfl

/-! ## The reserved range -/

/-- In a build that R18 allows every series of registers ends below 0xA000. -/
theorem regTable_below {b : Build} (hb : BuildOk b) : ∀ d ∈ regTable, 0 < d.stride ∧ d.base + d.stride * d.count b ≤ 0xA000 := by
  obtain ⟨-, htiles, -, -, hports, -, hrails⟩ := hb
  simp only [regTable, regTable0, regTable1, regTable2, regTable3, regTable4, regTable5, regTable6, List.forall_mem_append,
    List.forall_mem_cons, List.not_mem_nil, false_implies, implies_true, Nat.mul_one, Nat.zero_add, Nat.reduceLT, Nat.reduceLeDiff,
    Nat.reduceAdd, Nat.reduceMul, true_and, and_true]
  omega

/-- An offset past the end of a series is not on it. -/
theorem inSeries_past {base stride n off : Nat} (hs : 0 < stride) (h : base + stride * n ≤ off) :
    inSeries base stride n off = none := by
  have hn : n ≤ (off - base) / stride := (Nat.le_div_iff_mul_le hs).mpr (by rw [Nat.mul_comm]; omega)
  simp [inSeries, Nat.not_lt.mpr hn]

/-- No register stands at 0xA000 or above (R10). -/
theorem regAt_reserved {b : Build} {off : Nat} (hb : BuildOk b) (hoff : 0xA000 ≤ off) : regAt b off = none := by
  refine List.findSome?_eq_none_iff.mpr fun d hd => ?_
  obtain ⟨hs, hend⟩ := regTable_below hb d hd
  rw [inSeries_past hs (Nat.le_trans hend hoff), Option.map_none]

/-! ## What follows a write of PB_CFG -/

theorem getF_convEvent (old s : State) {g : Fld} (hg : g.key ≠ Reg.HR_EV_DROP.COUNT.key) :
    getF (convEvent old s) g = getF s g := by
  unfold convEvent
  split
  · exact getF_raiseEvent _ _ _ _ _ hg
  · rfl

@[simp] theorem getF_markEnd (s : State) (p : PbActive → Bool) (code : Nat) (g : Fld) :
    getF (markEnd s p code) g = getF s g := rfl

@[simp] theorem getF_armTimers (s : State) (g : Fld) : getF (armTimers s) g = getF s g := by
  unfold armTimers
  split
  · rfl
  · split <;> rfl

/-- What follows a write of PB_CFG changes no register but the count of events lost. -/
theorem getF_pbCfgWritten (old s : State) {g : Fld} (hg : g.key ≠ Reg.HR_EV_DROP.COUNT.key) :
    getF (pbCfgWritten old s) g = getF s g := by
  unfold pbCfgWritten
  extract_lets _ u _ _ _ _ w
  have hu : getF u g = getF s g := by
    unfold u
    split <;> exact getF_convEvent _ _ hg
  have hw : getF w g = getF u g := by
    unfold w
    split
    · rfl
    · split <;> rfl
  rw [getF_armTimers, hw, hu]

/-! ## What a write does, by the type of the field -/

/-- A write of BE_DISP_FS sets the clamped value where every domain is stopped or the value is the present one, and is discarded
with one Register event otherwise. -/
theorem regWrite_beDispFs (s : State) (v : Nat) (sec : Bool) :
    regWrite s 0x2014 v sec =
      if allStopped s = true ∨ clampNat 1 4095 (bitsAt v 0 12) = getF s Reg.BE_DISP_FS.FS then
        setF s Reg.BE_DISP_FS.FS (clampNat 1 4095 (bitsAt v 0 12))
      else regEventRaise s 1 0x2014 v :=
  (regWrite_of_regAt (regAt_beDispFs _) v sec).trans (writeFields_single_su v fieldsOf_beDispFs rfl)

/-- A field of PB_CFG after a write: what follows from the write leaves it. -/
theorem getF_regWrite_pbCfg (s : State) (v : Nat) (sec : Bool) {g : Fld} (hg : g.key ≠ Reg.HR_EV_DROP.COUNT.key) :
    getF (regWrite s 0x2C00 v sec) g = getF (writeFields s pbCfgReg 0x2C00 0 v) g := by
  rw [regWrite_of_regAt (regAt_pbCfg _) v sec]
  exact getF_pbCfgWritten _ _ hg

/-- LSHIFT, an RW field, takes its value whether or not the SU fields beside it are discarded. -/
theorem regWrite_lshift (s : State) (v : Nat) (sec : Bool) :
    getF (regWrite s 0x2C00 v sec) Reg.PB_CFG.LSHIFT = bitsAt v 4 4 :=
  calc getF (regWrite s 0x2C00 v sec) Reg.PB_CFG.LSHIFT
    _ = getF (writeFields s pbCfgReg 0x2C00 0 v) Reg.PB_CFG.LSHIFT := getF_regWrite_pbCfg s v sec (by decide)
    _ = bitsAt v 4 4 % 2 ^ 4 := getF_writeFields v fieldsOf_pbCfg_apart pbLshift_mem (by decide)
    _ = bitsAt v 4 4 := Nat.mod_mod _ _

/-- BIN_LOG2, an SU field, keeps its value where R9 discards the write and takes the clamped value otherwise. -/
theorem regWrite_binLog2 (s : State) (v : Nat) (sec : Bool) :
    getF (regWrite s 0x2C00 v sec) Reg.PB_CFG.BIN_LOG2 =
      if suDiscarded s pbCfgReg 0x2C00 0 v then getF s Reg.PB_CFG.BIN_LOG2 else clampNat 8 12 (bitsAt v 20 4) := by
  have hfit : clampNat 8 12 (bitsAt v 20 4) % 2 ^ 4 = clampNat 8 12 (bitsAt v 20 4) :=
    Nat.mod_eq_of_lt (by simp only [clampNat]; omega)
  rw [← hfit, getF_regWrite_pbCfg s v sec (by decide)]
  exact getF_writeFields v fieldsOf_pbCfg_apart pbBinLog2_mem (by decide)

/-- Each bit of HAP_ERR written as 1 clears, and each written as 0 stays. -/
theorem regWrite_hapErr (s : State) (v : Nat) (sec : Bool) {k : Nat} (hk : k < 7) :
    getF (regWrite s 0x0F04 v sec) ⟨0x0F04, k, 1, 0⟩ = if bitAt v k then 0 else getF s ⟨0x0F04, k, 1, 0⟩ % 2 := by
  have hkey : Fld.key ⟨0x0F04, k, 1, 0⟩ ≠ Reg.HR_EV_DROP.COUNT.key := by
    simp only [Fld.key, Reg.HR_EV_DROP.COUNT]; omega
  rw [regWrite_of_regAt (regAt_hapErr _) v sec]
  calc getF (writeFields s hapErrReg 0x0F04 0 v) ⟨0x0F04, k, 1, 0⟩
    _ = clrBits (getF s ⟨0x0F04, k, 1, 0⟩) (bitsAt v k 1) % 2 ^ 1 :=
        getF_writeFields v fieldsOf_hapErr_apart (hapErr_mem hk) hkey
    _ = if bitAt v k then 0 else getF s ⟨0x0F04, k, 1, 0⟩ % 2 := clrBits_bit _ v k

/-- HAP_ERR_ADDR_LO, an RO field, keeps its value. -/
theorem regWrite_hapErrAddr (s : State) (v : Nat) (sec : Bool) :
    getF (regWrite s 0x0F08 v sec) Reg.HAP_ERR_ADDR_LO.ADDR = getF s Reg.HAP_ERR_ADDR_LO.ADDR % 2 ^ 32 := by
  rw [regWrite_of_regAt (regAt_hapErrAddr _) v sec]
  exact getF_writeFields (p := (hapErrAddrField, Reg.HAP_ERR_ADDR_LO.ADDR)) v
    (by rw [fieldsOf_hapErrAddr]; exact List.pairwise_singleton _ _) (List.mem_of_getElem? (i := 0) rfl) (by decide)

/-- BE_STOP has no stored field and no view: it reads 0. -/
theorem regWord_beStop (s : State) : regWord s 0x2004 = 0 := by
  rw [regWord, regAt_beStop]; rfl

/-- Settles O38: one rule for what a write leaves in a field of each type, read off at the registers named. -/
theorem fieldTypesGovernWrites : Obligations.FieldTypesGovernWrites := by
  unfold Obligations.FieldTypesGovernWrites
  refine ⟨fun s v sec hset => ?_, fun s v sec hrun hne => ?_, fun s v sec => ⟨regWrite_lshift s v sec, fun hstop => ?_,
    fun hrun hne => ?_⟩, fun s v sec k hk => regWrite_hapErr s v sec hk,
    fun s v sec => ⟨regWrite_hapErrAddr s v sec, regWord_beStop s⟩, fun s off v sec hb hoff => ?_⟩
  · rw [regWrite_beDispFs, if_pos hset]
  · rw [regWrite_beDispFs, if_neg (by simp [hrun, hne])]
  · rw [regWrite_binLog2, suDiscarded_of_stopped hstop]; rfl
  · rw [regWrite_binLog2, suDiscarded_of_mem hrun pbBinLog2_mem rfl hne, if_pos rfl]
  · exact ⟨regWrite_reserved (regAt_reserved hb hoff) v sec, regWord_reserved (regAt_reserved hb hoff)⟩

end Sys2Proof.Machine
end

section
/-! PROOFS. The evaluation of loops: the write-back (R92), the evaluation law (R93, R96, R97), and which loops a frame evaluates
(R98). -/

namespace Sys2Proof.Machine

/-! ## The write-back (R92) -/

/-- The rounding to nearest even at bit 15, by quotient and remainder. -/
theorem roundEven_lane (acc : Int) :
    roundEven acc 32768 =
      if 0x4000 < acc.fmod 32768 ∨ (acc.fmod 32768 = 0x4000 ∧ acc.fdiv 32768 % 2 = 1) then acc.fdiv 32768 + 1 else acc.fdiv 32768 := by
  have hdiv : 32768 * acc.fdiv 32768 + acc.fmod 32768 = acc := Int.mul_fdiv_add_fmod acc 32768
  have hrem : 0 ≤ acc.fmod 32768 := Int.fmod_nonneg_of_pos acc (by decide)
  have hcond : (32768 < 2 * (acc - acc.fdiv 32768 * 32768).toNat ∨
      2 * (acc - acc.fdiv 32768 * 32768).toNat = 32768 ∧ acc.fdiv 32768 % 2 = 1) ↔
      (0x4000 < acc.fmod 32768 ∨ (acc.fmod 32768 = 0x4000 ∧ acc.fdiv 32768 % 2 = 1)) := by omega
  by_cases h : 0x4000 < acc.fmod 32768 ∨ (acc.fmod 32768 = 0x4000 ∧ acc.fdiv 32768 % 2 = 1)
  · rw [if_pos h]
    exact if_pos (hcond.mpr h)
  · rw [if_neg h]
    exact if_neg (mt hcond.mp h)

/-! ## Words and loops -/

/-- A descriptor with a pending word written into it. -/
def wordApplied (stopped : Bool) (w : LiveWord) (x : Loop) : Loop :=
  { putWord x w.idx w.val with ue := x.ue.filter (· != w.idx), dirty := x.dirty || (stopped && decide (2 ≤ w.idx)) }

theorem loop_congr {s t : State} (h : t.be = s.be) (l : Nat) : loop t l = loop s l := by rw [loop, loop, h]

@[simp] theorem loop_ite_setF (c : Prop) [Decidable c] (s : State) (f : Fld) (v l : Nat) :
    loop (if c then setF s f v else s) l = loop s l := by
  split <;> rfl

@[simp] theorem loop_beEvent (s : State) (c u r d l : Nat) : loop (beEvent s c u r d) l = loop s l :=
  loop_congr (raiseEvent_be _ _ _ _ _) l

theorem loop_applyWord (s : State) (w : LiveWord) (b : Bool) (l : Nat) :
    loop (applyWord s w.loop w.idx w.val b) l = if l = w.loop then wordApplied b w (loop s l) else loop s l := by
  unfold applyWord modLoop
  split
  · next h => rw [h, loop_setLoop_same]; rfl
  · next h => exact loop_setLoop_ne _ h _

/-- An applied word reaches its own loop and no other. -/
theorem loop_applyLive (s : State) (w : LiveWord) (b : Bool) (l : Nat) :
    loop (applyLive s w b) l = if l = w.loop then wordApplied b w (loop s l) else loop s l := by
  rw [applyLive, loop_congr (completeOpt_be _ _ _ _), loop_applyWord]
  rfl

/-- The word applied before an evaluation is one of the loop's own. -/
theorem loop_applyOldest_ne {s : State} {k l : Nat} (h : l ≠ k) : loop (applyOldest s k) l = loop s l := by
  unfold applyOldest
  split
  · next w hw =>
    have hk : w.loop = k := by simpa using List.find?_some hw
    rw [loop_applyLive, hk, if_neg h]
  · rfl

/-! ## What one evaluation leaves -/

/-- With a word in error the loop keeps its state and its domain waits to stop (R124). -/
theorem evalLoop_bad {bad : List Nat} (hbad : bad.isEmpty = false) (s : State) (l : Nat) :
    evalLoop bad s l =
      let t := applyOldest s l
      let x := loop t l
      let u := setF t Reg.BE_FAULT.DOM (orBit (getF t Reg.BE_FAULT.DOM) (lpDom x))
      beEvent (setLoop { u with be.errStop := orBit u.be.errStop (lpDom x) } l { x with ue := x.ue ++ bad }) 3 (loopUnit l) 0
        (lpDom x) := by
  simp [evalLoop, hbad]

/-- While its source is absent the loop holds (R95). -/
theorem evalLoop_absent {s : State} {l : Nat} (h : (loop (applyOldest s l) l).srcAbs = true) :
    evalLoop [] s l = setLoop (applyOldest s l) l { loop (applyOldest s l) l with above := false, below := false, ifrz := true } := by
  simp [evalLoop, h]

/-- A loop with its source present takes its evaluation, and what saturated is marked. -/
theorem evalLoop_present {s : State} {l : Nat} (h : (loop (applyOldest s l) l).srcAbs = false) :
    evalLoop [] s l =
      let x := loop (applyOldest s l) l
      let r := lpEval x x.y x.s
      let t := setLoop (applyOldest s l) l r.1
      let u := if r.2.1 then setF t Reg.BE_ARITH.ACC_SAT 1 else t
      if r.2.2 then setF u Reg.BE_ARITH.WB_SAT 1 else u := by
  simp [evalLoop, h]

/-- An evaluation leaves every other loop. -/
theorem loop_evalLoop_ne (bad : List Nat) {s : State} {k l : Nat} (h : l ≠ k) : loop (evalLoop bad s k) l = loop s l := by
  refine Eq.trans ?_ (loop_applyOldest_ne h)
  cases bad with
  | cons b bs => rw [evalLoop_bad rfl, loop_beEvent, loop_setLoop_ne _ h]; rfl
  | nil =>
    cases habs : (loop (applyOldest s k) k).srcAbs with
    | true => rw [evalLoop_absent habs, loop_setLoop_ne _ h]
    | false =>
      rw [evalLoop_present habs]
      simp only [loop_ite_setF]
      exact loop_setLoop_ne _ h _

/-- The evaluations of a frame leave a loop that is not among them. -/
theorem loop_foldl_evalLoop (bad : Nat → List Nat) {l : Nat} :
    ∀ (ks : List Nat) (s : State), l ∉ ks → loop (ks.foldl (fun s k => evalLoop (bad k) s k) s) l = loop s l
  | [], _, _ => rfl
  | k :: ks, s, h => by
    obtain ⟨hk, hks⟩ := List.ne_and_not_mem_of_not_mem_cons h
    rw [List.foldl_cons, loop_foldl_evalLoop bad ks _ hks, loop_evalLoop_ne _ hk]

theorem lpDue_iff (f l : Nat) (x : Loop) : lpDue f l x = true ↔ f % (lpDiv x + 1) = l % (lpDiv x + 1) := by
  simp [lpDue]

/-! ## The evaluation law (R96, R97) -/

/-- The filter follows the measurement without ALPHA, and saturates nothing. -/
theorem lpFilter_of_zero {x : Loop} (y : Int) (h : lpAlpha x = 0) : lpFilter x y = (y, false, false) := if_pos h

/-- With ALPHA the filter is the write-back of the accumulator. -/
theorem lpFilter_of_ne {x : Loop} (y : Int) (h : lpAlpha x ≠ 0) :
    lpFilter x y =
      let acc := accAdd (x.yf * 32768) (lpAlpha x * sat16 (y - x.yf))
      ((wbVal acc.1).1, acc.2, (wbVal acc.1).2) := if_neg h

theorem lpH_nonneg (x : Loop) : 0 ≤ lpH x := Int.natCast_nonneg _

/-- The three outcomes of the hysteretic step: E above the band, below it, or within it. -/
theorem lpStep_cases (x : Loop) (yf sp : Int) :
    (lpH x < (lpStep x yf sp).e → (lpStep x yf sp).u = max (x.u - lpDn x) (lpMin x) ∧ (lpStep x yf sp).above = true ∧
      (lpStep x yf sp).below = false) ∧
    ((lpStep x yf sp).e < -lpH x → (lpStep x yf sp).u = min (x.u + lpUp x) (lpMax x) ∧ (lpStep x yf sp).above = false ∧
      (lpStep x yf sp).below = true) ∧
    ((lpStep x yf sp).e ≤ lpH x → -lpH x ≤ (lpStep x yf sp).e → (lpStep x yf sp).u = x.u ∧ (lpStep x yf sp).above = false ∧
      (lpStep x yf sp).below = false) := by
  have hH := lpH_nonneg x
  unfold lpStep
  dsimp only
  generalize sat16 (yf - sat16 (sp + x.c)) = e
  refine ⟨fun ha => ?_, fun hb => ?_, fun ha hb => ?_⟩
  · have hb : ¬ e < -lpH x := by omega
    simp [ha, hb]
  · have ha : ¬ lpH x < e := by omega
    simp [ha, hb]
  · simp [Int.not_lt.mpr ha, Int.not_lt.mpr hb]

/-- CI after a frame: held while the integrator is frozen, and moved within C_MAX otherwise. -/
def lpNextCi (x : Loop) : Int :=
  if x.sat || x.tracked then x.ci else clampInt (-(lpCMax x * 32768)) (lpCMax x * 32768)
    (accAdd x.ci (-(asr (lpKi x * sat16 (x.yf - x.s)) (lpShift x)))).1

/-- The integrator is frozen exactly while the output is saturated or tracking reduced it, and C is the write-back of CI. -/
theorem lpIntegrate_eq (x : Loop) :
    lpIntegrate x = ({ x with ifrz := x.sat || x.tracked, ci := lpNextCi x, c := (wbVal (lpNextCi x)).1 },
      !(x.sat || x.tracked) && (accAdd x.ci (-(asr (lpKi x * sat16 (x.yf - x.s)) (lpShift x)))).2, (wbVal (lpNextCi x)).2) := by
  unfold lpIntegrate lpNextCi
  generalize accAdd x.ci (-(asr (lpKi x * sat16 (x.yf - x.s)) (lpShift x))) = acc
  rfl

/-- An evaluation is the filter, the step and the integrator in turn, and marks the write-backs that saturate. -/
theorem lpEval_eq (x : Loop) (y sp : Int) :
    lpEval x y sp =
      let f := lpFilter x y
      let r := lpIntegrate (lpStep x f.1 sp)
      (r.1, f.2.1 || r.2.1, f.2.2 || r.2.2) := by
  unfold lpEval
  generalize lpFilter x y = f
  obtain ⟨yf, a, w⟩ := f
  rfl

/-- Settles O14: the function of R92 by cases of its quotient, and the mark that an evaluation leaves. -/
theorem writeBackRoundsToEven : Obligations.WriteBackRoundsToEven := by
  unfold Obligations.WriteBackRoundsToEven
  refine ⟨fun acc => ?_, by decide, fun s l habs hsat => ?_⟩
  · rw [wbVal, roundEven_lane]
  · rw [evalLoop_present habs]
    dsimp only
    rw [if_pos hsat]
    exact getF_setF_same _ _ _

/-- Settles O15: a loop that is not due is not among those a frame evaluates, and each evaluation reaches its own loop only. -/
theorem loopsAreDueByRate : Obligations.LoopsAreDueByRate := by
  unfold Obligations.LoopsAreDueByRate
  refine ⟨lpDue_iff, fun f l x hdiv => (lpDue_iff f l x).mpr (by rw [hdiv]; omega), fun bad s l hidle => ?_⟩
  refine loop_foldl_evalLoop _ _ _ fun hmem => ?_
  obtain ⟨p, hp, hl⟩ := List.mem_map.mp hmem
  obtain ⟨hp, hdue⟩ := List.mem_filter.mp hp
  simp [hidle p hp hl] at hdue

/-- Settles O16: the filter by ALPHA, the three outcomes of the step, and the integrator by whether it is frozen. -/
theorem evaluationFollowsTheLoopLaw : Obligations.EvaluationFollowsTheLoopLaw := by
  unfold Obligations.EvaluationFollowsTheLoopLaw
  rintro x y sp z rfl
  rw [lpEval_eq]
  dsimp only
  rw [lpIntegrate_eq]
  obtain ⟨habove, hbelow, hwithin⟩ := lpStep_cases x (lpFilter x y).1 sp
  have hsat : (lpStep x (lpFilter x y).1 sp).sat = true ↔
      (lpStep x (lpFilter x y).1 sp).u = lpMin x ∨ (lpStep x (lpFilter x y).1 sp).u = lpMax x := by simp [lpStep]
  have hfrozen : ((lpStep x (lpFilter x y).1 sp).sat || (lpStep x (lpFilter x y).1 sp).tracked) = true ↔
      (lpStep x (lpFilter x y).1 sp).u = lpMin x ∨ (lpStep x (lpFilter x y).1 sp).u = lpMax x ∨ x.tracked = true := by
    rw [Bool.or_eq_true, hsat, or_assoc]; rfl
  refine ⟨rfl, fun h => ?_, fun h => ?_, ?_, rfl, habove, hbelow, hwithin, hfrozen, hsat, fun h => if_pos h, fun h => ?_, rfl, rfl,
    rfl, rfl⟩
  · exact congrArg Prod.fst (lpFilter_of_zero y h)
  · exact congrArg Prod.fst (lpFilter_of_ne y h)
  · by_cases h : lpAlpha x = 0
    · simp [lpFilter_of_zero y h, h]
    · simp [lpFilter_of_ne y h, h]
  · exact if_neg (by simpa using h)

end Sys2Proof.Machine
end

section
/-! PROOFS. Arbitration and tracking (R100, R101). -/

namespace Sys2Proof.Machine

/-! ## Tables written for a list of numbers -/

/-- Reads a table after a write of f at each number of a list, with any way of writing that reads back. -/
theorem tget_foldl_put {α : Type} {d : α} {put : List (Nat × α) → Nat → α → List (Nat × α)}
    (hsame : ∀ t n x, tget d (put t n x) n = x) (hne : ∀ t m n x, m ≠ n → tget d (put t n x) m = tget d t m)
    (f : Nat → α) (a : Nat) : ∀ (l : List Nat) (t : List (Nat × α)),
    tget d (l.foldl (fun t n => put t n (f n)) t) a = if a ∈ l then f a else tget d t a
  | [], _ => rfl
  | n :: l, t => by
    rw [List.foldl_cons, tget_foldl_put hsame hne f a l]
    by_cases hl : a ∈ l
    · rw [if_pos hl, if_pos (List.mem_cons_of_mem n hl)]
    · rw [if_neg hl]
      by_cases hn : a = n
      · rw [hn, hsame, if_pos List.mem_cons_self]
      · rw [hne _ _ _ _ hn, if_neg (by simp only [List.mem_cons, hn, hl, or_self, not_false_eq_true])]

/-! ## The lowest U (R100) -/

/-- A running loop that drives an actuator. -/
def drives (s : State) (a : Nat) (p : Nat × Loop) : Bool := lpRuns s p.2 && (actsOf s (lpAct p.2)).contains a

theorem drives_iff {s : State} {a : Nat} {p : Nat × Loop} :
    drives s a p = true ↔ lpRuns s p.2 = true ∧ a ∈ actsOf s (lpAct p.2) := by
  simp [drives]

/-- An outcome of the scan of some loops: no driver among them, or the U of one of them that none undercuts. -/
def LowestOf (s : State) (a : Nat) (ps : List (Nat × Loop)) : Option (Nat × Nat) → Prop
  | none => ∀ p ∈ ps, drives s a p = false
  | some (_, u) => (∀ p ∈ ps, drives s a p = true → u ≤ p.2.u.toNat) ∧ ∃ p ∈ ps, drives s a p = true ∧ u = p.2.u.toNat

/-- One loop more in the scan of an actuator. -/
def arbStep (s : State) (a : Nat) (m : Option (Nat × Nat)) (p : Nat × Loop) : Option (Nat × Nat) :=
  if drives s a p then match m with
    | some (l, u) => if p.2.u.toNat < u then some (p.1, p.2.u.toNat) else some (l, u)
    | none => some (p.1, p.2.u.toNat)
  else m

/-- What holds of the scanned loops and of one more holds of all of them. -/
theorem forall_mem_concat {α : Type} {P : α → Prop} {l : List α} {x : α} (hl : ∀ y ∈ l, P y) (hx : P x) : ∀ y ∈ l ++ [x], P y :=
  List.forall_mem_append.mpr ⟨hl, fun _ hy => List.mem_singleton.mp hy ▸ hx⟩

/-- A driver that none of the scanned loops undercuts is the lowest with them. -/
theorem lowestOf_concat_new {s : State} {a : Nat} {ps : List (Nat × Loop)} {p : Nat × Loop} (hd : drives s a p = true)
    (hle : ∀ q ∈ ps, drives s a q = true → p.2.u.toNat ≤ q.2.u.toNat) :
    LowestOf s a (ps ++ [p]) (some (p.1, p.2.u.toNat)) :=
  ⟨forall_mem_concat hle fun _ => Nat.le_refl _, p, List.mem_append_right _ (List.mem_singleton_self p), hd, rfl⟩

theorem lowestOf_arbStep {s : State} {a : Nat} {ps : List (Nat × Loop)} {m : Option (Nat × Nat)} (h : LowestOf s a ps m)
    (p : Nat × Loop) : LowestOf s a (ps ++ [p]) (arbStep s a m p) := by
  unfold arbStep
  cases hd : drives s a p with
  | false =>
    match m, h with
    | none, hnone => exact forall_mem_concat hnone hd
    | some (l, u), ⟨hle, q, hq, hu⟩ =>
      exact ⟨forall_mem_concat hle fun hp => absurd (hp.symm.trans hd) (by decide), q, List.mem_append_left _ hq, hu⟩
  | true =>
    match m, h with
    | none, hnone => exact lowestOf_concat_new hd fun q hq hqd => absurd (hqd.symm.trans (hnone q hq)) (by decide)
    | some (l, u), ⟨hle, q, hq, hu⟩ =>
      dsimp only
      rw [if_pos rfl]
      by_cases hlt : p.2.u.toNat < u
      · rw [if_pos hlt]
        exact lowestOf_concat_new hd fun q hq hqd => Nat.le_trans (Nat.le_of_lt hlt) (hle q hq hqd)
      · rw [if_neg hlt]
        exact ⟨forall_mem_concat hle fun _ => Nat.le_of_not_lt hlt, q, List.mem_append_left _ hq, hu⟩

/-- A scan that goes on keeps what it has found. -/
theorem lowestOf_foldl (s : State) (a : Nat) : ∀ (qs ps : List (Nat × Loop)) (m : Option (Nat × Nat)), LowestOf s a ps m →
    LowestOf s a (ps ++ qs) (qs.foldl (arbStep s a) m)
  | [], ps, _, h => by rwa [List.append_nil]
  | q :: qs, ps, m, h => by
    have hscan := lowestOf_foldl s a qs (ps ++ [q]) _ (lowestOf_arbStep h q)
    rwa [List.append_assoc] at hscan

theorem lowestOf_arbOne (s : State) (a : Nat) : LowestOf s a s.be.loops (arbOne s a) :=
  lowestOf_foldl s a s.be.loops [] none (fun _ hp => absurd hp List.not_mem_nil)

/-- The value that an arbitration gives an actuator: the lowest U, or 0x7FFF where none drives it. -/
def arbValue (s : State) (a : Nat) : Nat := match arbOne s a with
  | some (_, u) => u
  | none => 0x7FFF

/-- An arbitration writes the actuators of running domains and leaves the others. -/
theorem tget_arbitrate (s : State) (a : Nat) :
    tget 0x7FFF (arbitrate s).be.arb a =
      if a ∈ (allActs s).filter (fun a => !bitAt s.be.stopped (actDom s a)) then arbValue s a else tget 0x7FFF s.be.arb a := by
  rw [← tget_foldl_put (tget_tset_same 0x7FFF) (fun t m n x h => tget_tset_ne 0x7FFF 0x7FFF t h x) (arbValue s)]
  unfold arbitrate
  dsimp only
  rw [List.foldl_map]
  rfl

/-! ## Tracking (R101) -/

/-- The lowest arbitrated value of a loop's actuators. -/
def lowestArb (s : State) (x : Loop) : Nat :=
  (actsOf s (lpAct x)).foldl (fun m a => min m (tget 0x7FFF s.be.arb a)) 0x7FFF

theorem le_foldl_min_iff {f : Nat → Nat} {n : Nat} : ∀ {l : List Nat} {i : Nat},
    n ≤ l.foldl (fun m a => min m (f a)) i ↔ n ≤ i ∧ ∀ a ∈ l, n ≤ f a
  | [], _ => ⟨fun h => ⟨h, fun _ ha => absurd ha List.not_mem_nil⟩, fun h => h.1⟩
  | a :: l, i => by
    rw [List.foldl_cons, le_foldl_min_iff, List.forall_mem_cons, Nat.le_min, and_assoc]

/-- A bound below every arbitrated value that one of them, or 0x7FFF, attains is the lowest. -/
theorem lowestArb_eq {s : State} {x : Loop} {m : Int} (hle : ∀ a ∈ actsOf s (lpAct x), m ≤ (tget 0x7FFF s.be.arb a : Nat))
    (htop : m ≤ 0x7FFF) (hat : (∃ a ∈ actsOf s (lpAct x), m = (tget 0x7FFF s.be.arb a : Nat)) ∨ m = 0x7FFF) :
    (lowestArb s x : Int) = m := by
  obtain ⟨hlow, hall⟩ := le_foldl_min_iff.mp (Nat.le_refl (lowestArb s x))
  have hnat : ∃ n : Nat, m = n := hat.elim (fun ⟨a, _, h⟩ => ⟨_, h⟩) (fun h => ⟨_, h⟩)
  obtain ⟨n, rfl⟩ := hnat
  have hge : n ≤ lowestArb s x := le_foldl_min_iff.mpr ⟨by omega, fun a ha => Int.ofNat_le.mp (hle a ha)⟩
  have hup : lowestArb s x ≤ n := by
    rcases hat with ⟨a, ha, h⟩ | h
    · have := hall a ha; omega
    · omega
  omega

/-- A loop that may track takes the lower of its U and the limit, and TRACKED says whether that reduced it. -/
theorem lpTrack_eq {s : State} {x : Loop} (htrk : lpTrk x = true) (hwin : x.win = false) (hsrc : x.srcAbs = false) :
    lpTrack s x =
      if (lowestArb s x : Int) + lpMargin x * 32 < x.u then { x with u := lowestArb s x + lpMargin x * 32, tracked := true }
      else { x with tracked := false } := by
  simp [lpTrack, lowestArb, htrk, hwin, hsrc]

/-- Settles O17: the scan of the loops finds the lowest U of those that drive an actuator, the table of values is written for the
actuators of running domains only, and a loser is limited by the lowest of them. -/
theorem arbitrationTakesTheLowest : Obligations.ArbitrationTakesTheLowest := by
  unfold Obligations.ArbitrationTakesTheLowest
  refine ⟨fun s a ha hrun => ?_, fun s a hstop => ?_, fun s x m hle htop hat htrk hwin hsrc => ?_⟩
  · rw [tget_arbitrate, if_pos (by simp [ha, hrun]), arbValue]
    have hlow := lowestOf_arbOne s a
    match arbOne s a, hlow with
    | none, hnone =>
      have hno : ∀ p ∈ s.be.loops, lpRuns s p.2 = true → a ∉ actsOf s (lpAct p.2) := fun p hp hr ha => by
        exact absurd ((drives_iff.mpr ⟨hr, ha⟩).symm.trans (hnone p hp)) (by decide)
      exact ⟨fun p hp hr ha => absurd ha (hno p hp hr), .inr ⟨hno, rfl⟩⟩
    | some (_, u), ⟨hle, p, hp, hd, hu⟩ =>
      obtain ⟨hr, ha⟩ := drives_iff.mp hd
      exact ⟨fun p hp hr ha => hle p hp (drives_iff.mpr ⟨hr, ha⟩), .inl ⟨p, hp, hr, ha, hu⟩⟩
  · rw [tget_arbitrate, if_neg (by simp [hstop])]
  · rw [lpTrack_eq htrk hwin hsrc, lowestArb_eq hle htop hat]
    by_cases h : m + lpMargin x * 32 < x.u
    · rw [if_pos h]
      exact ⟨(Int.min_eq_right (Int.le_of_lt h)).symm, ⟨fun _ => h, fun _ => rfl⟩⟩
    · rw [if_neg h]
      exact ⟨(Int.min_eq_left (Int.not_lt.mp h)).symm, ⟨fun hc => absurd hc Bool.false_ne_true, fun hlt => absurd hlt (Int.lt_irrefl _)⟩⟩

end Sys2Proof.Machine
end

section
/-! PROOFS. What the stop of a domain does (R115, R117): its bit, its pending words, and the values that its actuators are held at. -/

namespace Sys2Proof.Machine

/-! ## The bits of a number -/

theorem bitAt_eq_testBit (v k : Nat) : bitAt v k = v.testBit k := by
  rw [Nat.testBit_eq_decide_div_mod_eq]; rfl

/-- Setting a bit sets it and leaves the others: what stands above bit d is even before and one more after. -/
theorem bitAt_orBit (v d k : Nat) : bitAt (orBit v d) k = (decide (k = d) || bitAt v k) := by
  unfold orBit
  by_cases hd : bitAt v d = true
  · rw [if_pos hd]
    by_cases hk : k = d
    · rw [hk, hd, Bool.or_true]
    · rw [decide_eq_false hk, Bool.false_or]
  · rw [if_neg hd]
    have heven : v / 2 ^ d % 2 = 0 := by simpa [bitAt] using hd
    have hlow : v % 2 ^ d < 2 ^ d := Nat.mod_lt _ (Nat.two_pow_pos d)
    have hv : v = 2 ^ d * (v / 2 ^ d) + v % 2 ^ d := (Nat.div_add_mod v (2 ^ d)).symm
    generalize v / 2 ^ d = a at heven hv
    generalize v % 2 ^ d = r at hlow hv
    subst hv
    have hsum : 2 ^ d * a + r + 2 ^ d = 2 ^ d * (a + 1) + r := by rw [Nat.mul_succ, Nat.add_right_comm]
    rw [hsum, bitAt_eq_testBit, bitAt_eq_testBit, Nat.testBit_two_pow_mul_add _ hlow, Nat.testBit_two_pow_mul_add _ hlow]
    rcases Nat.lt_trichotomy k d with h | h | h
    · rw [if_pos h, if_pos h, decide_eq_false (Nat.ne_of_lt h), Bool.false_or]
    · have hodd : (a + 1) % 2 = 1 := by omega
      rw [h, if_neg (Nat.lt_irrefl d), if_neg (Nat.lt_irrefl d), Nat.sub_self, Nat.testBit_zero]
      simp only [hodd, decide_true, Bool.true_or]
    · obtain ⟨j, hj⟩ := Nat.exists_eq_add_of_lt h
      have hsub : k - d = j + 1 := by omega
      have hhalf : (a + 1) / 2 = a / 2 := by omega
      rw [if_neg (Nat.lt_asymm h), if_neg (Nat.lt_asymm h), hsub, Nat.testBit_succ, Nat.testBit_succ, hhalf,
        decide_eq_false (Nat.ne_of_gt h), Bool.false_or]

/-- A cleared bit is 0. -/
theorem bitAt_clrBit_same (v d : Nat) : bitAt (clrBit v d) d = false := by
  unfold clrBit
  split
  · next h =>
    have hodd : v / 2 ^ d % 2 = 1 := by simpa [bitAt] using h
    have hdiv : (v - 2 ^ d) / 2 ^ d = v / 2 ^ d - 1 := by rw [← Nat.sub_mul_div v (2 ^ d) 1, Nat.mul_one]
    simp only [bitAt, hdiv, beq_eq_false_iff_ne]
    omega
  · next h => exact Bool.eq_false_iff.mpr h

/-! ## Pending words (R117) -/

/-- Words of a stopped domain are applied in their order. -/
def applyWords (s : State) (ws : List LiveWord) : State := ws.foldl (fun s w => applyLive s w true) s

/-- An applied word changes of the Band Engine the words that wait and the loops. -/
theorem applyLive_be (s : State) (w : LiveWord) (b : Bool) :
    (applyLive s w b).be = { s.be with words := s.be.words.erase w, loops := (applyLive s w b).be.loops } := by
  simp only [applyLive, completeOpt_be]
  rfl

@[simp] theorem completeOpt_regs (s : State) (k : Option Nat) (st d : Nat) : (completeOpt s k st d).regs = s.regs := by
  unfold completeOpt completeKey
  split
  · split
    · exact complete_regs _ _ _ _
    · rfl
  · rfl

/-- An applied word changes no register and nothing of the credits or the phase controllers. -/
theorem applyLive_frame (s : State) (w : LiveWord) (b : Bool) : (applyLive s w b).regs = s.regs ∧ (applyLive s w b).cc = s.cc ∧
    (applyLive s w b).pc = s.pc := by
  unfold applyLive applyWord modLoop
  simp

theorem applyWords_frame : ∀ (ws : List LiveWord) (s : State), (applyWords s ws).regs = s.regs ∧ (applyWords s ws).cc = s.cc ∧
    (applyWords s ws).pc = s.pc
  | [], _ => ⟨rfl, rfl, rfl⟩
  | w :: ws, s => by
    obtain ⟨hregs, hcc, hpc⟩ := applyLive_frame s w true
    obtain ⟨iregs, icc, ipc⟩ := applyWords_frame ws (applyLive s w true)
    exact ⟨iregs.trans hregs, icc.trans hcc, ipc.trans hpc⟩

/-- Applied words no longer wait, and of the rest of the Band Engine they reach the loops only. -/
theorem applyWords_be : ∀ (ws : List LiveWord) (s : State),
    (applyWords s ws).be = { s.be with words := ws.foldl List.erase s.be.words, loops := (applyWords s ws).be.loops }
  | [], _ => rfl
  | w :: ws, s => by
    refine (applyWords_be ws (applyLive s w true)).trans ?_
    rw [applyLive_be, List.foldl_cons]
    rfl

/-- Each loop takes its own words, in their order. -/
theorem loop_applyWords (l : Nat) : ∀ (ws : List LiveWord) (s : State),
    loop (applyWords s ws) l = (ws.filter (·.loop == l)).foldl (fun x w => wordApplied true w x) (loop s l)
  | [], _ => rfl
  | w :: ws, s => by
    refine (loop_applyWords l ws (applyLive s w true)).trans ?_
    rw [loop_applyLive, List.filter_cons]
    by_cases h : l = w.loop
    · simp [h]
    · simp [h, Ne.symm h]

/-- Taking other members out leaves the first. -/
theorem foldl_erase_cons {α : Type} [DecidableEq α] {x : α} : ∀ (ys l : List α), x ∉ ys →
    ys.foldl List.erase (x :: l) = x :: ys.foldl List.erase l
  | [], _, _ => rfl
  | y :: ys, l, h => by
    have hxy : x ≠ y := fun hxy => h (hxy ▸ List.mem_cons_self)
    rw [List.foldl_cons, List.foldl_cons, List.erase_cons_tail (by simpa only [beq_iff_eq] using hxy)]
    exact foldl_erase_cons ys (l.erase y) fun hmem => h (List.mem_cons_of_mem y hmem)

/-- Taking the members that satisfy p out of a list leaves the others. -/
theorem foldl_erase_filter {α : Type} [DecidableEq α] (p : α → Bool) : ∀ l : List α,
    (l.filter p).foldl List.erase l = l.filter (fun x => !p x)
  | [] => rfl
  | x :: l => by
    cases hx : p x with
    | true =>
      rw [List.filter_cons_of_pos hx, List.foldl_cons, List.erase_cons_head, foldl_erase_filter p l,
        List.filter_cons_of_neg (by simp only [hx, Bool.not_true, Bool.false_eq_true, not_false_eq_true])]
    | false =>
      have hout : x ∉ l.filter p := fun hmem => Bool.false_ne_true (hx.symm.trans (List.mem_filter.mp hmem).2)
      rw [List.filter_cons_of_neg (by simp only [hx, Bool.false_eq_true, not_false_eq_true]), foldl_erase_cons _ _ hout,
        foldl_erase_filter p l, List.filter_cons_of_pos (by simp only [hx, Bool.not_false])]

/-! ## The stop (R115) -/

/-- The stop of a running domain before its pending words are applied: its bit, and the values that its actuators had. -/
def markStopped (s : State) (d : Nat) : State :=
  { s with
    be.stopped := orBit s.be.stopped d, be.firstFrame := clrBit s.be.firstFrame d, be.carried := clrBit s.be.carried d
    be.atStop := ((allActs s).filter (fun a => actDom s a == d)).foldl (fun t a => tput t a (actVal s a)) s.be.atStop }

/-- The pending words of a domain's loops. -/
def domWords (s : State) (d : Nat) : List LiveWord := s.be.words.filter (fun w => lpDom (loop s w.loop) == d)

theorem stopDom_of_running {s : State} {d : Nat} (h : bitAt s.be.stopped d = false) :
    stopDom s d = applyWords (markStopped s d) (domWords s d) := if_neg (by simp [h])

/-- What stands in the Band Engine after the stop of a running domain, but for its loops. -/
theorem stopDom_be {s : State} {d : Nat} (h : bitAt s.be.stopped d = false) :
    (stopDom s d).be = { (markStopped s d).be with
      words := s.be.words.filter (fun w => !(lpDom (loop s w.loop) == d)), loops := (stopDom s d).be.loops } := by
  rw [stopDom_of_running h, applyWords_be, ← foldl_erase_filter]
  rfl

theorem stopDom_frame {s : State} {d : Nat} (h : bitAt s.be.stopped d = false) : (stopDom s d).regs = s.regs ∧
    (stopDom s d).cc = s.cc ∧ (stopDom s d).pc = s.pc := by
  rw [stopDom_of_running h]
  exact applyWords_frame _ _

theorem actDom_congr {s t : State} (h : t.regs = s.regs) (a : Nat) : actDom t a = actDom s a := by
  simp only [actDom, getF, h]

theorem brimVal_congr {s t : State} (h : t.regs = s.regs) (a : Nat) : brimVal t a = brimVal s a := by
  simp only [brimVal, getF, h]

/-- An actuator of a stopped domain that is not carried presents the lower of its Brim value and its value at the stop. -/
theorem actVal_of_stopped {s : State} {a : Nat} (hstop : bitAt s.be.stopped (actDom s a) = true)
    (hcar : bitAt s.be.carried (actDom s a) = false) : actVal s a = min (brimVal s a) (tget 0xFFFF s.be.atStop a) := by
  simp [actVal, actHeld, holdVal, hstop, hcar]

/-- The stop records the value of each actuator of the domain. -/
theorem tget_atStop_markStopped {s : State} {a : Nat} (ha : a ∈ allActs s) :
    tget 0xFFFF (markStopped s (actDom s a)).be.atStop a = actVal s a := by
  refine (tget_foldl_put (tget_tput_same 0xFFFF) (fun t m n x h => tget_tput_ne 0xFFFF t h x) (actVal s) a _ s.be.atStop).trans ?_
  exact if_pos (by simp [ha])

/-- Settles O18: the stop marks the domain and its values, and then applies its words, which reach the loops only. -/
theorem stoppedDomainIsHeldUnderTheBrim : Obligations.StoppedDomainIsHeldUnderTheBrim := by
  unfold Obligations.StoppedDomainIsHeldUnderTheBrim
  intro s d _ hrun
  obtain ⟨hregs, hcc, hpc⟩ := stopDom_frame hrun
  have hbe := stopDom_be hrun
  have hbit : ∀ k, bitAt (stopDom s d).be.stopped k = (decide (k = d) || bitAt s.be.stopped k) := fun k => by
    rw [hbe]; exact bitAt_orBit _ _ _
  have hstop : bitAt (stopDom s d).be.stopped d = true := by simp [hbit]
  refine ⟨hstop, fun a ha hdom => ?_, fun x hx => ?_, ?_, fun l => ?_, fun k hk _ => by simp [hbit, hk], hregs, hcc, hpc⟩
  · subst hdom
    have hcar : bitAt (stopDom s (actDom s a)).be.carried (actDom s a) = false := by rw [hbe]; exact bitAt_clrBit_same _ _
    rw [actVal_of_stopped (by rwa [actDom_congr hregs]) (by rwa [actDom_congr hregs]), brimVal_congr hregs, hbe]
    exact congrArg _ (tget_atStop_markStopped ha)
  · simp [lpRuns, hx, hstop]
  · rw [hbe]
  · rw [stopDom_of_running hrun, loop_applyWords, domWords, List.filter_filter]
    simp only [Bool.and_comm (_ == l)]
    rfl

end Sys2Proof.Machine
end

section
/-! PROOFS. The profile generator (R103). -/

namespace Sys2Proof.Machine

/-- The square root takes every number whose square fits: the search from bit k down finds the largest below acc + 2^k. -/
theorem le_isqrtGo {n r : Nat} (hr : r * r ≤ n) : ∀ {k acc : Nat}, r < acc + 2 ^ k → r ≤ isqrtGo n k acc
  | 0, _, h => Nat.le_of_lt_succ h
  | k + 1, acc, h => by
    rw [isqrtGo]
    split
    · exact le_isqrtGo hr (by omega)
    · next hover => exact le_isqrtGo hr (Nat.lt_of_not_le fun hle => hover (Nat.le_trans (Nat.mul_le_mul hle hle) hr))

theorem le_isqrt {n r : Nat} (hr : r * r ≤ n) (hlt : r < 2 ^ 33) : r ≤ isqrt n :=
  le_isqrtGo hr (by omega)

/-- A clamped value lies within its limits. -/
theorem clampInt_mem {m v : Int} (hm : 0 < m) : -m ≤ clampInt (-m) m v ∧ clampInt (-m) m v ≤ m := by
  unfold clampInt; omega

/-- The model's sign is the library's. -/
theorem sgn_eq_sign (v : Int) : sgn v = v.sign := by
  unfold sgn
  by_cases hneg : v < 0
  · rw [if_pos hneg, Int.sign_eq_neg_one_of_neg hneg]
  · rw [if_neg hneg]
    by_cases hzero : v = 0
    · rw [if_pos hzero, hzero, Int.sign_zero]
    · rw [if_neg hzero, Int.sign_eq_one_of_pos (by omega)]

theorem sgn_eq_one_iff {v : Int} : sgn v = 1 ↔ 0 < v := by rw [sgn_eq_sign, Int.sign_eq_one_iff_pos]
theorem sgn_eq_neg_one_iff {v : Int} : sgn v = -1 ↔ v < 0 := by rw [sgn_eq_sign, Int.sign_eq_neg_one_iff_neg]

/-! ## The quantities of a tick -/

/-- The velocity that R103 aims at: what still stops short of the target at the acceleration limit, within the velocity limit. -/
def pgVref (vm am jm : Int) (g : Pg) : Int :=
  sgn (g.t - g.x) *
    min vm (isqrt (2 * am * max 0 (((g.t - g.x).natAbs : Int) - g.v.natAbs * -((-am).fdiv jm))).toNat)

/-- The acceleration after a tick that has not landed. -/
def pgAcc (vm am jm : Int) (g : Pg) : Int :=
  g.a + clampInt (-jm) jm (clampInt (-am) am (pgVref vm am jm g - g.v) - g.a)

/-- The velocity after a tick that has not landed. -/
def pgVel (vm am jm : Int) (g : Pg) : Int := clampInt (-vm) vm (g.v + pgAcc vm am jm g)

/-- A tick lands where the step reaches or passes a target that the generator stands short of. -/
def pgLands (vm am jm : Int) (g : Pg) : Prop :=
  sgn (g.t - g.x) ≠ 0 ∧ sgn (g.t - (g.x + pgVel vm am jm g)) ≠ sgn (g.t - g.x)

/-- A tick that lands stands on the target at rest. -/
theorem pgStep_of_lands {vm am jm : Int} {g : Pg} (h : pgLands vm am jm g) :
    pgStep vm am jm g = { g with x := g.t, v := 0, a := 0 } := if_pos h

/-- A tick that does not land moves by its new velocity. -/
theorem pgStep_of_not_lands {vm am jm : Int} {g : Pg} (h : ¬ pgLands vm am jm g) :
    pgStep vm am jm g = { g with x := g.x + pgVel vm am jm g, v := pgVel vm am jm g, a := pgAcc vm am jm g } := if_neg h

/-- The acceleration moves toward one within its limit, so it keeps the limit where it kept it before. -/
theorem pgAcc_mem {vm am jm : Int} {g : Pg} (ham : 0 < am) (hjm : 0 < jm) (hl : -am ≤ g.a) (hu : g.a ≤ am) :
    -am ≤ pgAcc vm am jm g ∧ pgAcc vm am jm g ≤ am := by
  obtain ⟨hrl, hru⟩ := clampInt_mem (v := pgVref vm am jm g - g.v) ham
  unfold pgAcc
  generalize clampInt (-am) am (pgVref vm am jm g - g.v) = aref at *
  unfold clampInt
  omega

/-- A tick changes the acceleration by at most the jerk limit. -/
theorem pgAcc_jerk (vm am : Int) {jm : Int} (g : Pg) (hjm : 0 < jm) :
    -jm ≤ pgAcc vm am jm g - g.a ∧ pgAcc vm am jm g - g.a ≤ jm := by
  obtain ⟨hl, hu⟩ := clampInt_mem (v := clampInt (-am) am (pgVref vm am jm g - g.v) - g.a) hjm
  unfold pgAcc
  omega

/-- A generator that stands below its target and does not land stays below it. -/
theorem lt_target_of_not_lands {vm am jm : Int} {g : Pg} (h : ¬ pgLands vm am jm g) (hx : g.x < g.t) :
    g.x + pgVel vm am jm g < g.t := by
  have hs : sgn (g.t - g.x) = 1 := sgn_eq_one_iff.mpr (by omega)
  have hsame : sgn (g.t - (g.x + pgVel vm am jm g)) = 1 := by simpa [pgLands, hs] using h
  have := sgn_eq_one_iff.mp hsame
  omega

/-- A generator that stands above its target and does not land stays above it. -/
theorem target_lt_of_not_lands {vm am jm : Int} {g : Pg} (h : ¬ pgLands vm am jm g) (hx : g.t < g.x) :
    g.t < g.x + pgVel vm am jm g := by
  have hs : sgn (g.t - g.x) = -1 := sgn_eq_neg_one_iff.mpr (by omega)
  have hsame : sgn (g.t - (g.x + pgVel vm am jm g)) = -1 := by simpa [pgLands, hs] using h
  have := sgn_eq_neg_one_iff.mp hsame
  omega

/-- With every limit at its top, the velocity aimed at from rest covers the whole distance d: the braking distance 2 · Am · d is at
least d². -/
theorem le_pgVref_of_top {g : Pg} (hv : g.v = 0) (hd : 0 < g.t - g.x) (htop : g.t - g.x ≤ 0x7FFFFFFF) :
    g.t - g.x ≤ pgVref 0x7FFFFFFF 0x7FFFFFFF 0x7FFFFFFF g := by
  obtain ⟨n, hn⟩ := Int.eq_ofNat_of_zero_le (Int.le_of_lt hd)
  have hsq : n * n ≤ 2 * 0x7FFFFFFF * n := Nat.mul_le_mul_right n (by omega)
  have hroot : n ≤ isqrt (2 * 0x7FFFFFFF * n) := le_isqrt hsq (by omega)
  have harg : (2 * 0x7FFFFFFF * max 0 (((g.t - g.x).natAbs : Int) - g.v.natAbs * -((-0x7FFFFFFF : Int).fdiv 0x7FFFFFFF))).toNat =
      2 * 0x7FFFFFFF * n := by
    rw [hv, hn]; simp only [Int.natAbs_zero, Int.natAbs_natCast]; omega
  unfold pgVref
  rw [harg, sgn_eq_one_iff.mpr hd]
  omega

/-- With every limit at its top, one tick from rest lands. -/
theorem pgLands_of_top {g : Pg} (hv : g.v = 0) (ha : g.a = 0) (hd : 0 < g.t - g.x) (htop : g.t - g.x ≤ 0x7FFFFFFF) :
    pgLands 0x7FFFFFFF 0x7FFFFFFF 0x7FFFFFFF g := by
  have hvref := le_pgVref_of_top hv hd htop
  have hvel : g.t - g.x ≤ pgVel 0x7FFFFFFF 0x7FFFFFFF 0x7FFFFFFF g := by
    unfold pgVel pgAcc
    rw [hv, ha]
    unfold clampInt
    omega
  refine ⟨by rw [sgn_eq_one_iff.mpr hd]; decide, fun hsame => ?_⟩
  rw [sgn_eq_one_iff.mpr hd, sgn_eq_one_iff] at hsame
  omega

/-- Settles O19: a tick lands, and then stands on the target at rest, or takes a step within its limits that stays short of it. -/
theorem profileGeneratorKeepsItsLimits : Obligations.ProfileGeneratorKeepsItsLimits := by
  unfold Obligations.ProfileGeneratorKeepsItsLimits
  rintro vm am jm g h hvm ham hjm rfl
  by_cases hland : pgLands vm am jm g
  · rw [pgStep_of_lands hland]
    have hneg : ∀ {m : Int}, 0 < m → -m ≤ 0 := fun h => by omega
    exact ⟨rfl, hneg hvm, Int.le_of_lt hvm, fun _ _ => ⟨hneg ham, Int.le_of_lt ham⟩, .inl ⟨rfl, rfl, rfl⟩, fun _ => Int.le_refl _, fun _ => Int.le_refl _,
      fun _ _ _ _ _ _ _ => rfl⟩
  · rw [pgStep_of_not_lands hland]
    obtain ⟨hvl, hvu⟩ := clampInt_mem (v := g.v + pgAcc vm am jm g) hvm
    refine ⟨rfl, hvl, hvu, pgAcc_mem ham hjm, .inr (pgAcc_jerk vm am g hjm), fun hx => Int.le_of_lt (lt_target_of_not_lands hland hx),
      fun hx => Int.le_of_lt (target_lt_of_not_lands hland hx), ?_⟩
    rintro rfl rfl rfl hv ha hd htop
    exact absurd (pgLands_of_top hv ha hd htop) hland

end Sys2Proof.Machine
end

section
/-! PROOFS. A frame boundary and a tick (R89, R94, R102, R103): the meanings of the two rows, step by step. -/

namespace Sys2Proof.Machine

/-! ## The two rows -/

theorem exec_beFrame (obs : FrameObs) (s : State) : exec (.beFrame obs) s = .next (grantTiles (settle (beFrame obs s))) := rfl

theorem exec_profileTick (s : State) : exec .profileTick s = .next (settle (profileTick s)) := rfl

/-- The clock at a frame boundary. -/
def atBoundary (s : State) : State :=
  { advanceTo s (s.be.frameAt + 125) with be.frameAt := max s.now (s.be.frameAt + 125) }

/-- The clock at a tick. -/
def atTick (s : State) : State :=
  { advanceTo s (s.be.tickAt + 25) with be.tickAt := max s.now (s.be.tickAt + 25) }

theorem beFrame_released (obs : FrameObs) {s : State} (hrel : released s 6 = true) :
    beFrame obs s =
      let run := beRuns s
      let b := liftBrake (if run then bandEnd obs (atBoundary s) else atBoundary s)
      let c := frameUnits (if run then bandReqs obs b else b)
      let x := frameSnapshot (frameWatches (if run then latchLoops c else c))
      lowerAll { x with hr.telPf := x.hr.telPf + chipPower x, hr.telN := x.hr.telN + 1 } := by
  unfold beFrame atBoundary
  rw [if_pos hrel]
  dsimp only
  rw [advanceTo_now]

theorem profileTick_released {s : State} (hrel : released s 6 = true) :
    profileTick s =
      let run := beRuns s
      let b := tickMessages (feedForward (dispense (if run then pgTicks (atTick s) else atTick s)))
      grantTiles (lwTransfer (if run then pbTick b else b)) := by
  unfold profileTick atTick
  rw [if_pos hrel]
  dsimp only
  rw [advanceTo_now]

/-- What the Band Engine makes of the frame that ends, by whether a lane has failed in it. -/
theorem bandEnd_eq (obs : FrameObs) {u e v w : State} (he : e = if obs.laneFail then hubFault .lane u else u)
    (hv : v = { if e.be.laneBad then e else arbitrate (evalLoops obs.badWords e) with be.laneBad := false })
    (hw : w = setF v Reg.BE_FRAME.COUNT (getF v Reg.BE_FRAME.COUNT + 1)) :
    bandEnd obs u = if e.be.laneBad then w else { w with be.firstFrame := 0, be.carried := 0 } := by
  rw [hw, hv, he]
  rfl

/-- Settles O20: each row is its meaning, cut at whether sub-block 0x06 works. -/
theorem bandEngineFrameAndTick : Obligations.BandEngineFrameAndTick := by
  unfold Obligations.BandEngineFrameAndTick
  refine ⟨fun s u e v w x obs hrel hrun hu he hv hw hx => ?_, fun s u x obs hrel hrun hu hx => ?_, fun s u hrel hrun hu => ?_,
    fun s u hrel hrun hu => ?_, fun s obs hrel => ?_⟩
  · change u = atBoundary s at hu
    rw [exec_beFrame, beFrame_released obs hrel, ← hu, hx]
    simp only [hrun, if_true, bandEnd_eq obs he hv hw, bandReqs]
  · change u = atBoundary s at hu
    rw [exec_beFrame, beFrame_released obs hrel, ← hu, hx]
    simp only [hrun, Bool.false_eq_true, if_false]
  · change u = atTick s at hu
    rw [exec_profileTick, profileTick_released hrel, hu]
    simp only [hrun, if_true, pgTicks]
  · change u = atTick s at hu
    rw [exec_profileTick, profileTick_released hrel, hu]
    simp only [hrun, Bool.false_eq_true, if_false]
  · rw [exec_beFrame, exec_profileTick, beFrame, profileTick, if_neg (by simp [hrel]), if_neg (by simp [hrel])]
    exact ⟨rfl, rfl⟩

end Sys2Proof.Machine
end

section
/-! PROOFS. A descriptor that has the turn and passes its checks is taken and carried out, or waits with its read (R317 to R319,
log 8); and which descriptors a completion leaves in flight. -/

namespace Sys2Proof.Machine

/-- What a descriptor taken leaves, and its place in flight. -/
theorem eq_takeHead {s u : State} {n : Nat} {d : List Byte} {job : Job} {f : Flight} (h : (u, f) = takeHead s n d job) :
    u = (takeHead s n d job).1 ∧ f = (takeHead s n d job).2 :=
  ⟨congrArg Prod.fst h, congrArg Prod.snd h⟩

section
variable {s : State} {n : Nat} {d : List Byte} {sel : List Byte → Bool} {job : Job} {sp : State → List Byte → OpSpec}

/-- The descriptor whose turn it is stands first among those its ring has fetched. -/
theorem Turn.ready_eq (hturn : Turn s n d) : ∃ l, (ring s n).ready = d :: l := List.head?_eq_some_iff.mp hturn.2

/-- A command of the row that passes its checks is taken and carried out. -/
theorem runDesc_of_passes {body : State → Flight → List Byte → State} (hturn : Turn s n d) (hsel : sel d = true)
    (hpass : Passes s n d job (sp s d)) :
    runDesc s sel job sp body = body (takeHead s n d job).1 (takeHead s n d job).2 d := by
  obtain ⟨l, hready⟩ := hturn.ready_eq
  obtain ⟨hring, -⟩ := hturn
  unfold Passes at hpass
  simp only [runDesc, hring, hready, hsel, if_true, hpass]

/-- Whether a command of the row that passes its checks waits for its read is what `held` says. -/
theorem readHeld_of_passes {held : State → List Byte → Bool} (hturn : Turn s n d) (hsel : sel d = true)
    (hpass : Passes s n d job (sp s d)) : readHeld s sel job sp held = held s d := by
  obtain ⟨l, hready⟩ := hturn.ready_eq
  obtain ⟨hring, -⟩ := hturn
  unfold Passes at hpass
  simp only [readHeld, hring, hready, hsel, hpass, Option.isNone_none, Bool.true_and]

/-- A command whose read cannot be made yet waits with its descriptor. -/
theorem runRead_of_held {held : State → List Byte → Bool} {body : State → Flight → List Byte → State} (hturn : Turn s n d)
    (hsel : sel d = true) (hpass : Passes s n d job (sp s d)) (hheld : held s d = true) :
    runRead s sel job sp held body = s :=
  if_pos ((readHeld_of_passes hturn hsel hpass).trans hheld)

/-- A command whose read can be made is taken and carried out. -/
theorem runRead_of_open {held : State → List Byte → Bool} {body : State → Flight → List Byte → State} (hturn : Turn s n d)
    (hsel : sel d = true) (hpass : Passes s n d job (sp s d)) (hopen : held s d = false) :
    runRead s sel job sp held body = body (takeHead s n d job).1 (takeHead s n d job).2 d := by
  rw [runRead, readHeld_of_passes hturn hsel hpass, hopen, if_neg Bool.false_ne_true]
  exact runDesc_of_passes hturn hsel hpass

end

/-! ## Descriptors in flight -/

@[simp] theorem putCpl_flights (s : State) (n slot tag st d : Nat) : (putCpl s n slot tag st d).hr.flights = s.hr.flights := by
  unfold putCpl
  dsimp only
  split
  · rfl
  · split
    · rfl
    · rw [hapReq_hr]; rfl

@[simp] theorem formCpl_flights (s : State) (n slot tag st d : Nat) : (formCpl s n slot tag st d).hr.flights = s.hr.flights := by
  unfold formCpl
  split
  · rfl
  · exact putCpl_flights ..

@[simp] theorem ringIdle_flights (s : State) (n : Nat) : (ringIdle s n).hr.flights = s.hr.flights := by
  unfold ringIdle
  split <;> rfl

/-- A completion takes every descriptor of its key out of flight. -/
theorem complete_flights (s : State) (f : Flight) (st d : Nat) :
    (complete s f st d).hr.flights = s.hr.flights.filter (·.key != f.key) := by
  rw [complete, ringIdle_flights, formCpl_flights]

/-- After a completion by key no descriptor in flight has the key. -/
theorem key_ne_of_mem_completeKey {s : State} {key st d : Nat} {x : Flight} (hx : x ∈ (completeKey s key st d).hr.flights) :
    x.key ≠ key := by
  unfold completeKey at hx
  split at hx
  · next f hf =>
    rw [complete_flights] at hx
    have hkey : f.key = key := by simpa using List.find?_some hf
    simpa [hkey] using (List.mem_filter.mp hx).2
  · next hnone => simpa using List.find?_eq_none.mp hnone x hx

@[simp] theorem completeKey_regs (s : State) (key st d : Nat) : (completeKey s key st d).regs = s.regs :=
  completeOpt_regs s (some key) st d

end Sys2Proof.Machine
end

section
/-! PROOFS. The Phase Book (R202 to R217): what the end of a step teaches it, and when a program, an unload and a cut take effect. -/

namespace Sys2Proof.Machine

/-! ## What its operations leave unchanged -/

theorem pbEvent_hostOnly (s : State) (code : Nat) : HostOnly s (pbEvent s code) := raiseEvent_hostOnly ..

theorem convEvent_hostOnly (old s : State) : HostOnly s (convEvent old s) := HostOnly.ite (pbEvent_hostOnly s 1) (HostOnly.refl s)

/-- No event is raised where CONVERGED has not turned over (R203). -/
theorem convEvent_of_eq {old s : State} (h : converged s = converged old) : convEvent old s = s := if_neg (by simp [h])

/-- CONVERGED is a matter of the bins, CONV_PCT and BIN_LOG2 (R203). -/
theorem converged_congr {s t : State} (hbins : t.pb.bins = s.pb.bins)
    (hpct : getF t Reg.PB_LEARN.CONV_PCT = getF s Reg.PB_LEARN.CONV_PCT)
    (hlog : getF t Reg.PB_CFG.BIN_LOG2 = getF s Reg.PB_CFG.BIN_LOG2) : converged t = converged s := by
  unfold converged settledBins
  rw [hbins, hpct, hlog]

/-- Arming changes the angle timers alone. -/
theorem armTimers_frame (s : State) : armTimers s = { s with sa.timers := (armTimers s).sa.timers } := by
  unfold armTimers
  split
  · rfl
  · split <;> rfl

@[simp] theorem armTimers_pb (s : State) : (armTimers s).pb = s.pb := by rw [armTimers_frame]
@[simp] theorem armTimers_be (s : State) : (armTimers s).be = s.be := by rw [armTimers_frame]
@[simp] theorem armTimers_th (s : State) : (armTimers s).th = s.th := by rw [armTimers_frame]
@[simp] theorem armTimers_hap (s : State) : (armTimers s).hap = s.hap := by rw [armTimers_frame]
@[simp] theorem armTimers_sa_aX (s : State) : (armTimers s).sa.aX = s.sa.aX := by rw [armTimers_frame]

/-- Writes of bins change the bins alone. -/
theorem foldl_setBin_frame {β : Type} (k : β → Nat) (g : State → β → Bin) : ∀ (l : List β) (s : State),
    l.foldl (fun s b => setBin s (k b) (g s b)) s =
      { s with pb.bins := (l.foldl (fun s b => setBin s (k b) (g s b)) s).pb.bins }
  | [], _ => rfl
  | b :: l, s => by
    rw [List.foldl_cons, foldl_setBin_frame k g l]
    rfl

/-- Learning changes the bins alone. -/
theorem learnStep_frame (s : State) : learnStep s = { s with pb.bins := (learnStep s).pb.bins } :=
  foldl_setBin_frame (β := Nat × Meas) (fun p => p.1) (fun t p => learnBin (getF s Reg.PB_CFG.LSHIFT)
    (8 * getF s Reg.PB_LEARN.TOL_A) (getF s Reg.PB_LEARN.SETTLE_STEPS) (bin t p.1) p.2) s.pb.meas s

@[simp] theorem learnStep_sa (s : State) : (learnStep s).sa = s.sa := by rw [learnStep_frame]
@[simp] theorem learnStep_be (s : State) : (learnStep s).be = s.be := by rw [learnStep_frame]
@[simp] theorem learnStep_cc (s : State) : (learnStep s).cc = s.cc := by rw [learnStep_frame]

/-! ## The end of a step (R202, R204) -/

/-- No measurement of the step that begins, and nothing that excludes it. -/
def clearStep (s : State) : State := { s with pb.meas := [], pb.excluded := false, bg.broken := false }

/-- The watches bound to steps move on. -/
def stepWatches (s : State) : State := { s with obs.watches := s.obs.watches.map (fun p => (p.1, stepWatch p.2)) }

/-- The step that begins after a boundary, with the event of R203 where CONVERGED has turned over since `old`. -/
def startStep (old s : State) : State := stepWatches (convEvent old (clearStep s))

/-- A step that nothing excluded is learned from. -/
theorem stepBoundary_of_learns {s : State} (hrun : beRuns s = true) (htrack : s.sa.state = .tracking)
    (hincl : s.pb.excluded = false) (hlearn : flagOn s Reg.PB_CFG.LEARN = true) :
    stepBoundary s = startStep s (learnStep s) := by
  simp [stepBoundary, startStep, stepWatches, clearStep, hrun, htrack, hincl, hlearn]

/-- A step that something excluded is marked and not learned from. -/
theorem stepBoundary_of_excluded {s : State} (hrun : beRuns s = true) (hangle : s.sa.state = .tracking ∨ s.sa.state = .acquiring)
    (hexcl : s.pb.excluded = true) : stepBoundary s = startStep s (setF s Reg.PB_ERR.NOT_LEARNED 1) := by
  rcases hangle with h | h <;> simp [stepBoundary, startStep, stepWatches, clearStep, hrun, h, hexcl]

/-- The start of a step changes nothing of the Phase Book but the measurements and the exclusion, and nothing of the step angle, the
Band Engine and the credits. -/
theorem startStep_frame (old s : State) : (startStep old s).pb = (clearStep s).pb ∧ (startStep old s).sa = s.sa ∧
    (startStep old s).be = s.be ∧ (startStep old s).cc = s.cc :=
  have h := convEvent_hostOnly old (clearStep s)
  ⟨h.pb, h.sa, h.be, h.cc⟩

/-- Where CONVERGED stays, the start of a step raises no event. -/
theorem startStep_of_converged_eq {old s : State} (h : converged s = converged old) : startStep old s = stepWatches (clearStep s) :=
  congrArg stepWatches (convEvent_of_eq h)

/-- An error mark leaves CONVERGED. -/
theorem converged_setF_notLearned (s : State) (v : Nat) : converged (setF s Reg.PB_ERR.NOT_LEARNED v) = converged s :=
  converged_congr rfl (getF_setF_ne _ (by decide) v) (getF_setF_ne _ (by decide) v)

/-! ## One bin (R202) -/

/-- A bin first seen takes the measured mean and peak, and has no hit. -/
theorem learnBin_of_unseen (k tol st : Nat) {b : Bin} (m : Meas) (h : b.seen = false) :
    learnBin k tol st b m =
      { b with mean := min (m.sum / m.n) 0xFFFF, peak := min m.peak 0xFFFF, hits := 0, seen := true, settled := decide (st ≤ 0) } :=
  if_pos (by simp [h])

/-- The hits of a bin after a measurement: one more within the tolerance, up to 255, and none outside it. -/
def nextHits (tol : Nat) (b : Bin) (m : Meas) : Nat :=
  if decide (((m.peak : Int) - b.peak).natAbs ≤ tol) then min (b.hits + 1) 255 else 0

/-- The mean of a bin moves toward the measured one by its 2^k-th part. -/
def nextMean (k : Nat) (b : Bin) (m : Meas) : Nat :=
  min ((b.mean : Int) + (((m.sum / m.n : Nat) : Int) - b.mean).tdiv (2 ^ k : Nat)).toNat 0xFFFF

/-- The peak of a bin rises to the measured one at once, and falls toward it by its 2^k-th part. -/
def nextPeak (k : Nat) (b : Bin) (m : Meas) : Nat :=
  min (if b.peak ≤ m.peak then (m.peak : Int) else (b.peak : Int) - ((b.peak : Int) - m.peak).tdiv (2 ^ k : Nat)).toNat 0xFFFF

theorem nextHits_le (tol : Nat) (b : Bin) (m : Meas) : nextHits tol b m ≤ 255 := by
  unfold nextHits
  split <;> omega

theorem nextPeak_of_le (k : Nat) {b : Bin} {m : Meas} (h : b.peak ≤ m.peak) : nextPeak k b m = min m.peak 0xFFFF := by
  rw [nextPeak, if_pos h, Int.toNat_natCast]

/-- A bin seen before takes its next hits, mean and peak, and is settled by its hits. -/
theorem learnBin_of_seen (k tol st : Nat) {b : Bin} (m : Meas) (h : b.seen = true) :
    learnBin k tol st b m = { b with
      hits := nextHits tol b m, mean := nextMean k b m, peak := nextPeak k b m, settled := decide (st ≤ nextHits tol b m) } :=
  if_neg (by simp [h])

/-! ## The switch and the unload (R216, R217) -/

/-- Program p in force, its instances not yet armed and its switch not yet told. -/
def programInForce (s : State) (p : PbProgram) : State :=
  let bins := ((List.range p.bins.length).zip p.bins).foldl
    (fun l q => tset {} l q.1 (progBin (getF s Reg.PB_LEARN.SETTLE_STEPS) q.2)) []
  let t := setF { endActions s with pb.bins := bins, pb.prog := some p, pb.pend := none, pb.unload := false } Reg.PB_PROG_ID.ID p.id
  { t with pb.inst := freshInst t t.sa.aX }

theorem switchProgram_eq (s : State) (p : PbProgram) (key : Nat) :
    switchProgram s p key = completeKey (convEvent s (pbEvent (armTimers (programInForce s p)) 2)) key 0 0 := rfl

/-- What tells of a switch changes nothing but the host side. -/
theorem switchProgram_hostOnly (s : State) (p : PbProgram) (key : Nat) :
    HostOnly (armTimers (programInForce s p)) (switchProgram s p key) :=
  ((pbEvent_hostOnly _ 2).trans (convEvent_hostOnly s _)).trans (completeKey_hostOnly ..)

/-- What tells of a switch changes no register but the count of events lost. -/
theorem getF_switchProgram (s : State) (p : PbProgram) (key : Nat) {g : Fld} (hg : g.key ≠ Reg.HR_EV_DROP.COUNT.key) :
    getF (switchProgram s p key) g = getF (programInForce s p) g := by
  calc getF (switchProgram s p key) g
    _ = getF (convEvent s (pbEvent (armTimers (programInForce s p)) 2)) g := by
        rw [switchProgram_eq, getF, completeKey_regs]; rfl
    _ = getF (pbEvent (armTimers (programInForce s p)) 2) g := getF_convEvent _ _ hg
    _ = getF (armTimers (programInForce s p)) g := getF_raiseEvent _ _ _ _ _ hg
    _ = getF (programInForce s p) g := getF_armTimers _ g

/-- No program action outlives the end of all of them. -/
theorem forecast_of_mem_endActions {s : State} {a : PbActive} (ha : a ∈ (endActions s).pb.active) : ∃ id, a.eff = .forecast id := by
  obtain ⟨-, hkeep⟩ := List.mem_filter.mp ha
  cases heff : a.eff with
  | action i => simp [heff] at hkeep
  | forecast id => exact ⟨id, rfl⟩

/-- The switch point puts a pending program in force. -/
theorem switchPoint_of_pend {s : State} {p : PbProgram} {key : Nat} (hrun : beRuns s = true) (hduty : dutyRuns s 2 = true)
    (hpend : s.pb.pend = some (p, key)) : switchPoint s = switchProgram s p key := by
  simp [switchPoint, hrun, hduty, hpend]

/-- With no program pending, the switch point carries out a pending unload. -/
theorem switchPoint_of_unload {s : State} (hrun : beRuns s = true) (hduty : dutyRuns s 2 = true) (hpend : s.pb.pend = none)
    (hunload : s.pb.unload = true) : switchPoint s = unloadProgram s := by
  simp [switchPoint, hrun, hduty, hpend, hunload]

/-! ## The cut (R209) -/

theorem actionMax_of_find {s : State} {e : Effect} {a : PbActive} (h : s.pb.active.find? (·.eff == e) = some a) :
    actionMax e s = { advanceTo s (a.since + us (getF s Reg.PB_ACTMAX.ACT_MAX_US)) with
      pb.active := lmod (fun x => x == a) (fun x => { x with ending := some 1 }) s.pb.active } := by
  simp [actionMax, h]

/-! ## The obligation -/

/-- Settles O34: each row by its branch, and a bin by whether it has been seen. -/
theorem phaseBookLearnsAndSwitches : Obligations.PhaseBookLearnsAndSwitches := by
  unfold Obligations.PhaseBookLearnsAndSwitches
  refine ⟨fun s hrun htrack hincl hlearn => ?_, fun s hrun hangle hexcl => ?_, fun k tol st b m => ?_,
    fun s p key hrun hduty hpend => ?_, fun s hrun hduty hpend hunload => ?_, fun s e a hfind => ?_⟩
  · obtain ⟨hpb, hsa, hbe, hcc⟩ := startStep_frame s (learnStep s)
    refine ⟨_, congrArg finish (stepBoundary_of_learns hrun htrack hincl hlearn), ?_, ?_, ?_, hsa.trans (learnStep_sa s),
      hbe.trans (learnStep_be s), hcc.trans (learnStep_cc s)⟩ <;> rw [settle_pb, hpb] <;> rfl
  · have hstart : stepBoundary s = stepWatches (clearStep (setF s Reg.PB_ERR.NOT_LEARNED 1)) :=
      (stepBoundary_of_excluded hrun hangle hexcl).trans (startStep_of_converged_eq (converged_setF_notLearned s 1))
    exact ⟨_, congrArg finish hstart, rfl, rfl, rfl, getF_setF_same s Reg.PB_ERR.NOT_LEARNED 1, rfl, rfl, rfl⟩
  · cases hseen : b.seen with
    | false => simp [learnBin_of_unseen k tol st m hseen]
    | true =>
      rw [learnBin_of_seen k tol st m hseen]
      simpa [hseen, nextHits_le] using nextPeak_of_le k
  · have hhost := switchProgram_hostOnly s p key
    have hpb : (switchProgram s p key).pb = (programInForce s p).pb := hhost.pb.trans (armTimers_pb _)
    refine ⟨_, congrArg finish (switchPoint_of_pend hrun hduty hpend), congrArg Pb.prog hpb, congrArg Pb.pend hpb,
      congrArg Pb.unload hpb, fun a ha => forecast_of_mem_endActions (s := s) ?_, ?_, ?_, fun x => key_ne_of_mem_completeKey, ?_, ?_⟩
    · rw [settle_pb, hpb] at ha; exact ha
    · rw [getF_settle, getF_switchProgram _ _ _ (by decide)]
      exact getF_setF_same _ Reg.PB_PROG_ID.ID p.id
    · exact (congrArg Sa.aX hhost.sa).trans (armTimers_sa_aX _)
    · exact hhost.be.trans (armTimers_be _)
    · exact hhost.th.trans (armTimers_th _)
  · refine ⟨_, congrArg finish (switchPoint_of_unload hrun hduty hpend hunload), ?_⟩
    simp [unloadProgram, endActions]
  · refine ⟨_, congrArg finish (actionMax_of_find hfind), advanceTo_now .., ?_, ?_, ?_, ?_⟩
    · exact List.mem_map.mpr ⟨a, List.mem_of_find?_eq_some hfind, by simp⟩
    · exact List.length_map _
    · exact advanceTo_regs ..
    · exact advanceTo_hap ..

end Sys2Proof.Machine
end

section
/-! PROOFS. The commands of the Phase Book (R215, R216, R218, R219): what refuses each, in order, and what it leaves. -/

namespace Sys2Proof.Machine

/-! ## PHASEBOOK_LOAD (R215, R216) -/

/-- A PHASEBOOK_LOAD that passes R319 waits while its read cannot be made. -/
theorem exec_phasebookLoad_of_held {s : State} {n : Nat} {d : List Byte} (mem : MemRead) (hturn : Turn s n d) (hop : dOp d = 0x30)
    (hpass : Passes s n d .pbLoad (loadSpec true d)) (hheld : readOpen s 0 = false) :
    exec (.phasebookLoad mem) s = .next (settle s) :=
  congrArg finish (runRead_of_held hturn (by simp [hop]) hpass (by simp [hheld]))

/-- A PHASEBOOK_LOAD that passes R319 is carried out where its read can be made. -/
theorem exec_phasebookLoad_of_open {s : State} {n : Nat} {d : List Byte} (mem : MemRead) (hturn : Turn s n d) (hop : dOp d = 0x30)
    (hpass : Passes s n d .pbLoad (loadSpec true d)) (hopen : readOpen s 0 = true) :
    exec (.phasebookLoad mem) s =
      .next (settle (pbLoadBody mem (takeHead s n d .pbLoad).1 (takeHead s n d .pbLoad).2 d)) :=
  congrArg finish (runRead_of_open hturn (by simp [hop]) hpass (by simp [hopen]))

/-- A program whose length does not fit its header is refused with FORMAT and detail 0. -/
theorem pbLoadBody_of_length {bs d : List Byte} (corr : Bool) (u : State) (f : Flight)
    (hlen : progLen (bs.take (leAt d 16 4)) ≠ leAt d 16 4) :
    pbLoadBody (.data bs corr) u f d = complete (readDone corr u f (leAt d 8 8) (leAt d 16 4) 0) f 0x0012 0 :=
  if_pos hlen

/-- A program that fails a check of R215 is refused with FORMAT and the reason, which PB_REJECT records. -/
theorem pbLoadBody_of_rejected {bs d : List Byte} {corr : Bool} {u v : State} {f : Flight} {k i : Nat}
    (hv : v = readDone corr u f (leAt d 8 8) (leAt d 16 4) 0) (hlen : progLen (bs.take (leAt d 16 4)) = leAt d 16 4)
    (hcheck : programCheck v (bs.take (leAt d 16 4)) = some (k, i)) :
    pbLoadBody (.data bs corr) u f d =
      complete (setF (setF v Reg.PB_REJECT.REASON k) Reg.PB_REJECT.INDEX i) f 0x0012 k := by
  subst hv
  simp [pbLoadBody, hlen, hcheck]

/-- A program that passes them is accepted. -/
theorem pbLoadBody_of_accepted {bs d : List Byte} {corr : Bool} {u v : State} {f : Flight}
    (hv : v = readDone corr u f (leAt d 8 8) (leAt d 16 4) 0) (hlen : progLen (bs.take (leAt d 16 4)) = leAt d 16 4)
    (hcheck : programCheck v (bs.take (leAt d 16 4)) = none) :
    pbLoadBody (.data bs corr) u f d = acceptProgram v f (parseProgram (bs.take (leAt d 16 4))) := by
  subst hv
  simp [pbLoadBody, hlen, hcheck]

/-- The command of a program that waits, if one does, completes with SUPERSEDED (R216). -/
def supersedePend (s : State) : State := match s.pb.pend with
  | some (_, key) => completeKey s key 0x0013 0
  | none => s

@[simp] theorem supersedePend_sa (s : State) : (supersedePend s).sa = s.sa := by
  unfold supersedePend
  split
  · exact completeKey_sa ..
  · rfl

/-- The accepted program p waits for the switch, with its command. -/
def pendProgram (s : State) (f : Flight) (p : PbProgram) : State :=
  setJob { supersedePend s with pb.pend := some (p, f.key) } f .pbLoad

theorem acceptProgram_eq (s : State) (f : Flight) (p : PbProgram) :
    acceptProgram s f p = if s.sa.state == .tracking then pendProgram s f p else switchPoint (pendProgram s f p) := by
  rw [← supersedePend_sa s]
  rfl

/-- While the tracker is TRACKING an accepted program waits for a step boundary. -/
theorem acceptProgram_of_tracking {s : State} (f : Flight) (p : PbProgram) (h : s.sa.state = .tracking) :
    acceptProgram s f p = pendProgram s f p := by
  rw [acceptProgram_eq, h]; rfl

/-- In every other state of the tracker it takes effect at once. -/
theorem acceptProgram_of_not_tracking {s : State} (f : Flight) (p : PbProgram) (h : s.sa.state ≠ .tracking) :
    acceptProgram s f p = switchPoint (pendProgram s f p) := by
  rw [acceptProgram_eq, if_neg (by simpa using h)]

/-- A failed read is recorded on the host side alone, and its command completes with HAP_READ and the status (R50, R327). -/
theorem readFail_eq_complete (s : State) (f : Flight) (a len c st : Nat) :
    ∃ v, readFail s f a len c st = complete v f 0x0010 (max 1 (normStatus st)) ∧ HostOnly s v := by
  refine ⟨_, rfl, (bumpFree_hostOnly s).trans ((loadReads_hostOnly _ f a len c).trans (HostOnly.trans ?_ (hapFail_hostOnly ..)))⟩
  exact HostOnly.ite (by exact rfl) (HostOnly.refl _)

/-! ## FORECAST (R218, R219) -/

section
variable {s : State} {n : Nat} {d : List Byte} (entry : MemRead) (hturn : Turn s n d) (hop : dOp d = 0x31)
  (hnew : bitAt (byteAt d 10) 0 = false) (hpass : Passes s n d .taken (forecastSpec d))
include hturn hop hnew hpass

/-- A FORECAST that needs the queue map waits while it cannot be read. -/
theorem exec_forecast_of_held (hen : flagOn s Reg.PB_CFG.FC_EN = true) (hacc : (s.mf.bind (·.accounts)).isSome = true)
    (hheld : readOpen s 2 = false) : exec (.forecast entry) s = .next (settle s) :=
  congrArg finish (runRead_of_held hturn (by simp [hop, hnew]) hpass (by simp [hen, hacc, hheld]))

/-- A FORECAST that needs no read, or whose read can be made, is carried out. -/
theorem exec_forecast_of_open (hopen : flagOn s Reg.PB_CFG.FC_EN = false ∨ s.mf.bind (·.accounts) = none ∨ readOpen s 2 = true) :
    exec (.forecast entry) s =
      .next (settle (forecastBody entry (takeHead s n d .taken).1 (takeHead s n d .taken).2 d)) := by
  refine congrArg finish (runRead_of_open hturn (by simp [hop, hnew]) hpass ?_)
  rcases hopen with h | h | h <;> simp [h]

end

section
variable {u : State} {d : List Byte}

/-- Forecasts switched off refuse the command first. -/
theorem forecastBody_of_disabled (entry : MemRead) (f : Flight) (hen : flagOn u Reg.PB_CFG.FC_EN = false) :
    forecastBody entry u f d = complete u f 0x0014 0 :=
  if_pos (by simp [hen])

/-- Without accounts no queue is mapped. -/
theorem forecastBody_of_no_accounts (entry : MemRead) (f : Flight) (hen : flagOn u Reg.PB_CFG.FC_EN = true)
    (hacc : u.mf.bind (·.accounts) = none) : forecastBody entry u f d = complete u f 0x0015 0 := by
  simp [forecastBody, hen, hacc]

variable {q r : Nat} (hen : flagOn u Reg.PB_CFG.FC_EN = true) (hacc : u.mf.bind (·.accounts) = some (q, r))
include hen hacc

/-- The read of the queue map may fail. -/
theorem forecastBody_of_fail (f : Flight) (st : BitVec 4) :
    forecastBody (.fail st) u f d = readFail u f (mapBeat q (leAt d 12 4)) (mapLen q (leAt d 12 4)) 2 st.toNat := by
  simp [forecastBody, hen, hacc]

/-- A queue whose entry is not valid has no account. -/
theorem forecastBody_of_unmapped {bs : List Byte} {corr : Bool} {f : Flight} (hmap : mapEntry bs = none) :
    forecastBody (.data bs corr) u f d =
      complete (readDone corr u f (mapBeat q (leAt d 12 4)) (mapLen q (leAt d 12 4)) 2) f 0x0015 0 := by
  simp [forecastBody, hen, hacc, hmap]

/-- A forecast of a mapped queue goes to the table. -/
theorem forecastBody_of_mapped {bs : List Byte} {corr : Bool} {f : Flight} {a : Nat} (hmap : mapEntry bs = some a) :
    forecastBody (.data bs corr) u f d =
      takeForecast (readDone corr u f (mapBeat q (leAt d 12 4)) (mapLen q (leAt d 12 4)) 2) f d a := by
  simp [forecastBody, hen, hacc, hmap]

end

/-! ## The table of forecasts (R218, R219) -/

/-- A forecast of the FC_ID of d is held and has not started, so that a new one replaces it. -/
def fcReplaces (u : State) (d : List Byte) : Bool := u.pb.fcs.any (fun x => x.id == leAt d 8 2 && !x.active)

/-- The table has room for the forecast of d: fewer than 256 are held, or it replaces one of 256. -/
def FcRoom (u : State) (d : List Byte) : Prop := u.pb.fcs.length < 256 ∨ (u.pb.fcs.length = 256 ∧ fcReplaces u d = true)

/-- The angle at which the forecast of d ends. -/
def fcStop (d : List Byte) : Angle := BitVec.ofNat 32 (leAt d 20 4) + BitVec.ofNat 32 (leAt d 24 2)

/-- The forecast that d describes, for account a. -/
def fcOf (u : State) (d : List Byte) (a : Nat) : Forecast :=
  { id := leAt d 8 2, queue := leAt d 12 4, acct := a, layer := leAt d 16 2, oper := leAt d 18 2
    start := BitVec.ofNat 32 (leAt d 20 4), span := leAt d 24 2, lead := leAt d 26 2, energy := leAt d 28 4, peak := leAt d 32 2
    past := !ahead (BitVec.ofNat 32 (leAt d 20 4)) u.sa.aX }

/-- The table with a forecast in the place of those of its FC_ID. -/
def putFc (l : List Forecast) (x : Forecast) : List Forecast := l.filter (·.id != x.id) ++ [x]

theorem not_full_of_room {u : State} {d : List Byte} (h : FcRoom u d) :
    ¬ (!fcReplaces u d && decide (256 ≤ u.pb.fcs.length)) = true := by
  rcases h with h | ⟨-, h⟩ <;> simp [h]

/-- A full table refuses a forecast that replaces none. -/
theorem takeForecast_of_full {u : State} {d : List Byte} (f : Flight) (a : Nat) (hnew : fcReplaces u d = false)
    (hfull : 256 ≤ u.pb.fcs.length) : takeForecast u f d a = complete (setF u Reg.PB_ERR.FC_FULL 1) f 0x0016 0 :=
  if_pos (show (!fcReplaces u d && decide (256 ≤ u.pb.fcs.length)) = true by simp [hnew, hfull])

section
variable {u : State} {d : List Byte} (f : Flight) (a : Nat) (hroom : FcRoom u d)
include hroom

/-- A forecast whose end is not ahead of A_x is stale. -/
theorem takeForecast_of_stale (hstop : ahead (fcStop d) u.sa.aX = false) :
    takeForecast u f d a = complete (setF u Reg.PB_ERR.FC_STALE 1) f 0x0017 0 :=
  (if_neg (not_full_of_room hroom)).trans (if_pos (show (!ahead (fcStop d) u.sa.aX) = true by rw [hstop]; rfl))

variable (hstop : ahead (fcStop d) u.sa.aX = true)
include hstop

/-- With room and time for a forecast, only an active one of its FC_ID refuses it. -/
theorem takeForecast_of_room : takeForecast u f d a =
    if u.pb.fcs.any (fun x => x.id == leAt d 8 2 && x.active) then complete u f 0x0018 0
    else complete (armTimers { u with pb.fcs := putFc u.pb.fcs (fcOf u d a) }) f 0 0 :=
  (if_neg (not_full_of_room hroom)).trans (if_neg (show ¬ (!ahead (fcStop d) u.sa.aX) = true by rw [hstop]; decide))

/-- A forecast of an FC_ID that is active is refused. -/
theorem takeForecast_of_active (hact : u.pb.fcs.any (fun x => x.id == leAt d 8 2 && x.active) = true) :
    takeForecast u f d a = complete u f 0x0018 0 := by
  rw [takeForecast_of_room f a hroom hstop, if_pos hact]

/-- Every other forecast is put into the table, and its command completes OK. -/
theorem takeForecast_of_taken (hact : u.pb.fcs.any (fun x => x.id == leAt d 8 2 && x.active) = false) :
    takeForecast u f d a = complete (armTimers { u with pb.fcs := putFc u.pb.fcs (fcOf u d a) }) f 0 0 := by
  rw [takeForecast_of_room f a hroom hstop, if_neg (by rw [hact]; exact Bool.false_ne_true)]

end

/-- A forecast put into the table is held once under its FC_ID. -/
theorem filter_id_putFc (l : List Forecast) (x : Forecast) : (putFc l x).filter (·.id == x.id) = [x] := by
  simp [putFc, List.filter_append, List.filter_filter]

/-- Forecasts of another FC_ID stay. -/
theorem mem_putFc_of_ne {l : List Forecast} {x y : Forecast} (hy : y ∈ l) (hne : y.id ≠ x.id) : y ∈ putFc l x :=
  List.mem_append_left _ (List.mem_filter.mpr ⟨hy, by simpa using hne⟩)

/-- The table keeps to 256 forecasts. -/
theorem length_putFc_le {u : State} {d : List Byte} (hroom : FcRoom u d) (a : Nat) :
    (putFc u.pb.fcs (fcOf u d a)).length ≤ 256 := by
  have hle := List.length_filter_le (fun x : Forecast => x.id != leAt d 8 2) u.pb.fcs
  have hlen : (putFc u.pb.fcs (fcOf u d a)).length = (u.pb.fcs.filter (fun x => x.id != leAt d 8 2)).length + 1 :=
    List.length_append
  rcases hroom with hlt | ⟨heq, hrep⟩
  · omega
  · obtain ⟨x, hx, hsame⟩ := List.any_eq_true.mp hrep
    obtain ⟨hid, -⟩ := Bool.and_eq_true_iff.mp hsame
    have hlt : (u.pb.fcs.filter (fun x => x.id != leAt d 8 2)).length < u.pb.fcs.length :=
      List.length_filter_lt_length_iff_exists.mpr ⟨x, hx, by simp [beq_iff_eq.mp hid]⟩
    omega

/-! ## FORECAST_CANCEL (R219) -/

/-- A FORECAST_CANCEL that passes R319 is carried out. -/
theorem exec_forecastCancel {s : State} {n : Nat} {d : List Byte} (hturn : Turn s n d) (hop : dOp d = 0x31)
    (hcancel : bitAt (byteAt d 10) 0 = true) (hpass : Passes s n d .taken (cancelSpec d)) :
    exec .forecastCancel s = .next (settle (cancelBody (takeHead s n d .taken).1 (takeHead s n d .taken).2 d)) :=
  congrArg finish (runDesc_of_passes hturn (by simp [hop, hcancel]) hpass)

theorem cancelBody_of_disabled {u : State} (f : Flight) (d : List Byte) (hen : flagOn u Reg.PB_CFG.FC_EN = false) :
    cancelBody u f d = complete u f 0x0014 0 :=
  if_pos (by simp [hen])

section
variable {u : State} {d : List Byte} (f : Flight) (hen : flagOn u Reg.PB_CFG.FC_EN = true)
include hen

theorem cancelBody_of_none (hfind : u.pb.fcs.find? (·.id == leAt d 8 2) = none) : cancelBody u f d = complete u f 0 0 := by
  simp [cancelBody, hen, hfind]

/-- A forecast that has not started is removed, as cancelled. -/
theorem cancelBody_of_waiting {x : Forecast} (hfind : u.pb.fcs.find? (·.id == leAt d 8 2) = some x) (hact : x.active = false) :
    cancelBody u f d = complete (armTimers (closeForecast u x 2)) f 0 0 := by
  simp [cancelBody, hen, hfind, hact]

/-- An active forecast is marked to end, as cancelled. -/
theorem cancelBody_of_active {x : Forecast} (hfind : u.pb.fcs.find? (·.id == leAt d 8 2) = some x) (hact : x.active = true) :
    cancelBody u f d = complete (markEnd u (fun a => a.eff == .forecast (leAt d 8 2)) 2) f 0 0 := by
  simp [cancelBody, hen, hfind, hact]

end

/-! ## The obligation -/

/-- Settles O35: each command is carried out or waits with its read, and its meaning is taken by the first refusal that holds. -/
theorem phaseBookCommandsAreJudged : Obligations.PhaseBookCommandsAreJudged := by
  unfold Obligations.PhaseBookCommandsAreJudged
  refine ⟨?_, ?_, fun s f a len c st => ?_, ?_, ?_, ?_⟩
  · rintro s u v n d bs b corr f hturn hop hpass htaken rfl hv
    obtain ⟨rfl, rfl⟩ := eq_takeHead htaken
    refine ⟨exec_phasebookLoad_of_held _ hturn hop hpass, fun hopen => ?_⟩
    simp only [exec_phasebookLoad_of_open _ hturn hop hpass hopen]
    refine ⟨fun hlen => ?_, fun k i hlen hcheck => ?_, fun hlen hcheck => ?_, fun st => rfl⟩
    · rw [pbLoadBody_of_length corr _ _ hlen, hv]
    · rw [pbLoadBody_of_rejected hv hlen hcheck]
    · rw [pbLoadBody_of_accepted hv hlen hcheck]
  · rintro s u f p rfl
    exact ⟨acceptProgram_of_tracking f p, acceptProgram_of_not_tracking f p⟩
  · obtain ⟨v, heq, h⟩ := readFail_eq_complete s f a len c st
    exact ⟨v, heq, h.be, h.pb, h.mf, h.bg, h.th⟩
  · rintro s u v n q d bs corr f hturn hop hnew hpass htaken rfl
    obtain ⟨rfl, rfl⟩ := eq_takeHead htaken
    have hflag : flagOn (takeHead s n d .taken).1 Reg.PB_CFG.FC_EN = flagOn s Reg.PB_CFG.FC_EN := by
      simp only [flagOn, getF, takeHead_regs]
    rw [hflag, takeHead_mf]
    have hexec := fun m => exec_forecast_of_open m hturn hop hnew hpass
    refine ⟨fun m hen => ?_, fun m hen hacc => ?_, fun m x hen hacc hheld => ?_, fun hopen => ⟨fun r st hen hacc => ?_,
      fun r hen hacc hmap => ?_, fun r a hen hacc hmap => ?_⟩⟩
    · rw [hexec m (.inl hen), forecastBody_of_disabled m _ (hflag.trans hen)]
    · rw [hexec m (.inr (.inl hacc)), forecastBody_of_no_accounts m _ (hflag.trans hen) (by rw [takeHead_mf, hacc])]
    · exact exec_forecast_of_held m hturn hop hnew hpass hen (by rw [hacc]; rfl) hheld
    · rw [hexec _ (.inr (.inr hopen)), forecastBody_of_fail (hflag.trans hen) (by rw [takeHead_mf, hacc])]
    · rw [hexec _ (.inr (.inr hopen)), forecastBody_of_unmapped (hflag.trans hen) (by rw [takeHead_mf, hacc]) hmap]
    · rw [hexec _ (.inr (.inr hopen)), forecastBody_of_mapped (hflag.trans hen) (by rw [takeHead_mf, hacc]) hmap]
  · intro u f d a room hiff
    change room ↔ FcRoom u d at hiff
    rw [hiff]
    refine ⟨takeForecast_of_full f a, takeForecast_of_stale f a, takeForecast_of_active f a, fun hroom hstop hact => ?_⟩
    have hfcs : (takeForecast u f d a).pb.fcs = putFc u.pb.fcs (fcOf u d a) := by
      rw [takeForecast_of_taken f a hroom hstop hact, complete_pb, armTimers_pb]
    rw [hfcs]
    exact ⟨congrArg List.length (filter_id_putFc u.pb.fcs (fcOf u d a)), fun x hx hid => mem_putFc_of_ne hx hid,
      length_putFc_le hroom a⟩
  · rintro s u n d f hturn hop hcancel hpass htaken
    obtain ⟨rfl, rfl⟩ := eq_takeHead htaken
    rw [exec_forecastCancel hturn hop hcancel hpass]
    refine ⟨fun hen => ?_, fun hen hfind => ?_, fun x hen hfind hact => ?_, fun x hen hfind hact => ?_⟩
    · rw [cancelBody_of_disabled _ _ hen]
    · rw [cancelBody_of_none _ hen hfind]
    · rw [cancelBody_of_waiting _ hen hfind hact]
    · rw [cancelBody_of_active _ hen hfind hact]

end Sys2Proof.Machine
end
